-- ==== Sys2Proof/Word.lean ====
section
/-!
DEFINITION. The byte of the ring, the EEPROM and the tables, and the plainest arithmetic of 00_scope.md ("Arithmetic",
"Clamping and counting").
-/

namespace Sys2Proof

/-- One byte of a frame, a table record or the EEPROM. -/
abbrev Byte := BitVec 8

/-- The byte that carries `n` modulo 256. -/
abbrev byte (n : Nat) : Byte := BitVec.ofNat 8 n

/-- A value is clamped to `lo..hi` (00_scope.md, "To clamp a value to a range"). -/
def clampInt (lo hi x : Int) : Int := if x < lo then lo else if hi < x then hi else x

/-- A saturating counter counts (00_scope.md, "A saturating counter"). -/
def satCount (bound n : Nat) : Nat := if n < bound then n + 1 else bound

/-- floor of a quotient rounded up: the smallest integer not below a / b. -/
def ceilDiv (a b : Nat) : Nat := (a + b - 1) / b

/-- Distance of two chainages, the absolute value of x - y (R70). -/
def dist (x y : Nat) : Nat := if x ≤ y then y - x else x - y

end Sys2Proof
end

