-- ==== Sys2Proof/Syntax.lean ====
section
/-!
DEFINITION. The commands of the block: one constructor of `Instr` for each row of spec/opcode_table.json, with the
named fields that the rows carry.
-/

namespace Sys2Proof

/-- A direction along the bore (00_scope.md, "Direction"). -/
inductive Dir where
  | towardA
  | towardB
  deriving DecidableEq, Repr

/-- A drive's direction of rotation (R20, FAN COMMAND byte 1). -/
inductive Drive where
  | fwd
  | rev
  deriving DecidableEq, Repr

/-- A speed step (R20, FAN COMMAND byte 2). -/
inductive SpeedStep where
  | full
  | half
  deriving DecidableEq, Repr

/-- The quality a station gives with a sample (R37). -/
inductive Quality where
  | good
  | suspect
  deriving DecidableEq, Repr

/-- The line state of a heat line (R37). -/
inductive LineState where
  | normal
  | alarm
  | fault
  deriving DecidableEq, Repr

/-- A drive state: the six a drive reports, and UNKNOWN, which the part gives by age (R143, R144). -/
inductive DriveState where
  | stopped
  | accel
  | running
  | decel
  | tripped
  | lockout
  | unknown
  deriving DecidableEq, Repr

/-- Who gave a fan command (R20). -/
inductive CmdOrigin where
  | chip
  | centre
  deriving DecidableEq, Repr

/-- The trip cause of a drive (R20). -/
inductive TripCause where
  | none
  | overcurrent
  | overtemp
  | supply
  | other
  deriving DecidableEq, Repr

/-- The role of a station entry (02_frame_classification.md, section 2.1). -/
inductive Role where
  | anemometer
  | opacity
  | temperature
  | heatLine
  | trainGateway
  | controlCentre
  | terminal
  deriving DecidableEq, Repr

/-- The outcome of the source lookup of R22. -/
inductive Lookup where
  | station (index : Nat) (role : Role)
  | drive (fan : Nat)
  | unknown
  deriving DecidableEq, Repr

/-- The payload fields of a TRAIN REPORT (R20, R56). -/
structure TrainReport where
  id : Nat
  head : Nat
  tail : Nat
  speed : Nat
  dir : Dir
  stopped : Bool
  fire : Bool
  leftBore : Bool
  offset : Option Nat
  deriving DecidableEq, Repr

/-- The payload fields of a FAN STATUS (R20, R143). -/
structure FanStatus where
  drive : DriveState
  dir : Drive
  step : SpeedStep
  number : Nat
  origin : CmdOrigin
  seconds : Nat
  temperature : Int
  trip : TripCause
  deriving DecidableEq, Repr

/-- The payload fields of an INCIDENT DECLARE (R20, R78). -/
structure Declaration where
  severity : Nat
  chainage : Option Nat
  zone : Option Nat
  train : Option Nat
  deriving DecidableEq, Repr

/-- A received frame's fields (R2). -/
structure Frame where
  dest : Nat
  source : Nat
  kind : Nat
  sequence : Nat
  payload : List Byte
  deriving DecidableEq, Repr

/-- What the dispatch of a MANAGEMENT REQUEST carries (R29): source, source lookup, sequence, and the payload after
the request code. -/
structure Request where
  source : Nat
  lookup : Lookup
  sequence : Nat
  table : Nat
  index : Nat
  fields : List Byte
  deriving DecidableEq, Repr

/-- The commands: one constructor per row of spec/opcode_table.json. -/
inductive Instr where
  /-- POWER_ON_RESET with the levels of the LOOP and ADDR straps. -/
  | powerOnReset (loop : Bool) (addr : BitVec 6)
  /-- RESET_N: the pin is asserted. -/
  | resetN
  /-- FRAME_RECEIVED: the bytes of a whole frame on ring IN. -/
  | frameReceived (bytes : List Byte)
  /-- TRANSMISSION_END. -/
  | transmissionEnd
  /-- IN_SILENT_RAISED. -/
  | inSilentRaised
  /-- STRIP_ADDRESS_EXPIRY. -/
  | stripAddressExpiry
  /-- VELOCITY_SAMPLE dispatched for a station index: velocity as sent, quality. -/
  | velocitySample (station : Nat) (velocity : Int) (quality : Quality)
  /-- OPACITY_SAMPLE dispatched for a station index: extinction as sent, quality. -/
  | opacitySample (station : Nat) (extinction : Nat) (quality : Quality)
  /-- TEMPERATURE_SAMPLE dispatched for a station index: temperature as sent, quality. -/
  | temperatureSample (station : Nat) (temperature : Int) (quality : Quality)
  /-- HEAT_LINE_REPORT dispatched for a station index: line state, alarm distance as sent. -/
  | heatLineReport (station : Nat) (line : LineState) (alarm : Option Nat)
  /-- TRAIN_REPORT dispatched from a gateway. -/
  | trainReport (report : TrainReport)
  /-- FAN_STATUS dispatched for a fan index. -/
  | fanStatus (fan : Nat) (status : FanStatus)
  /-- INCIDENT_DECLARE with the sequence of its frame. -/
  | incidentDeclare (sequence : Nat) (declaration : Declaration)
  /-- INCIDENT_CLEAR with the number it carries, 0 for all. -/
  | incidentClear (number : Nat)
  /-- AUTHORITY_RELEASE with the number it carries, 0 for whatever is head. -/
  | authorityRelease (number : Nat)
  /-- AUTHORITY_RESUME. -/
  | authorityResume
  /-- OPEN_LOAD. -/
  | openLoad (request : Request)
  /-- WRITE_RECORD. -/
  | writeRecord (request : Request)
  /-- CLOSE_LOAD. -/
  | closeLoad (request : Request)
  /-- READ_RECORD. -/
  | readRecord (request : Request)
  /-- READ_STATE. -/
  | readState (request : Request)
  /-- READ_FAN. -/
  | readFan (request : Request)
  /-- READ_COUNTERS. -/
  | readCounters (request : Request)
  /-- STORE_TABLES. -/
  | storeTables (request : Request)
  /-- SET_TEST_MODE. -/
  | setTestMode (request : Request)
  /-- INJECT. -/
  | inject (request : Request)
  /-- SOFT_RESET. -/
  | softReset (request : Request)
  /-- CANDIDATE_DEADLINE of a candidate slot. -/
  | candidateDeadline (slot : Nat)
  /-- PHASE_TIMER_EXPIRY. -/
  | phaseTimerExpiry
  /-- LOCK_TIMER_EXPIRY of the listed incident with a number. -/
  | lockTimerExpiry (number : Nat)
  /-- TRIM_TIMER_EXPIRY. -/
  | trimTimerExpiry
  /-- STATUS_AGE_UNKNOWN of a fan. -/
  | statusAgeUnknown (fan : Nat)
  /-- ACK_DEADLINE of a fan's exchange. -/
  | ackDeadline (fan : Nat)
  /-- RESEND_TIME of a fan's exchange. -/
  | resendTime (fan : Nat)
  /-- SILENCE_RESEND: every open exchange. -/
  | silenceResend
  /-- START_SPACING_EXPIRY. -/
  | startSpacingExpiry
  /-- DWELL_TIMER_EXPIRY of a fan. -/
  | dwellTimerExpiry (fan : Nat)
  /-- START_TIMER_EXPIRY of a fan. -/
  | startTimerExpiry (fan : Nat)
  /-- HOLD_REFRESH. -/
  | holdRefresh
  /-- TRAIN_RECORD_EXPIRY of a Train Table slot. -/
  | trainRecordExpiry (slot : Nat)
  /-- START_UP_LOAD_END; `answers` says whether the EEPROM answered the reads of the load. -/
  | startUpLoadEnd (answers : Bool)
  /-- STORE_WRITE_READY. -/
  | storeWriteReady
  /-- STORE_WRITE_TIMEOUT. -/
  | storeWriteTimeout
  /-- TEST_FRAME_OFFER. -/
  | testFrameOffer
  /-- TEST_FRAME_DEADLINE of an outstanding test number. -/
  | testFrameDeadline (number : Nat)
  /-- TEST_FRAME_RECEIVED: the bytes of a whole frame on ring IN in the continuity test. -/
  | testFrameReceived (bytes : List Byte)
  /-- TEST_READ_COUNTERS: source and sequence of the request. -/
  | testReadCounters (source : Nat) (sequence : Nat)
  /-- RESET_N_RELEASE with the levels of the ADDR straps. -/
  | resetNRelease (addr : BitVec 6)
  deriving DecidableEq, Repr

end Sys2Proof
end

