-- ==== Sys2Proof/Config.lean ====
section
/-!
DEFINITION. What the manual fixes as a number for every part, and the free values: the random backoff of R151, and the
bits of the EEPROM's status byte of which R212 says nothing.
-/

namespace Sys2Proof.Config

/-- The n-th draw of the backoff generator. R151: "A backoff of b slots of 10 ms is drawn at random". Nothing is
assumed of it; the meaning of ACK_DEADLINE keeps it within 0..2^k - 1 (log 6). -/
opaque backoffDraw : Nat → Nat

/-- The status byte that a device drives on the n-th draw. R212 gives bit 0 alone, which the port's own rule then fixes;
nothing is assumed of the other bits (log 34). -/
opaque statusByte : Nat → Byte

/-- IN SILENT is raised after this time without a valid frame, in ms (R17). -/
def silenceLimit : Nat := 500
/-- The earlier own address stays in the strip set for this time, in ms (R6). -/
def stripTime : Nat := 1000
/-- Capacity of the forward queue (R9). -/
def forwardCapacity : Nat := 8
/-- Capacity of the insert queue (R11). -/
def insertCapacity : Nat := 16
/-- A sample record is stale when older than this, in ms (R40). -/
def sampleStale : Nat := 5000
/-- A train record is STALE when older than this, in ms (R59). -/
def trainStale : Nat := 10000
/-- A train record expires at this age, in ms (R59). -/
def trainExpiry : Nat := 300001
/-- A heat-line alarm that moved this far raises a new event, in m (R44). -/
def heatLineMove : Nat := 25
/-- Capacity of the incident list (R82). -/
def listCapacity : Nat := 4
/-- A reported drive state becomes UNKNOWN at this age, in ms (R144). -/
def statusLimit : Nat := 6000
/-- The acknowledgement timeout, in ms (section 8, "fixed"). -/
def ackTimeout : Nat := 250
/-- The retry limit of an exchange (section 8, "fixed"). -/
def retryLimit : Nat := 4
/-- The backoff slot, in ms (section 8, "fixed"). -/
def backoffSlot : Nat := 10
/-- The spacing of the re-sends during IN SILENT, in ms (R165). -/
def silenceResend : Nat := 1000
/-- At most one interception hold in this time, in ms (R182). -/
def holdSpacing : Nat := 1000
/-- A write of the STORE must be ready within this time, in ms (R204). -/
def storeLimit : Nat := 20
/-- The spacing of the test frames, in ms (R209). -/
def testSpacing : Nat := 10
/-- A test frame is lost when not returned within this time, in ms (R209). -/
def testDeadline : Nat := 100
/-- The largest thrust, in TU (00_scope.md, "Thrust"). -/
def thrustMax : Nat := 65535
/-- The time base counts modulo this (R1: a 48-bit count; log 23). -/
def clockModulus : Nat := 2 ^ 48
/-- Bytes of the external EEPROM (section 10.6). -/
def eepromSize : Nat := 32768
/-- Last address of the stored image (R202). -/
def imageLast : Nat := 4702

end Sys2Proof.Config
end

