-- ==== Sys2Proof/Machine/State.lean ====
section
/-!
DEFINITION. The state of the part: every piece of state the manual names, block by block, as plain data; the faults and
refusals; the state after reset. INVENTORY.md lists each field with the rule that names it.
-/

namespace Sys2Proof.Machine

open Sys2Proof

/-- The reasons the machine stops with a fault. -/
inductive Fault where
  /-- Raised by a STORE write outside the 32 KiB EEPROM (section 10.6). R202 keeps the image within addresses
  0..4,702, so no state raises it. Safe: the model stops where no behaviour is stated. -/
  | configMemoryAddress (address : Nat)
  deriving DecidableEq, Repr

/-- The reasons a command has no meaning. -/
inductive Refusal where
  /-- Raised by an arm of exec whose command has no meaning in the model. No arm does. Safe. -/
  | notModelled (mnemonic : String)
  deriving DecidableEq, Repr

/-! ## Ring Port -/

/-- The two queues that share ring OUT (R14). -/
inductive QueueMark where
  | forward
  | insert
  deriving DecidableEq, Repr

/-- A frame waiting in the insert queue (R10, R11): what its block gave. `softReset` marks the DONE response of a
SOFT RESET (R201). -/
structure QFrame where
  dest : Nat
  kind : Nat
  payload : List Byte
  softReset : Bool
  deriving DecidableEq, Repr

/-- The frame whose transmission on ring OUT has begun (R13). -/
structure TxFrame where
  bytes : List Byte
  softReset : Bool
  deriving DecidableEq, Repr

/-- The ring counters and the activity flag (R15). -/
structure Counters where
  good : Nat
  bad : Nat
  forwardOverrun : Nat
  reportDrop : Nat
  commandDrop : Nat
  unknownSource : Nat
  roleMismatch : Nat
  activity : Bool
  deriving DecidableEq, Repr

/-- Counters after reset and after READ COUNTERS (R15, R16). -/
def Counters.zero : Counters := ⟨0, 0, 0, 0, 0, 0, 0, false⟩

/-- The Ring Port (01_the_field_ring.md). -/
structure Port where
  forward : List (List Byte)
  commands : List QFrame
  reports : List QFrame
  out : Option TxFrame
  mark : QueueMark
  sequence : Nat
  ownAddr : Nat
  /-- The earlier own address still in the strip set, and the ms it stays (R6). -/
  earlier : Option (Nat × Nat)
  counters : Counters
  silence : Nat
  inSilent : Bool
  /-- ms since IN SILENT was raised or the last silence re-send (R165). -/
  silentFor : Nat
  deriving DecidableEq, Repr

/-! ## Sample Store -/

/-- A PRESENT sample (R37). -/
structure Sample where
  value : Option Int
  quality : Quality
  overRange : Bool
  takenAt : Nat
  line : Option LineState
  alarm : Option Nat
  deriving DecidableEq, Repr

/-- A threshold state (R41). -/
inductive Threshold where
  | armed
  | tripped
  deriving DecidableEq, Repr

/-- What the Sample Store holds for one station index; `sample` is none in state ABSENT (R37). -/
structure StationRecord where
  sample : Option Sample
  threshold : Threshold
  faultLock : Bool
  lastEvent : Option Nat
  injected : Bool
  deriving DecidableEq, Repr

/-- A station record after reset (R54). -/
def StationRecord.absent : StationRecord := ⟨none, .armed, false, none, false⟩

/-! ## Train Table -/

/-- A train record (R55). -/
structure Train where
  id : Nat
  head : Nat
  tail : Nat
  dir : Dir
  speed : Nat
  stopped : Bool
  fire : Bool
  offset : Option Nat
  takenAt : Nat
  injected : Bool
  deriving DecidableEq, Repr

/-! ## Incident Manager -/

/-- A chainage source (R69, R70). -/
inductive ChSource where
  | opacity
  | temperature
  | train
  | heatLine
  | centre
  deriving DecidableEq, Repr

/-- A detector event type (R46, R62). -/
inductive EventType where
  | opacity
  | temperature
  | heatLine
  | trainFire
  deriving DecidableEq, Repr

/-- A source set (R69): which event types have reached a candidate. -/
structure SourceSet where
  opacity : Bool
  temperature : Bool
  heatLine : Bool
  trainFire : Bool
  deriving DecidableEq, Repr

/-- A candidate record (R69); it is CONFIRMED exactly when `confirmedAt` is present. -/
structure Candidate where
  chainage : Nat
  source : ChSource
  set : SourceSet
  train : Option Nat
  stopped : Bool
  createdAt : Nat
  deadline : Nat
  confirmedAt : Option Nat
  deriving DecidableEq, Repr

/-- Where a scenario came from (R103). -/
inductive ScenarioRef where
  | record (number : Nat)
  | fallback
  | none
  deriving DecidableEq, Repr

/-- A fallback cause (R105). -/
inductive FallbackCause where
  | setNotValid
  | noEntry
  | outOfRange
  | recordInvalid
  | badGroup
  deriving DecidableEq, Repr

/-- The plan saved with a suspended incident (R81). The fallback cause and the chosen-under zone and class belong to the
live scenario, which R103 has handed over on suspension and taken back on restore (log 29). -/
structure SavedPlan where
  scenario : ScenarioRef
  dir : Option Dir
  cause : Option FallbackCause
  under : Option (Nat × Nat)
  locked : Bool
  /-- Lock time remaining in ms; none when the timer has expired (R103). -/
  lockTimer : Option Nat
  demand : Nat
  saturated : Bool
  deriving DecidableEq, Repr

/-- The state of a listed incident (R81). -/
inductive IncidentState where
  | head
  | suspended
  deriving DecidableEq, Repr

/-- The origin of an incident (R81). -/
inductive Origin where
  | auto
  | centre
  deriving DecidableEq, Repr

/-- A head phase (R89, R90). -/
inductive Phase where
  | delay
  | staging
  | regulating
  deriving DecidableEq, Repr

/-- An incident record (R81). `serial` counts listings, to tell which of two incidents was listed first (R85). -/
structure Incident where
  number : Nat
  chainage : Nat
  source : ChSource
  zone : Nat
  severity : Nat
  origin : Origin
  train : Option Nat
  listedAt : Nat
  serial : Nat
  state : IncidentState
  saved : Option SavedPlan
  phase : Option Phase
  deriving DecidableEq, Repr

/-- The Incident Manager (05_incidents.md). -/
structure IncidentManager where
  candidates : List (Option Candidate)
  list : List Incident
  nextNumber : Nat
  phaseTimer : Option Nat
  listings : Nat
  deriving DecidableEq, Repr

/-! ## Scenario Lookup -/

/-- The live scenario of the head, with its direction lock (R103). -/
structure Live where
  scenario : ScenarioRef
  dir : Option Dir
  vt : Nat
  P : Nat
  H : Nat
  h : Nat
  startDelay : Nat
  groups : List Nat
  cause : Option FallbackCause
  /-- The chosen-under zone and class; not held on scenario none. -/
  under : Option (Nat × Nat)
  locked : Bool
  lockTimer : Option Nat
  deriving DecidableEq, Repr

/-! ## Thrust Planner -/

/-- The head plan's own fields (R119); the scenario's fields are read from the live scenario, the wanted states from
the fan records. -/
structure Plan where
  demand : Nat
  saturated : Bool
  selection : List Nat
  shortfall : Nat
  trim : Option Nat
  deriving DecidableEq, Repr

/-- No plan (R141). -/
def Plan.empty : Plan := ⟨0, false, [], 0, none⟩

/-! ## Fan Sequencer -/

/-- A wanted state (R119, R143). -/
inductive Wanted where
  | stop
  | run (dir : Drive) (step : SpeedStep)
  deriving DecidableEq, Repr

/-- A sequencer state (chapter 8). -/
inductive FanState where
  | handsOff
  | stopped
  | queued
  | starting
  | settling
  | running
  | stopping
  | dwell
  | failed
  | lost
  | unavailable
  deriving DecidableEq, Repr

/-- The action of a FAN COMMAND (R20). -/
inductive Action where
  | stop
  | run
  deriving DecidableEq, Repr

/-- A fan command (R149). -/
structure FanCommand where
  action : Action
  dir : Drive
  step : SpeedStep
  number : Nat
  deriving DecidableEq, Repr

/-- What an open exchange waits for, with the ms left (R143, R151). -/
inductive Wait where
  | ack (ms : Nat)
  | resend (ms : Nat)
  deriving DecidableEq, Repr

/-- A command exchange (R143). -/
inductive Exchange where
  | closed
  | opened (command : FanCommand) (retries : Nat) (wait : Wait)
  deriving DecidableEq, Repr

/-- The reported part of a fan record (R143). -/
structure Reported where
  drive : DriveState
  dir : Drive
  step : SpeedStep
  number : Nat
  origin : CmdOrigin
  seconds : Nat
  temperature : Int
  trip : TripCause
  takenAt : Option Nat
  injected : Bool
  deriving DecidableEq, Repr

/-- The reported part after reset (R170). -/
def Reported.unknown : Reported := ⟨.unknown, .fwd, .full, 0, .chip, 0, 0, .none, none, false⟩

/-- A fan record (R143). `lastRun` is the direction and step of the last RUN sent (R155). -/
structure FanRecord where
  reported : Reported
  state : FanState
  wanted : Wanted
  step : SpeedStep
  fullFails : Nat
  halfFails : Nat
  failed : Bool
  lost : Bool
  dwell : Option Nat
  start : Option Nat
  lastIssued : Nat
  exchange : Exchange
  lastRun : Option (Drive × SpeedStep)
  deriving DecidableEq, Repr

/-- A fan record after reset (R170). -/
def FanRecord.reset : FanRecord :=
  ⟨.unknown, .handsOff, .stop, .full, 0, 0, false, false, none, none, 0, .closed, none⟩

/-- The Fan Sequencer (08_fan_sequencing.md). `spacing` is none when the start spacing has elapsed. -/
structure Sequencer where
  recs : List FanRecord
  queue : List Nat
  spacing : Option Nat
  inCommand : Bool
  deriving DecidableEq, Repr

/-! ## Authority Controller -/

/-- The authority state (R171). -/
inductive AuthState where
  | starting
  | unconfigured
  | monitor
  | autonomous
  | released
  deriving DecidableEq, Repr

/-- The Authority Controller (09_control_authority.md). -/
structure Authority where
  state : AuthState
  holdRemaining : Nat
  lastHold : Option Nat
  intercepted : Nat
  dryRun : Bool
  deriving DecidableEq, Repr

/-! ## Table Store -/

/-- The validity of a table (R188). -/
inductive Validity where
  | invalid
  | loading
  | valid
  deriving DecidableEq, Repr

/-- The eight tables (R188). -/
inductive TableId where
  | global
  | zones
  | stations
  | fans
  | groups
  | hash
  | directory
  | scenarios
  deriving DecidableEq, Repr

/-- One table: validity, loaded record count, the field bytes of every record of its capacity, written marks
(R188, R194). The global parameter record is held as its two parts. -/
structure Table where
  validity : Validity
  count : Nat
  recs : List (List Byte)
  written : List Bool
  deriving DecidableEq, Repr

/-- The values of the global parameter record that the blocks use (R189, R190). -/
structure Params where
  ownAddr : Nat
  L : Nat
  R : Nat
  G : Nat
  deadBand : Nat
  M : Nat
  trimInterval : Nat
  sMax : Nat
  startSpacing : Nat
  startLimit : Nat
  dwell : Nat
  fFull : Nat
  fHalf : Nat
  k : Nat
  holdTime : Nat
  refresh : Nat
  passAll : Bool
  defaultDir : Dir
  mergeDistance : Nat
  confirmWindow : Nat
  autoConfirm : Bool
  opacityThreshold : Nat
  temperatureThreshold : Int
  clearDistance : Nat
  lockTime : Nat
  fallbackVt : Nat
  fallbackP : Nat
  fallbackH : Nat
  fallbackh : Nat
  noticeGroup : Nat
  deriving DecidableEq, Repr

/-- R190: "Before the record has been VALID since the last reset, each field is taken at its default (R189), and L,
which has no default, is taken as 65,535." -/
def Params.default : Params where
  ownAddr := 0
  L := 65535
  R := 180
  G := 24
  deadBand := 20
  M := 100
  trimInterval := 30
  sMax := 2
  startSpacing := 3
  startLimit := 30
  dwell := 20
  fFull := 2
  fHalf := 1
  k := 3
  holdTime := 30
  refresh := 10
  passAll := false
  defaultDir := .towardB
  mergeDistance := 200
  confirmWindow := 60
  autoConfirm := false
  opacityThreshold := 5000
  temperatureThreshold := 80
  clearDistance := 100
  lockTime := 120
  fallbackVt := 300
  fallbackP := 0
  fallbackH := 600
  fallbackh := 70
  noticeGroup := 0xFFFF

/-- The write a STORE is making (R204). -/
inductive StoreWrite where
  /-- Address 0 is written with 0x00. -/
  | clearSignature
  /-- A page is written from the RAM tables. -/
  | page (number : Nat)
  /-- Address 0 is written with 0x5C. -/
  | setSignature
  deriving DecidableEq, Repr

/-- The store engine (R204): the write in progress and the ms left of its ready limit. -/
inductive StoreEngine where
  | idle
  | running (write : StoreWrite) (left : Nat)
  deriving DecidableEq, Repr

/-- What the configuration memory port is doing (R205). -/
inductive PortMode where
  | idle
  | reading
  | writing
  deriving DecidableEq, Repr

/-- One transfer on the configuration memory port, from the fall of select to its rise (R212): the bytes driven on data
out, and the bytes then sampled on data in. -/
structure Transfer where
  out : List Byte
  back : List Byte
  deriving DecidableEq, Repr

/-- The configuration memory port: its mode and the transfers of its last operation (R205, R212). -/
structure ConfigPort where
  mode : PortMode
  transfers : List Transfer
  deriving DecidableEq, Repr

/-- The Table Store (10_tables_management_requests_and_stored_image.md). -/
structure TableStore where
  global : Table
  zones : Table
  stations : Table
  fans : Table
  groups : Table
  hash : Table
  directory : Table
  scenarios : Table
  params : Params
  store : StoreEngine
  imageFault : Bool
  port : ConfigPort
  deriving DecidableEq, Repr

/-- Capacity of a table, in records of `recs` (R188). -/
def TableId.capacity : TableId → Nat
  | .global => 2
  | .zones => 32
  | .stations => 64
  | .fans => 48
  | .groups => 24
  | .hash => 64
  | .directory => 32
  | .scenarios => 128

/-- Field bytes of one record of a table; a part for the global parameter table (R202, R206). -/
def TableId.recordSize : TableId → Nat
  | .global => 22
  | .zones => 4
  | .stations => 11
  | .fans => 9
  | .groups => 2
  | .hash => 1
  | .directory => 2
  | .scenarios => 25

/-- A table after reset: INVALID, count 0, every record 0, written marks clear (R205). -/
def Table.reset (t : TableId) : Table :=
  ⟨.invalid, 0, List.replicate t.capacity (List.replicate t.recordSize 0), List.replicate t.capacity false⟩

/-- The Table Store after reset (R205): the port is reading for the start-up load. -/
def TableStore.reset : TableStore where
  global := .reset .global
  zones := .reset .zones
  stations := .reset .stations
  fans := .reset .fans
  groups := .reset .groups
  hash := .reset .hash
  directory := .reset .directory
  scenarios := .reset .scenarios
  params := .default
  store := .idle
  imageFault := false
  port := ⟨.reading, []⟩

/-! ## Ring continuity test, chip, outputs -/

/-- The ring continuity test (R208, R209): counters, outstanding numbers with the ms left, test number, ms to the
next offer. -/
structure LoopTest where
  sent : Nat
  good : Nat
  bad : Nat
  lost : Nat
  outstanding : List (Nat × Nat)
  number : Nat
  offerIn : Nat
  deriving DecidableEq, Repr

/-- The test state after reset (R208). -/
def LoopTest.reset : LoopTest := ⟨0, 0, 0, 0, [], 0, 0⟩

/-- Reset and straps. `testMode` is the LOOP strap as sampled at power-on (R208). -/
structure Chip where
  inReset : Bool
  testMode : Bool
  pinAddr : BitVec 6
  strap : BitVec 6
  softResetDue : Bool
  deriving DecidableEq, Repr

/-- The status outputs (R185, R186). -/
structure Outputs where
  incident : Bool
  auth : Bool
  fault : Bool
  deriving DecidableEq, Repr

/-- The external EEPROM (section 10.6): its bytes, and whether it answers on the port (R212). -/
structure Eeprom where
  cells : List Host.Cell
  answers : Bool
  deriving DecidableEq, Repr

/-- A frame from the ring that the classifier has dispatched and its block has not yet taken (R26, R29, R30, R35): the
frame with its kind, source, sequence and payload, the outcome of the source lookup with its station or fan index (R22),
and the command by which its block takes it. No command stands for a MANAGEMENT REQUEST that is marked malformed, or
whose request code is 0 or above 11: the Responder answers it BAD_VALUE (R29, R191). -/
structure Dispatch where
  frame : Frame
  lookup : Lookup
  command : Option Instr
  deriving DecidableEq, Repr

/-- The state of the part and of the EEPROM behind its port. -/
structure State where
  pending : List Instr
  dispatched : List Dispatch
  clock : Nat
  chip : Chip
  outs : Outputs
  port : Port
  samples : List StationRecord
  trains : List (Option Train)
  incidents : IncidentManager
  live : Option Live
  plan : Plan
  fans : Sequencer
  auth : Authority
  tables : TableStore
  eeprom : Eeprom
  test : LoopTest
  draws : Nat
  deriving DecidableEq, Repr

/-! ## Reset -/

/-- The strapped address: 0x7F00 plus the value on ADDR5..ADDR0 (R7). -/
def strappedAddr (strap : BitVec 6) : Nat := 0x7F00 + strap.toNat

/-- The Ring Port's post-reset state (R19). -/
def Port.reset (strap : BitVec 6) : Port where
  forward := []
  commands := []
  reports := []
  out := none
  mark := .insert
  sequence := 0
  ownAddr := strappedAddr strap
  earlier := none
  counters := .zero
  silence := 0
  inSilent := false
  silentFor := 0

/-- The Incident Manager after reset (R96). -/
def IncidentManager.reset : IncidentManager := ⟨List.replicate 8 none, [], 1, none, 0⟩

/-- The Fan Sequencer after reset (R170). -/
def Sequencer.reset : Sequencer := ⟨List.replicate 48 .reset, [], none, false⟩

/-- The Authority Controller after reset (R187). -/
def Authority.reset : Authority := ⟨.starting, 0, none, 0, false⟩

/-- Every block at its post-reset state, with the given strap sample and test selection. The queue, the EEPROM, the
pin levels and the count of backoff draws are no state that a reset discards. -/
def State.afterReset (strap : BitVec 6) (testMode : Bool) (pending : List Instr) (eeprom : Eeprom)
    (draws : Nat) : State where
  pending := pending
  dispatched := []
  clock := 0
  chip := ⟨false, testMode, strap, strap, false⟩
  outs := ⟨false, false, false⟩
  port := .reset strap
  samples := List.replicate 64 .absent
  trains := List.replicate 8 none
  incidents := .reset
  live := none
  plan := .empty
  fans := .reset
  auth := .reset
  tables := .reset
  eeprom := eeprom
  test := .reset
  draws := draws

/-- The machine right after reset: STARTING, the start-up load running, straps low, LOOP low, a blank EEPROM that
answers, and an empty queue (log 7, log 9). -/
def State.reset : State := State.afterReset 0 false [] ⟨[], true⟩ 0

end Sys2Proof.Machine
end

