-- ==== Sys2Proof/Machine/Flags.lean ====
section
/-!
DEFINITION. The codes of the enumerated fields (R20, R95, R171, R206), the bit fields of the notices and responses, and
the conditions of the three status outputs (R185, R186).
-/

namespace Sys2Proof.Machine

open Sys2Proof

/-! ## Codes -/

/-- The value of a set bit. -/
def bit (b : Bool) (weight : Nat) : Nat := if b then weight else 0

/-- 0 clear, 1 set. -/
def flagCode (b : Bool) : Nat := bit b 1

/-- R95: flow direction 0 TOWARD_A, 1 TOWARD_B. -/
def dirCode : Dir → Nat
  | .towardA => 0
  | .towardB => 1

/-- R20: 0 FWD, 1 REV. -/
def driveCode : Drive → Nat
  | .fwd => 0
  | .rev => 1

/-- R20: 0 FULL, 1 HALF. -/
def stepCode : SpeedStep → Nat
  | .full => 0
  | .half => 1

/-- R20: 0 STOP, 1 RUN. -/
def actionCode : Action → Nat
  | .stop => 0
  | .run => 1

/-- R20, R206: 0 STOPPED .. 5 LOCAL, 6 UNKNOWN. -/
def driveStateCode : DriveState → Nat
  | .stopped => 0
  | .accel => 1
  | .running => 2
  | .decel => 3
  | .tripped => 4
  | .lockout => 5
  | .unknown => 6

/-- R20: 0 CHIP, 1 CENTRE. -/
def cmdOriginCode : CmdOrigin → Nat
  | .chip => 0
  | .centre => 1

/-- R20: trip cause codes. -/
def tripCode : TripCause → Nat
  | .none => 0
  | .overcurrent => 1
  | .overtemp => 2
  | .supply => 3
  | .other => 4

/-- R20: 0 GOOD, 1 SUSPECT. -/
def qualityCode : Quality → Nat
  | .good => 0
  | .suspect => 1

/-- R20: 0 NORMAL, 1 ALARM, 2 FAULT. -/
def lineCode : LineState → Nat
  | .normal => 0
  | .alarm => 1
  | .fault => 2

/-- R206: 0 ARMED, 1 TRIPPED. -/
def thresholdCode : Threshold → Nat
  | .armed => 0
  | .tripped => 1

/-- R95: chainage source codes. -/
def chSourceCode : ChSource → Nat
  | .opacity => 0
  | .temperature => 1
  | .train => 2
  | .heatLine => 3
  | .centre => 4

/-- R95: event type codes. -/
def eventCode : EventType → Nat
  | .opacity => 0
  | .temperature => 1
  | .heatLine => 2
  | .trainFire => 3

/-- R95: source set bits. -/
def sourceSetCode (s : SourceSet) : Nat :=
  bit s.opacity 1 + bit s.temperature 2 + bit s.heatLine 4 + bit s.trainFire 8

/-- R95: 0 AUTO, 1 CENTRE. -/
def originCode : Origin → Nat
  | .auto => 0
  | .centre => 1

/-- R95: 0 DELAY, 1 STAGING, 2 REGULATING. -/
def phaseCode : Phase → Nat
  | .delay => 0
  | .staging => 1
  | .regulating => 2

/-- R171: authority state codes. -/
def authCode : AuthState → Nat
  | .starting => 0
  | .unconfigured => 1
  | .monitor => 2
  | .autonomous => 3
  | .released => 4

/-- R95: table state codes. -/
def validityCode : Validity → Nat
  | .invalid => 0
  | .loading => 1
  | .valid => 2

/-- R20: table codes. -/
def tableCode : TableId → Nat
  | .global => 1
  | .zones => 2
  | .stations => 3
  | .fans => 4
  | .groups => 5
  | .hash => 6
  | .directory => 7
  | .scenarios => 8

/-- R20: the table a code names. -/
def tableOfCode : Nat → Option TableId
  | 1 => some .global
  | 2 => some .zones
  | 3 => some .stations
  | 4 => some .fans
  | 5 => some .groups
  | 6 => some .hash
  | 7 => some .directory
  | 8 => some .scenarios
  | _ => none

/-- R206: sequencer state codes. -/
def fanStateCode : FanState → Nat
  | .handsOff => 0
  | .stopped => 1
  | .queued => 2
  | .starting => 3
  | .settling => 4
  | .running => 5
  | .stopping => 6
  | .dwell => 7
  | .failed => 8
  | .lost => 9
  | .unavailable => 10

/-- R206: fallback cause codes, 0 absent. -/
def causeCode : Option FallbackCause → Nat
  | none => 0
  | some .setNotValid => 1
  | some .noEntry => 2
  | some .outOfRange => 3
  | some .recordInvalid => 4
  | some .badGroup => 5

/-- R206: scenario 0..127, 255 FALLBACK, 254 none. -/
def scenarioCode : ScenarioRef → Nat
  | .record n => n
  | .fallback => 255
  | .none => 254

/-- R206, READ FAN byte 10: bit 0 RUN, bit 1 REV, bit 2 HALF. -/
def wantedCode : Wanted → Nat
  | .stop => 0
  | .run d st => 1 + 2 * driveCode d + 4 * stepCode st

/-- R20: the quality a code names. -/
def qualityOfCode : Nat → Option Quality
  | 0 => some .good
  | 1 => some .suspect
  | _ => none

/-- R20: the line state a code names. -/
def lineOfCode : Nat → Option LineState
  | 0 => some .normal
  | 1 => some .alarm
  | 2 => some .fault
  | _ => none

/-- R20: the drive state a code names. -/
def driveStateOfCode : Nat → Option DriveState
  | 0 => some .stopped
  | 1 => some .accel
  | 2 => some .running
  | 3 => some .decel
  | 4 => some .tripped
  | 5 => some .lockout
  | _ => none

/-- R20: the drive direction a code names. -/
def driveOfCode : Nat → Option Drive
  | 0 => some .fwd
  | 1 => some .rev
  | _ => none

/-- R20: the speed step a code names. -/
def stepOfCode : Nat → Option SpeedStep
  | 0 => some .full
  | 1 => some .half
  | _ => none

/-- R20: the command origin a code names. -/
def cmdOriginOfCode : Nat → Option CmdOrigin
  | 0 => some .chip
  | 1 => some .centre
  | _ => none

/-- R20: the trip cause a code names. -/
def tripOfCode : Nat → Option TripCause
  | 0 => some .none
  | 1 => some .overcurrent
  | 2 => some .overtemp
  | 3 => some .supply
  | 4 => some .other
  | _ => none

/-- R206: the role a code names. -/
def roleOfCode : Nat → Option Role
  | 0 => some .anemometer
  | 1 => some .opacity
  | 2 => some .temperature
  | 3 => some .heatLine
  | 4 => some .trainGateway
  | 5 => some .controlCentre
  | 6 => some .terminal
  | _ => none

/-- R206: a direction byte, 0 TOWARD_A, 1 TOWARD_B; any other, which only a stored image can hold, counts as TOWARD_B
(DESIGN CHOICE, log 44). -/
def dirOfCode (n : Nat) : Dir := if n = 0 then .towardA else .towardB

/-- The flow sign: +1 for TOWARD_B, -1 for TOWARD_A (00_scope.md, "Direction"). -/
def flowSign : Dir → Int
  | .towardA => -1
  | .towardB => 1

/-! ## Orders of the manual -/

/-- R70: rank of a chainage source; CENTRE, HEAT_LINE, TRAIN, TEMPERATURE, OPACITY, highest first. -/
def rank : ChSource → Nat
  | .opacity => 0
  | .temperature => 1
  | .train => 2
  | .heatLine => 3
  | .centre => 4

/-- R69: the chainage source an event type gives. -/
def EventType.source : EventType → ChSource
  | .opacity => .opacity
  | .temperature => .temperature
  | .heatLine => .heatLine
  | .trainFire => .train

/-- R69: the empty set with one type. -/
def SourceSet.single : EventType → SourceSet
  | .opacity => ⟨true, false, false, false⟩
  | .temperature => ⟨false, true, false, false⟩
  | .heatLine => ⟨false, false, true, false⟩
  | .trainFire => ⟨false, false, false, true⟩

/-- R72: a type enters the source set. -/
def SourceSet.insert (s : SourceSet) : EventType → SourceSet
  | .opacity => { s with opacity := true }
  | .temperature => { s with temperature := true }
  | .heatLine => { s with heatLine := true }
  | .trainFire => { s with trainFire := true }

/-- R74: how many types the source set holds. -/
def SourceSet.size (s : SourceSet) : Nat :=
  flagCode s.opacity + flagCode s.temperature + flagCode s.heatLine + flagCode s.trainFire

/-! ## Status outputs -/

/-- R185: INCIDENT is asserted while the list is not empty; no output while a reset lasts. -/
def incidentCondition (s : State) : Bool := !s.chip.inReset && !s.incidents.list.isEmpty

/-- R185: AUTH is asserted while authority is AUTONOMOUS and the dry-run flag is off. -/
def authCondition (s : State) : Bool :=
  !s.chip.inReset && decide (s.auth.state = .autonomous) && !s.auth.dryRun

/-- R168: the fan fault indication, held while a fan below the fan count has its failed or lost mark set. -/
def fanFault (s : State) : Bool := (s.fans.recs.take s.tables.fans.count).any fun r => r.failed || r.lost

/-- R186: the conditions of FAULT. -/
def faultCondition (s : State) : Bool :=
  !s.chip.inReset &&
    (decide (s.auth.state = .unconfigured) || s.port.inSilent || fanFault s || s.tables.imageFault)

/-- The outputs as R185 and R186 state them. -/
def outputsOf (s : State) : Outputs := ⟨incidentCondition s, authCondition s, faultCondition s⟩

end Sys2Proof.Machine
end

