-- ==== Sys2Proof/Machine/Operands.lean ====
section
/-!
DEFINITION. Byte order, the CRC-16, the frame header, and every payload layout of R20 and R21.
-/

namespace Sys2Proof.Machine

open Sys2Proof

/-! ## Byte order (R2, R20: most significant byte first, two's complement) -/

/-- Two bytes, high byte first. -/
def be16 (n : Nat) : List Byte := [byte (n / 256), byte n]

/-- A signed number in two bytes, two's complement. -/
def beS16 (x : Int) : List Byte := be16 (x % 65536).toNat

/-- Six bytes, high byte first: a time base reading (R1). -/
def be48 (n : Nat) : List Byte :=
  [byte (n / 2 ^ 40), byte (n / 2 ^ 32), byte (n / 2 ^ 24), byte (n / 2 ^ 16), byte (n / 2 ^ 8), byte n]

/-- The byte at an offset of a payload or record; 0 beyond its end. -/
def at8 (p : List Byte) (i : Nat) : Nat := (p.getD i 0).toNat

/-- The two-byte number at an offset. -/
def at16 (p : List Byte) (i : Nat) : Nat := at8 p i * 256 + at8 p (i + 1)

/-- The signed two-byte number at an offset. -/
def atS16 (p : List Byte) (i : Nat) : Int :=
  if at16 p i < 32768 then (at16 p i : Int) else (at16 p i : Int) - 65536

/-- An optional field: present when its presence bit is set (R20). -/
def optional (present : Bool) (n : Nat) : Option Nat := if present then some n else none

/-- Bit `i` of the byte at an offset. -/
def bitAt (p : List Byte) (offset i : Nat) : Bool := (p.getD offset 0).getLsbD i

/-! ## CRC-16 (R3) -/

/-- One bit of the division by x^16 + x^12 + x^5 + 1. -/
def crcShift (r : BitVec 16) : BitVec 16 := if r.msb then (r <<< 1) ^^^ 0x1021 else r <<< 1

/-- One byte, most significant bit first. -/
def crcByte (r : BitVec 16) (b : Byte) : BitVec 16 :=
  crcShift (crcShift (crcShift (crcShift (crcShift (crcShift (crcShift (crcShift (r ^^^ (b.setWidth 16 <<< 8)))))))))

/-- The CRC-16 of R3: preset 0xFFFF, not inverted. -/
def crc16 (bytes : List Byte) : Nat := (bytes.foldl crcByte 0xFFFF).toNat

/-! ## Frames (R2, R4) -/

/-- R4: a received frame is bad. -/
def isBad (bytes : List Byte) : Bool :=
  decide (bytes.length < 9) || decide (32 < at8 bytes 6) || decide (bytes.length ≠ 9 + at8 bytes 6) ||
    decide (crc16 (bytes.take (7 + at8 bytes 6)) ≠ at16 bytes (7 + at8 bytes 6)) ||
    decide (at16 bytes 2 = 0) || decide (0x8000 ≤ at16 bytes 2)

/-- The fields of a valid frame. -/
def frameOf (bytes : List Byte) : Frame where
  dest := at16 bytes 0
  source := at16 bytes 2
  kind := at8 bytes 4
  sequence := at8 bytes 5
  payload := (bytes.drop 7).take (at8 bytes 6)

/-- A complete frame: header, payload and check (R2, R10). -/
def frameBytes (dest source kind sequence : Nat) (payload : List Byte) : List Byte :=
  let head := be16 dest ++ be16 source ++ [byte kind, byte sequence, byte payload.length] ++ payload
  head ++ be16 (crc16 head)

/-! ## Frame kinds (section 1.9) -/

def kindVelocity : Nat := 0x10
def kindOpacity : Nat := 0x11
def kindTemperature : Nat := 0x12
def kindHeatLine : Nat := 0x13
def kindTrain : Nat := 0x20
def kindFanCommand : Nat := 0x30
def kindFanStatus : Nat := 0x31
def kindDeclare : Nat := 0x40
def kindClear : Nat := 0x41
def kindRelease : Nat := 0x42
def kindResume : Nat := 0x43
def kindHold : Nat := 0x48
def kindNotice : Nat := 0x49
def kindRequest : Nat := 0x50
def kindResponse : Nat := 0x51
def kindTest : Nat := 0x5A

/-- R23: the six observation kinds. -/
def isObservation (kind : Nat) : Bool :=
  kind == kindVelocity || kind == kindOpacity || kind == kindTemperature || kind == kindHeatLine ||
    kind == kindTrain || kind == kindFanStatus

/-- R30: the four control-centre kinds. -/
def isCentreKind (kind : Nat) : Bool :=
  kind == kindDeclare || kind == kindClear || kind == kindRelease || kind == kindResume

/-- R23: the use kind of a station role. -/
def useKind : Role → Option Nat
  | .anemometer => some kindVelocity
  | .opacity => some kindOpacity
  | .temperature => some kindTemperature
  | .heatLine => some kindHeatLine
  | .trainGateway => some kindTrain
  | .controlCentre => none
  | .terminal => none

/-! ## Payloads (R20, R21): none when malformed -/

/-- VELOCITY SAMPLE. -/
def parseVelocity (p : List Byte) : Option (Int × Quality) :=
  if p.length < 3 then none else (qualityOfCode (at8 p 2)).map fun q => (atS16 p 0, q)

/-- OPACITY SAMPLE. -/
def parseOpacity (p : List Byte) : Option (Nat × Quality) :=
  if p.length < 3 then none else (qualityOfCode (at8 p 2)).map fun q => (at16 p 0, q)

/-- TEMPERATURE SAMPLE. -/
def parseTemperature (p : List Byte) : Option (Int × Quality) :=
  if p.length < 3 then none else (qualityOfCode (at8 p 2)).map fun q => (atS16 p 0, q)

/-- HEAT LINE REPORT; the fault distance is not read (R39). -/
def parseHeatLine (p : List Byte) : Option (LineState × Option Nat) :=
  if p.length < 6 then none
  else (lineOfCode (at8 p 0)).map fun l => (l, optional (bitAt p 1 0) (at16 p 2))

/-- TRAIN REPORT. -/
def parseTrain (p : List Byte) : Option TrainReport :=
  if p.length < 11 then none
  else some
    { id := at16 p 0
      head := at16 p 2
      tail := at16 p 4
      speed := at16 p 6
      dir := if bitAt p 8 0 then .towardB else .towardA
      stopped := bitAt p 8 1
      fire := bitAt p 8 2
      leftBore := bitAt p 8 4
      offset := optional (bitAt p 8 3) (at16 p 9) }

/-- FAN STATUS. -/
def parseFanStatus (p : List Byte) : Option FanStatus :=
  if p.length < 9 then none
  else do
    let drive ← driveStateOfCode (at8 p 0)
    let dir ← driveOfCode (at8 p 1)
    let step ← stepOfCode (at8 p 2)
    let origin ← cmdOriginOfCode (at8 p 4)
    let trip ← tripOfCode (at8 p 8)
    pure ⟨drive, dir, step, at8 p 3, origin, at8 p 5, atS16 p 6, trip⟩

/-- INCIDENT DECLARE. -/
def parseDeclare (p : List Byte) : Option Declaration :=
  if p.length < 7 then none
  else some
    { severity := at8 p 0
      chainage := optional (bitAt p 1 0) (at16 p 2)
      zone := optional (bitAt p 1 1) (at8 p 4)
      train := optional (bitAt p 1 2) (at16 p 5) }

/-- INCIDENT CLEAR and AUTHORITY RELEASE: the incident number. -/
def parseNumber (p : List Byte) : Option Nat := if p.length < 1 then none else some (at8 p 0)

/-- The command of a sample kind for a station index; none when the kind is no sample kind or the payload is
malformed. -/
def sampleCommand (kind station : Nat) (p : List Byte) : Option Instr :=
  if kind = kindVelocity then (parseVelocity p).map fun x => .velocitySample station x.1 x.2
  else if kind = kindOpacity then (parseOpacity p).map fun x => .opacitySample station x.1 x.2
  else if kind = kindTemperature then (parseTemperature p).map fun x => .temperatureSample station x.1 x.2
  else if kind = kindHeatLine then (parseHeatLine p).map fun x => .heatLineReport station x.1 x.2
  else none

/-- The command an observation frame dispatches to its block (R26); none when the payload is malformed. -/
def observationCommand (kind index : Nat) (p : List Byte) : Option Instr :=
  if kind = kindTrain then (parseTrain p).map .trainReport
  else if kind = kindFanStatus then (parseFanStatus p).map (.fanStatus index)
  else sampleCommand kind index p

/-- The command a control-centre frame dispatches (R30); none when the payload is malformed. -/
def centreCommand (f : Frame) : Option Instr :=
  if f.kind = kindDeclare then (parseDeclare f.payload).map (.incidentDeclare f.sequence)
  else if f.kind = kindClear then (parseNumber f.payload).map .incidentClear
  else if f.kind = kindRelease then (parseNumber f.payload).map .authorityRelease
  else some .authorityResume

/-- The command of a request code (R20); none for a code that is 0 or above 11. -/
def requestCommand (code : Nat) (r : Request) : Option Instr :=
  match code with
  | 1 => some (.openLoad r)
  | 2 => some (.writeRecord r)
  | 3 => some (.closeLoad r)
  | 4 => some (.readRecord r)
  | 5 => some (.readState r)
  | 6 => some (.readFan r)
  | 7 => some (.readCounters r)
  | 8 => some (.storeTables r)
  | 9 => some (.setTestMode r)
  | 10 => some (.inject r)
  | 11 => some (.softReset r)
  | _ => none

/-- What the dispatch of a MANAGEMENT REQUEST carries (R29). In a request shorter than 4 bytes the missing bytes read 0,
so a lone index byte is the high one (DESIGN CHOICE, log 5). -/
def requestOf (f : Frame) (lookup : Lookup) : Request where
  source := f.source
  lookup := lookup
  sequence := f.sequence
  table := at8 f.payload 1
  index := at16 f.payload 2
  fields := f.payload.drop 4

/-- R21: a MANAGEMENT REQUEST is malformed when shorter than 4 bytes. -/
def requestMalformed (p : List Byte) : Bool := decide (p.length < 4)

end Sys2Proof.Machine
end

