-- ==== Sys2Proof/Machine/Tables.lean ====
section
/-!
DEFINITION. The table records read at the byte offsets of R206: entries, parameters, the source lookup of R22, the
containment test of R98, the groups' fans (R99), the validity of the two sets (R188), and updates of one table.
-/

namespace Sys2Proof.Machine

open Sys2Proof

/-! ## Tables by name -/

/-- The table a name stands for. -/
def TableStore.get (t : TableStore) : TableId → Table
  | .global => t.global
  | .zones => t.zones
  | .stations => t.stations
  | .fans => t.fans
  | .groups => t.groups
  | .hash => t.hash
  | .directory => t.directory
  | .scenarios => t.scenarios

/-- One table is replaced. -/
def TableStore.set (t : TableStore) (id : TableId) (x : Table) : TableStore :=
  match id with
  | .global => { t with global := x }
  | .zones => { t with zones := x }
  | .stations => { t with stations := x }
  | .fans => { t with fans := x }
  | .groups => { t with groups := x }
  | .hash => { t with hash := x }
  | .directory => { t with directory := x }
  | .scenarios => { t with scenarios := x }

/-- The field bytes of one record. -/
def Table.fields (t : Table) (i : Nat) : List Byte := t.recs.getD i []

/-- A table is VALID. -/
def Table.isValid (t : Table) : Bool := decide (t.validity = .valid)

/-- A table is a member of the geometry set (R188). -/
def TableId.isGeometry : TableId → Bool
  | .directory => false
  | .scenarios => false
  | _ => true

/-- The geometry set is VALID (R188). -/
def TableStore.geometryValid (t : TableStore) : Bool :=
  t.global.isValid && t.zones.isValid && t.stations.isValid && t.fans.isValid && t.groups.isValid && t.hash.isValid

/-- The scenario set is VALID (R188). -/
def TableStore.scenarioValid (t : TableStore) : Bool := t.directory.isValid && t.scenarios.isValid

/-- The geometry set of a state is VALID. -/
def geometryValid (s : State) : Bool := s.tables.geometryValid

/-! ## Zones (R97, R98) -/

/-- Start chainage of a zone. -/
def zoneStart (t : TableStore) (z : Nat) : Nat := at16 (t.zones.fields z) 0
/-- End chainage of a zone. -/
def zoneEnd (t : TableStore) (z : Nat) : Nat := at16 (t.zones.fields z) 2

/-- R98: the zone containing a chainage: start at or below it and end above it; L lies in the last zone; zone 0 while
the zone table is not VALID. A chainage beyond the last zone's end, which a zone table closed VALID while the global record
is not VALID leaves possible, counts as in the last zone (DESIGN CHOICE, log 47: R98 gives no zone there). -/
def zoneOf (t : TableStore) (x : Nat) : Nat :=
  if t.zones.isValid then
    match (List.range t.zones.count).find? fun z => decide (zoneStart t z ≤ x) && decide (x < zoneEnd t z) with
    | some z => z
    | none => t.zones.count - 1
  else 0

/-! ## Stations (section 2.1, R22, R206) -/

/-- A station entry is enabled and lies below the loaded record count. An enable byte other than 0 and 1, which only a
stored image can hold, counts as disabled (DESIGN CHOICE, log 44). -/
def stationInUse (t : TableStore) (i : Nat) : Bool :=
  decide (i < t.stations.count) && decide (at8 (t.stations.fields i) 0 = 1)
/-- Node address of a station entry. -/
def stationAddr (t : TableStore) (i : Nat) : Nat := at16 (t.stations.fields i) 1
/-- Role of a station entry. -/
def stationRole (t : TableStore) (i : Nat) : Option Role := roleOfCode (at8 (t.stations.fields i) 3)
/-- Chainage, or cable head chainage. -/
def stationChainage (t : TableStore) (i : Nat) : Nat := at16 (t.stations.fields i) 4
/-- Zone number of a station entry. -/
def stationZone (t : TableStore) (i : Nat) : Nat := at8 (t.stations.fields i) 6
/-- Axis sign or cable direction: 0 for +1, 1 for -1; any other byte counts as 1 (DESIGN CHOICE, log 44). -/
def stationSign (t : TableStore) (i : Nat) : Int := if at8 (t.stations.fields i) 7 = 0 then 1 else -1
/-- Measurement flag; a byte other than 0 and 1 counts as clear (DESIGN CHOICE, log 44). -/
def stationMeasures (t : TableStore) (i : Nat) : Bool := decide (at8 (t.stations.fields i) 8 = 1)
/-- Cable length. -/
def stationCable (t : TableStore) (i : Nat) : Nat := at16 (t.stations.fields i) 9

/-- A station entry in use has the role. -/
def stationHasRole (t : TableStore) (i : Nat) (r : Role) : Bool :=
  stationInUse t i && decide (stationRole t i = some r)

/-! ## Fans and groups (R99, R100) -/

/-- Drive address of a fan. -/
def fanAddr (t : TableStore) (f : Nat) : Nat := at16 (t.fans.fields f) 0
/-- Group number of a fan. -/
def fanGroup (t : TableStore) (f : Nat) : Nat := at8 (t.fans.fields f) 2
/-- Orientation of a fan; a byte above 1 counts as TOWARD_B (DESIGN CHOICE, log 44). -/
def fanOrientation (t : TableStore) (f : Nat) : Dir := dirOfCode (at8 (t.fans.fields f) 3)
/-- Full forward thrust. -/
def fanFwd (t : TableStore) (f : Nat) : Nat := at16 (t.fans.fields f) 4
/-- Full reverse thrust. -/
def fanRev (t : TableStore) (f : Nat) : Nat := at16 (t.fans.fields f) 6
/-- In-service flag; a byte other than 0 and 1 counts as clear (DESIGN CHOICE, log 44). -/
def fanInService (t : TableStore) (f : Nat) : Bool := decide (at8 (t.fans.fields f) 8 = 1)
/-- Chainage of a group. -/
def groupChainage (t : TableStore) (g : Nat) : Nat := at16 (t.groups.fields g) 0

/-- R99: the fans of a group, in fan-index order. -/
def groupFans (t : TableStore) (g : Nat) : List Nat :=
  (List.range t.fans.count).filter fun f => decide (fanGroup t f = g)

/-! ## Source lookup and group hash (R22, R24) -/

/-- R22: the source lookup, stations first, then the lowest fan index with the drive address. A matching entry whose role
byte is no listed code, which only a stored image can hold, gives unknown (DESIGN CHOICE, log 42). -/
def lookupSource (t : TableStore) (source : Nat) : Lookup :=
  match (List.range t.stations.count).find? fun i => stationInUse t i && decide (stationAddr t i = source) with
  | some i =>
    match stationRole t i with
    | some r => .station i r
    | none => .unknown
  | none =>
    match (List.range t.fans.count).find? fun f => decide (fanAddr t f = source) with
    | some f => .drive f
    | none => .unknown

/-- R27: a destination is the drive address of a fan entry below the loaded record count. -/
def isDriveAddr (t : TableStore) (dest : Nat) : Bool :=
  (List.range t.fans.count).any fun f => decide (fanAddr t f = dest)

/-- R24: the bin of a group address: the low 6 bits of the CRC-16 of its two bytes. -/
def hashBin (dest : Nat) : Nat := crc16 (be16 dest) % 64

/-- R24: the destination of a frame is accepted for use; a bin byte other than 0 and 1 counts as clear (DESIGN CHOICE,
log 44). -/
def destAccepted (t : TableStore) (own dest : Nat) : Bool :=
  decide (dest = own) || decide (dest = 0xFFFF) ||
    (decide (0x8000 ≤ dest) && decide (dest ≤ 0xFFFE) && decide (at8 (t.hash.fields (hashBin dest)) 0 = 1))

/-! ## Scenario directory and records (R101, R102) -/

/-- First record of a zone. -/
def dirBase (t : TableStore) (z : Nat) : Nat := at8 (t.directory.fields z) 0
/-- Variant count of a zone (R101). -/
def dirVariants (t : TableStore) (z : Nat) : Nat := at8 (t.directory.fields z) 1
/-- Valid flag of a scenario record. -/
def scenValid (r : List Byte) : Bool := bitAt r 0 0
/-- Flow direction of a scenario record. -/
def scenDir (r : List Byte) : Dir := if bitAt r 0 1 then .towardB else .towardA
/-- Group list of a scenario record: ended by the first 0xFF or after 16 entries. -/
def scenGroups (r : List Byte) : List Nat :=
  (((r.drop 9).take 16).takeWhile fun b => b != 0xFF).map BitVec.toNat

/-! ## Global parameters (R189, R206) -/

/-- The typed values of the two parts of the global parameter record. What a stored image holds outside a field's range
is taken as it stands; a flag other than 1 counts as off (DESIGN CHOICE, log 44). -/
def paramsOf (t : Table) : Params :=
  let a := t.fields 0
  let b := t.fields 1
  { ownAddr := at16 a 0
    L := at16 a 2
    R := at16 a 4
    G := at8 a 6
    deadBand := at8 a 7
    M := at16 a 8
    trimInterval := at8 a 10
    sMax := at8 a 11
    startSpacing := at8 a 12
    startLimit := at8 a 13
    dwell := at8 a 14
    fFull := at8 a 15
    fHalf := at8 a 16
    k := at8 a 17
    holdTime := at8 a 18
    refresh := at8 a 19
    passAll := decide (at8 a 20 = 1)
    defaultDir := dirOfCode (at8 a 21)
    mergeDistance := at16 b 0
    confirmWindow := at16 b 2
    autoConfirm := decide (at8 b 4 = 1)
    opacityThreshold := at16 b 5
    temperatureThreshold := atS16 b 7
    clearDistance := at16 b 9
    lockTime := at16 b 11
    fallbackVt := at16 b 13
    fallbackP := at16 b 15
    fallbackH := at16 b 17
    fallbackh := at8 b 19
    noticeGroup := at16 b 20 }

/-- The parameters in force (R190). -/
def State.params (s : State) : Params := s.tables.params

/-- Part 0 with its defaults: own address and L have none and are 0 (R189). -/
def defaultPart0 : List Byte :=
  be16 0 ++ be16 0 ++ be16 180 ++ [24, 20] ++ be16 100 ++ [30, 2, 3, 30, 20, 2, 1, 3, 30, 10, 0, 1]

/-- Part 1 with its defaults (R189). -/
def defaultPart1 : List Byte :=
  be16 200 ++ be16 60 ++ [0] ++ be16 5000 ++ beS16 80 ++ be16 100 ++ be16 120 ++ be16 300 ++ be16 0 ++ be16 600 ++
    [70] ++ be16 0xFFFF

/-- R192: a table as OPEN LOAD leaves it: LOADING, count 0, every record cleared, no written mark. -/
def openedTable (id : TableId) : Table where
  validity := .loading
  count := 0
  recs := match id with
    | .global => [defaultPart0, defaultPart1]
    | id => List.replicate id.capacity (List.replicate id.recordSize 0)
  written := List.replicate id.capacity false

end Sys2Proof.Machine
end

