-- ==== Sys2Proof/Machine/Update.lean ====
section
/-!
DEFINITION. One named update per field of State; every operation of the model changes the state through these.
Laws/State.lean holds one lemma per field per update.
-/

namespace Sys2Proof.Machine

open Sys2Proof

/-- The field pending is replaced. -/
def State.setPending (s : State) (x : List Instr) : State := { s with pending := x }
/-- The field dispatched is replaced. -/
def State.setDispatched (s : State) (x : List Dispatch) : State := { s with dispatched := x }
/-- The field clock is replaced. -/
def State.setClock (s : State) (x : Nat) : State := { s with clock := x }
/-- The field chip is replaced. -/
def State.setChip (s : State) (x : Chip) : State := { s with chip := x }
/-- The field outs is replaced. -/
def State.setOuts (s : State) (x : Outputs) : State := { s with outs := x }
/-- The field port is replaced. -/
def State.setPort (s : State) (x : Port) : State := { s with port := x }
/-- The field samples is replaced. -/
def State.setSamples (s : State) (x : List StationRecord) : State := { s with samples := x }
/-- The field trains is replaced. -/
def State.setTrains (s : State) (x : List (Option Train)) : State := { s with trains := x }
/-- The field incidents is replaced. -/
def State.setIncidents (s : State) (x : IncidentManager) : State := { s with incidents := x }
/-- The field live is replaced. -/
def State.setLive (s : State) (x : Option Live) : State := { s with live := x }
/-- The field plan is replaced. -/
def State.setPlan (s : State) (x : Plan) : State := { s with plan := x }
/-- The field fans is replaced. -/
def State.setFans (s : State) (x : Sequencer) : State := { s with fans := x }
/-- The field auth is replaced. -/
def State.setAuth (s : State) (x : Authority) : State := { s with auth := x }
/-- The field tables is replaced. -/
def State.setTables (s : State) (x : TableStore) : State := { s with tables := x }
/-- The field eeprom is replaced. -/
def State.setEeprom (s : State) (x : Eeprom) : State := { s with eeprom := x }
/-- The field test is replaced. -/
def State.setTest (s : State) (x : LoopTest) : State := { s with test := x }
/-- The field draws is replaced. -/
def State.setDraws (s : State) (x : Nat) : State := { s with draws := x }

end Sys2Proof.Machine
end

