-- ==== Sys2Proof/Machine/Ops.lean ====
section
/-!
DEFINITION. The shared operations: the configuration memory, the insert queue and ring OUT (R10 to R14), notices (R94,
R95), responses (R191), holds, the beginning of a reset (R19, R201), and the settling of outputs at the end of a step.
-/

namespace Sys2Proof.Machine

open Sys2Proof

/-! ## Configuration memory (section 10.6): a canonical list of cells -/

/-- What an unlisted address reads as: a blank device, and a device that does not answer, read 0xFF (log 7). -/
def blankByte : Byte := 0xFF

/-- One byte of the EEPROM. -/
def memRead : List Host.Cell → Nat → Byte
  | [], _ => blankByte
  | (x, v) :: m, a => if a = x then v else memRead m a

/-- One byte is written; the list stays sorted, and a byte equal to a blank one is not listed. -/
def memWrite : List Host.Cell → Nat → Byte → List Host.Cell
  | [], a, b => if b = blankByte then [] else [(a, b)]
  | (x, v) :: m, a, b =>
    if a < x then (if b = blankByte then (x, v) :: m else (a, b) :: (x, v) :: m)
    else if a = x then (if b = blankByte then m else (a, b) :: m)
    else (x, v) :: memWrite m a b

/-- Every listed address is at or above `lo`, addresses rise strictly and no listed byte is blank. -/
def memSorted : Nat → List Host.Cell → Bool
  | _, [] => true
  | lo, (x, v) :: m => decide (lo ≤ x) && decide (v ≠ blankByte) && memSorted (x + 1) m

/-- The canonical form of the EEPROM contents. -/
def Memory.wf (m : List Host.Cell) : Bool :=
  memSorted 0 m && m.all fun c => decide (c.1 < Config.eepromSize)

/-- A run of bytes from an address. -/
def memRange (m : List Host.Cell) (a n : Nat) : List Byte := (List.range n).map fun i => memRead m (a + i)

/-- A run of bytes is written from an address. -/
def memWriteRun : List Host.Cell → Nat → List Byte → List Host.Cell
  | m, _, [] => m
  | m, a, b :: bs => memWriteRun (memWrite m a b) (a + 1) bs

/-! ## What several blocks read -/

/-- The head's number, or 0 when the incident list is empty (R18). -/
def headNumber (s : State) : Nat :=
  match s.incidents.list with
  | [] => 0
  | i :: _ => i.number

/-- An incident is listed. -/
def incidentListed (s : State) : Bool := !s.incidents.list.isEmpty

/-- R10: where notices and holds go. -/
def noticeDest (s : State) : Nat := if s.tables.global.isValid then s.params.noticeGroup else 0xFFFF

/-- Dispatches, samples, requests and timed events are taken in every state after the start-up load; none while a
reset lasts, in STARTING (R32) or in the continuity test (R208). -/
def inService (s : State) : Bool :=
  !s.chip.inReset && !s.chip.testMode && decide (s.auth.state ≠ .starting)

/-! ## Ring OUT (R10, R13, R14) -/

/-- A counter of the Ring Port is changed; in the continuity test none is kept (R208). -/
def State.count (s : State) (f : Counters → Counters) : State :=
  if s.chip.testMode then s else s.setPort { s.port with counters := f s.port.counters }

/-- R14: the queue the arbiter serves. -/
def nextQueue (p : Port) : Option QueueMark :=
  match p.forward.isEmpty, p.commands.isEmpty && p.reports.isEmpty with
  | true, true => none
  | false, true => some .forward
  | true, false => some .insert
  | false, false => some (match p.mark with | .forward => .insert | .insert => .forward)

/-- R209: when a test frame's transmission begins, the sent counter counts it and its number is outstanding. -/
def noteTestFrame (q : QFrame) (t : LoopTest) : LoopTest :=
  if q.kind = kindTest then
    { t with
      sent := satCount 65535 t.sent
      outstanding := t.outstanding ++ [(at16 q.payload 0, Config.testDeadline)] }
  else t

/-- R10: the transmission of a frame of the insert queue begins: source, sequence, length and check are filled in. -/
def transmit (q : QFrame) (s : State) : State :=
  (s.setPort
    { s.port with
      out := some ⟨frameBytes q.dest s.port.ownAddr q.kind s.port.sequence q.payload, q.softReset⟩
      mark := .insert
      sequence := (s.port.sequence + 1) % 256 }).setTest (noteTestFrame q s.test)

/-- R14: while OUT is idle and a queue holds a frame, the arbiter serves a queue. -/
def serve (s : State) : State :=
  match s.port.out with
  | some _ => s
  | none =>
    match nextQueue s.port with
    | none => s
    | some .forward =>
      match s.port.forward with
      | [] => s
      | f :: rest => s.setPort { s.port with forward := rest, out := some ⟨f, false⟩, mark := .forward }
    | some .insert =>
      match s.port.commands with
      | c :: rest => transmit c (s.setPort { s.port with commands := rest })
      | [] =>
        match s.port.reports with
        | [] => s
        | r :: rest => transmit r (s.setPort { s.port with reports := rest })

/-! ## Insert queue (R11, R12) -/

/-- Frames waiting in the insert queue. -/
def insertCount (p : Port) : Nat := p.commands.length + p.reports.length

/-- R201: the DONE response of a SOFT RESET is discarded, so the reset begins, unless authority is AUTONOMOUS. -/
def responseGone (q : QFrame) (s : State) : State :=
  if q.softReset && decide (s.auth.state ≠ .autonomous) then s.setChip { s.chip with softResetDue := true } else s

/-- A report is discarded and counted (R12). -/
def dropReport (q : QFrame) (s : State) : State :=
  responseGone q (s.count fun c => { c with reportDrop := satCount 255 c.reportDrop })

/-- R11, R12: a frame enters the report class or is dropped; the arbiter is left to the caller. -/
def enterReport (q : QFrame) (s : State) : State :=
  if insertCount s.port < Config.insertCapacity then s.setPort { s.port with reports := s.port.reports ++ [q] }
  else dropReport q s

/-- R11, R12: a frame is offered to the report class. -/
def offerReport (q : QFrame) (s : State) : State :=
  if insertCount s.port < Config.insertCapacity then
    serve (s.setPort { s.port with reports := s.port.reports ++ [q] })
  else dropReport q s

/-- R11, R12: a frame is offered to the command class. -/
def offerCommand (q : QFrame) (s : State) : State :=
  if insertCount s.port < Config.insertCapacity then
    serve (s.setPort { s.port with commands := s.port.commands ++ [q] })
  else
    match s.port.reports.getLast? with
    | some r =>
      serve (dropReport r
        (s.setPort { s.port with
          reports := s.port.reports.dropLast
          commands := s.port.commands ++ [q] }))
    | none => s.count fun c => { c with commandDrop := satCount 255 c.commandDrop }

/-- R9: a forwarded frame enters the forward queue or is dropped and counted; the arbiter is left to the caller. -/
def enterForward (bytes : List Byte) (s : State) : State :=
  if s.port.forward.length < Config.forwardCapacity then
    s.setPort { s.port with forward := s.port.forward ++ [bytes] }
  else s.count fun c => { c with forwardOverrun := satCount 255 c.forwardOverrun }

/-- R9: a forwarded frame is offered to the forward queue. -/
def offerForward (bytes : List Byte) (s : State) : State :=
  if s.port.forward.length < Config.forwardCapacity then
    serve (s.setPort { s.port with forward := s.port.forward ++ [bytes] })
  else s.count fun c => { c with forwardOverrun := satCount 255 c.forwardOverrun }

/-! ## Notices (R94, R95) -/

/-- The frame of a notice of a kind about an incident number. -/
def noticeFrame (code number : Nat) (fields : List Byte) (s : State) : QFrame :=
  ⟨noticeDest s, kindNotice, byte code :: byte number :: fields, false⟩

/-- A notice of a kind about an incident number. -/
def notice (code number : Nat) (fields : List Byte) (s : State) : State :=
  offerReport (noticeFrame code number fields s) s

/-- A notice whose byte 1 carries the head's number, or 0. -/
def headNotice (code : Nat) (fields : List Byte) (s : State) : State := notice code (headNumber s) fields s

/-- 0x15 AUTHORITY. -/
def authorityNotice (new old : AuthState) (s : State) : State :=
  headNotice 0x15 [byte (authCode new), byte (authCode old)] s

/-- 0x16 TABLE STATE; table code 0 stands for the stored image. -/
def tableNotice (code : Nat) (v : Validity) (cause bad : Nat) (s : State) : State :=
  headNotice 0x16 ([byte code, byte (validityCode v), byte cause] ++ be16 bad) s

/-! ## Responses (R20, R191) -/

/-- The statuses of a response (section 1.9). -/
inductive Status where
  | done
  | refused
  | noSuch
  | badValue
  | inProgress
  | notPermitted
  deriving DecidableEq, Repr

/-- Status codes. -/
def statusCode : Status → Nat
  | .done => 0
  | .refused => 1
  | .noSuch => 2
  | .badValue => 3
  | .inProgress => 4
  | .notPermitted => 5

/-- The payload of a MANAGEMENT RESPONSE: sequence, request code, status, table code, index, data. -/
def responsePayload (sequence code : Nat) (st : Status) (table index : Nat) (data : List Byte) : List Byte :=
  [byte sequence, byte code] ++ be16 (statusCode st) ++ [byte table] ++ be16 index ++ data

/-- R191: one MANAGEMENT RESPONSE addressed to the source of the request. -/
def respond (r : Request) (code : Nat) (st : Status) (table index : Nat) (data : List Byte) (s : State) : State :=
  offerReport ⟨r.source, kindResponse, responsePayload r.sequence code st table index data, false⟩ s

/-! ## Holds (R175, R179, R181, R182, R183) -/

/-- An AUTHORITY HOLD of a hold time with an incident number; it sets the last hold time. -/
def offerHold (seconds number : Nat) (s : State) : State :=
  (offerCommand ⟨noticeDest s, kindHold, [byte seconds, byte number], false⟩ s).setAuth
    { s.auth with lastHold := some s.clock }

/-- A hold of Hh with the head's number; the hold remaining becomes Hh x 1,000 ms. -/
def claimHold (s : State) : State :=
  let t := offerHold s.params.holdTime (headNumber s) s
  t.setAuth { t.auth with holdRemaining := s.params.holdTime * 1000 }

/-! ## Ring continuity test frames (R209) -/

/-- The payload of the test frame with a test number. -/
def testPayload (n : Nat) : List Byte := be16 n ++ (List.range 30).map fun i => byte (n + (i + 2))

/-- A test frame is offered; the test number advances, and the next offer is due 10 ms later. -/
def offerTestFrame (s : State) : State :=
  let own := strappedAddr s.chip.strap
  let t := offerCommand ⟨own, kindTest, testPayload s.test.number, false⟩ s
  t.setTest { t.test with number := (s.test.number + 1) % 65536, offerIn := Config.testSpacing }

/-! ## Reset (R19, R187, R201, R208) -/

/-- A reset ends: every block takes up its post-reset state with the ADDR straps sampled; the continuity test, where
selected, offers its first frame. -/
def endReset (addr : BitVec 6) (testMode : Bool) (s : State) : State :=
  let t := State.afterReset addr testMode s.pending s.eeprom s.draws
  if testMode then offerTestFrame (t.setTables { t.tables with port := ⟨.idle, []⟩ }) else t

/-- R201: the part resets as RESET_N resets it; the LOOP strap is not sampled. -/
def softResetNow (s : State) : State := endReset s.chip.pinAddr s.chip.testMode s

/-! ## The end of a step -/

/-- A step ends: a SOFT RESET that is due begins (R201), and the outputs follow their conditions (R185, R186). -/
def settle (s : State) : State :=
  let t := if s.chip.softResetDue then softResetNow s else s
  t.setOuts (outputsOf t)

/-- The outcome of every command: the state after its effect. -/
def finish (s : State) : Host.Outcome State Fault Refusal := .next (settle s)

/-- The first dispatch with this command is taken (R35, log 4). -/
def took (c : Instr) (s : State) : State :=
  s.setDispatched (s.dispatched.eraseP fun d => decide (d.command = some c))

end Sys2Proof.Machine
end

