-- ==== Sys2Proof/Machine/Reset.lean ====
section
/-!
DEFINITION. The resets (R19, R54, R68, R96, R118, R141, R170, R187, R205, R208): the meanings of power-on, the RESET_N pin
asserted and the RESET_N pin released.
-/

namespace Sys2Proof.Machine

open Sys2Proof

/-- R19: RESET_N is low: every block stops and is reset, the port is idle, and the outputs stay deasserted. -/
def assertReset (s : State) : State :=
  let t := State.afterReset s.chip.strap s.chip.testMode s.pending s.eeprom s.draws
  (t.setChip { s.chip with inReset := true, softResetDue := false }).setTables
    { t.tables with port := ⟨.idle, []⟩ }

/-- POWER_ON_RESET (R208): LOOP and ADDR are sampled, and the reset ends (log 11). -/
def execPowerOnReset (loop : Bool) (addr : BitVec 6) (s : State) : Host.Outcome State Fault Refusal :=
  finish (endReset addr loop s)

/-- RESET_N (R19): LOOP is not sampled. -/
def execResetN (s : State) : Host.Outcome State Fault Refusal := finish (assertReset s)

/-- RESET_N_RELEASE (R19): the reset ends with ADDR sampled. -/
def execResetNRelease (addr : BitVec 6) (s : State) : Host.Outcome State Fault Refusal :=
  finish (if s.chip.inReset then endReset addr s.chip.testMode s else s)

end Sys2Proof.Machine
end

