-- ==== Sys2Proof/Machine/Thrust.lean ====
section
/-!
DEFINITION. The Thrust Planner (07_thrust_demand_and_fan_selection.md): open-loop demand, effective thrust, the fresh
walk and the walk under hysteresis, shortfall, wanted states; and the phase test of R90, which reads the selection.
-/

namespace Sys2Proof.Machine

open Sys2Proof

/-! ## Reading the head plan -/

/-- The head incident. -/
def headIncident (s : State) : Option Incident := s.incidents.list.head?

/-- The head's fire chainage; 0 without a head. -/
def headChainage (s : State) : Nat :=
  match s.incidents.list with
  | [] => 0
  | i :: _ => i.chainage

/-- The record of a fan. -/
def fanRec (s : State) (f : Nat) : FanRecord := s.fans.recs.getD f .reset

/-- A fan record is replaced. -/
def State.setFan (s : State) (f : Nat) (r : FanRecord) : State :=
  s.setFans { s.fans with recs := s.fans.recs.set f r }

/-! ## Effective thrust (R123, R124) -/

/-- R123: FWD when the fan's orientation equals the flow direction, and REV otherwise. -/
def driveFor (t : TableStore) (d : Dir) (f : Nat) : Drive := if fanOrientation t f = d then .fwd else .rev

/-- R123: the base thrust of a drive direction. -/
def baseThrust (t : TableStore) (f : Nat) : Drive → Nat
  | .fwd => fanFwd t f
  | .rev => fanRev t f

/-- R123: the thrust at a step: floor(base / 4) at HALF. -/
def stepThrust (base : Nat) : SpeedStep → Nat
  | .full => base
  | .half => base / 4

/-- d = s x (g - x): how far a chainage lies downstream of the fire (R107, R124). -/
def downstream (d : Dir) (x g : Nat) : Int := flowSign d * ((g : Int) - (x : Int))

/-- R124: a fan is hot when 0 <= d <= H. -/
def isHot (t : TableStore) (l : Live) (d : Dir) (x f : Nat) : Bool :=
  let w := downstream d x (groupChainage t (fanGroup t f))
  decide (0 ≤ w) && decide (w ≤ l.H)

/-- R124: the effective thrust of a fan under a live scenario and a fire chainage. -/
def effThrust (t : TableStore) (l : Live) (x : Nat) (step : SpeedStep) (f : Nat) : Nat :=
  match l.dir with
  | none => 0
  | some d =>
    let T := stepThrust (baseThrust t f (driveFor t d f)) step
    if isHot t l d x f then T * l.h / 100 else T

/-- The effective thrust of a fan for the head, as it stands. -/
def effective (s : State) (f : Nat) : Nat :=
  match s.live with
  | none => 0
  | some l => effThrust s.tables l (headChainage s) (fanRec s f).step f

/-- C: the covered thrust of a list of fans (R119). -/
def covered (s : State) (sel : List Nat) : Nat := (sel.map (effective s)).sum

/-- R125: a fan is available. -/
def available (s : State) (f : Nat) : Bool :=
  decide (f < s.tables.fans.count) && fanInService s.tables f &&
    (match (fanRec s f).state with
     | .failed => false
     | .lost => false
     | .unavailable => false
     | _ => true)

/-! ## Demand (R121, R122) -/

/-- R121: D_open = ceil(R x vt^2 / 10,000) + P. -/
def openLoop (R vt P : Nat) : Nat := ceilDiv (R * vt ^ 2) 10000 + P

/-- The demand is set from an exact value: clamped to 65,535 with the saturation flag recording it; a SATURATED notice
when the flag becomes set (R121, R134). -/
def setDemand (exact : Int) (s : State) : State :=
  let sat := decide ((Config.thrustMax : Int) < exact)
  let t := s.setPlan { s.plan with
    demand := (clampInt 0 Config.thrustMax exact).toNat
    saturated := sat }
  if sat && !s.plan.saturated then headNotice 0x10 [] t else t

/-- R121, R122: the open-loop demand of the live scenario. -/
def computeOpenLoop (s : State) : State :=
  match s.live with
  | none => s
  | some l => setDemand (openLoop s.params.R l.vt l.P) s

/-! ## Walks (R126, R127, R129, R131) -/

/-- The fans the pointer visits: the listed groups in order, each group's fans in index order (R126). -/
def visited (s : State) : List Nat :=
  match s.live with
  | none => []
  | some l => l.groups.flatMap (groupFans s.tables)

/-- The available fans the pointer visits. -/
def candidatesOf (s : State) : List Nat := (visited s).filter (available s)

/-- Fans are appended until C >= D (R126). -/
def appendUntil (eff : Nat → Nat) (D : Nat) : List Nat → Nat → List Nat
  | [], _ => []
  | f :: fs, C => if D ≤ C then [] else f :: appendUntil eff D fs (C + eff f)

/-- R126: the selection of a fresh walk. -/
def freshSelection (s : State) : List Nat := appendUntil (effective s) s.plan.demand (candidatesOf s) 0

/-- R131: the last fan is dropped when the fans ahead of it cover D + M. -/
def dropTest (s : State) (sel : List Nat) : List Nat :=
  if !sel.isEmpty && decide (s.plan.demand + s.params.M ≤ covered s sel.dropLast) then sel.dropLast else sel

/-- R129: the selection of a walk under hysteresis: removal, measure, addition, drop. -/
def hysteresisSelection (s : State) : List Nat :=
  let kept := s.plan.selection.filter (available s)
  let added := appendUntil (effective s) s.plan.demand ((candidatesOf s).filter fun f => !kept.contains f) (covered s kept)
  if added.isEmpty then dropTest s kept else kept ++ added

/-- R127: a walk's selection is taken: the shortfall becomes D - C where C < D, with a SHORTFALL notice when it changed. -/
def takeSelection (sel : List Nat) (s : State) : State :=
  let short := s.plan.demand - covered s sel
  let t := s.setPlan { s.plan with selection := sel, shortfall := short }
  if short = s.plan.shortfall then t else headNotice 0x0F (be16 short) t

/-- R126: a fresh walk. -/
def freshWalk (s : State) : State := takeSelection (freshSelection s) s

/-- R129: a walk under hysteresis. -/
def hysteresisWalk (s : State) : State := takeSelection (hysteresisSelection s) s

/-! ## Wanted states (R128) -/

/-- R128: the wanted state of a fan under the selection. -/
def wantedOf (s : State) (f : Nat) : Wanted :=
  match s.live with
  | none => .stop
  | some l =>
    match l.dir with
    | none => .stop
    | some d =>
      if s.plan.selection.contains f then .run (driveFor s.tables d f) (fanRec s f).step else .stop

/-- R128: the fans whose wanted state has changed: those newly wanted STOP in index order, then those wanted RUN in
selection order (log 18). -/
def changedFans (s : State) : List Nat :=
  ((List.range s.tables.fans.count).filter fun f =>
      decide (wantedOf s f = .stop) && decide ((fanRec s f).wanted ≠ .stop)) ++
    s.plan.selection.filter fun f =>
      decide (f < s.tables.fans.count) && decide (wantedOf s f ≠ .stop) && decide ((fanRec s f).wanted ≠ wantedOf s f)

/-- R128, R143: each wanted state is recorded as it is handed. -/
def recordWanted (s : State) : State :=
  s.setFans { s.fans with
    recs := s.fans.recs.mapIdx fun f r => if f < s.tables.fans.count then { r with wanted := wantedOf s f } else r }

/-! ## Head phase (R89, R90, R132) -/

/-- The head's phase is set. -/
def setPhase (p : Phase) (s : State) : State :=
  s.setIncidents { s.incidents with
    list := match s.incidents.list with
      | [] => []
      | i :: rest => { i with phase := some p } :: rest }

/-- 0x0C PHASE. -/
def phaseNotice (p : Phase) (s : State) : State := headNotice 0x0C [byte (phaseCode p)] s

/-- R90: a fan's sequencer state is settled. -/
def isSettled : FanState → Bool
  | .running => true
  | .failed => true
  | .lost => true
  | .unavailable => true
  | _ => false

/-- R90: the selection is settled. -/
def selectionSettled (s : State) : Bool := s.plan.selection.all fun f => isSettled (fanRec s f).state

/-- The head's phase; none without a head. -/
def headPhase (s : State) : Option Phase :=
  match s.incidents.list with
  | [] => none
  | i :: _ => i.phase

/-- The trim timer is set (R132). -/
def setTrim (x : Option Nat) (s : State) : State := s.setPlan { s.plan with trim := x }

/-- R90: the phase test. -/
def phaseTest (s : State) : State :=
  match headPhase s, selectionSettled s with
  | some .staging, true =>
    setTrim (some (s.params.trimInterval * 1000)) (phaseNotice .regulating (setPhase .regulating s))
  | some .regulating, false => setTrim none (phaseNotice .staging (setPhase .staging s))
  | _, _ => s

end Sys2Proof.Machine
end

