-- ==== Sys2Proof/Machine/Fans.lean ====
section
/-!
DEFINITION. The Fan Sequencer (08_fan_sequencing.md): command exchanges, start queue, takeover, wanted states, reports,
failed attempts, silence, dry run; and the meanings of its commands.
-/

namespace Sys2Proof.Machine

open Sys2Proof

/-! ## Records -/

/-- A fan record is changed. -/
def modFan (f : Nat) (g : FanRecord → FanRecord) (s : State) : State := s.setFan f (g (fanRec s f))

/-- The sequencer state of a fan is set. -/
def setFanState (f : Nat) (st : FanState) (s : State) : State := modFan f (fun r => { r with state := st }) s

/-- Dwell and start timers of a fan are stopped. -/
def stopTimers (f : Nat) (s : State) : State := modFan f (fun r => { r with dwell := none, start := none }) s

/-- The start queue is replaced. -/
def setQueue (q : List Nat) (s : State) : State := s.setFans { s.fans with queue := q }

/-- R153: a fan leaves the start queue. -/
def leaveQueue (f : Nat) (s : State) : State := setQueue (s.fans.queue.filter fun g => g != f) s

/-- The wanted state of a fan is RUN. -/
def wantsRun (r : FanRecord) : Bool :=
  match r.wanted with
  | .stop => false
  | .run _ _ => true

/-- The reported direction and step are those of the wanted RUN. -/
def reportedAsWanted (r : FanRecord) : Bool := decide (r.wanted = .run r.reported.dir r.reported.step)

/-! ## Command exchange (R148, R149, R166, R207) -/

/-- The command number after a number: 1 after 0, and 1 after 255. -/
def succNumber (n : Nat) : Nat := if n < 255 then n + 1 else 1

/-- R149: the number of a new command. -/
def nextCommandNumber (r : FanRecord) : Nat :=
  let c := succNumber r.lastIssued
  if c = r.reported.number ∧ r.reported.origin = .chip then succNumber c else c

/-- The payload of a FAN COMMAND of the part: origin CHIP (R20). -/
def commandPayload (c : FanCommand) : List Byte :=
  [byte (actionCode c.action), byte (driveCode c.dir), byte (stepCode c.step), byte c.number,
    byte (cmdOriginCode .chip)]

/-- R148, R166, R207: each point at which a FAN COMMAND would be offered: the frame in service and in command, a DRY
COMMAND notice in dry run. -/
def offerFanCommand (f : Nat) (c : FanCommand) (s : State) : State :=
  if s.auth.dryRun then
    headNotice 0x19 [byte f, byte (actionCode c.action), byte (driveCode c.dir), byte (stepCode c.step), byte c.number] s
  else if s.fans.inCommand && decide (s.auth.state = .autonomous) then
    offerCommand ⟨fanAddr s.tables f, kindFanCommand, commandPayload c, false⟩ s
  else s

/-- R149: a new command is numbered and offered, and its exchange is opened with a 250 ms deadline. -/
def sendCommand (f : Nat) (a : Action) (d : Drive) (st : SpeedStep) (s : State) : State :=
  let r := fanRec s f
  let c : FanCommand := ⟨a, d, st, nextCommandNumber r⟩
  offerFanCommand f c (s.setFan f
    { r with
      lastIssued := c.number
      exchange := .opened c 0 (.ack Config.ackTimeout)
      lastRun := match a with | .stop => r.lastRun | .run => some (d, st) })

/-- A STOP: FWD and FULL stand in its unused fields (section 8.1). -/
def sendStop (f : Nat) (s : State) : State := sendCommand f .stop .fwd .full s

/-- A STOP is sent and the fan becomes STOPPING; its start timer is stopped (R155, R163). -/
def stopFan (f : Nat) (s : State) : State :=
  modFan f (fun r => { r with state := .stopping, start := none }) (sendStop f s)

/-- The exchange of a fan is closed without a further send. -/
def closeExchange (f : Nat) (s : State) : State := modFan f (fun r => { r with exchange := .closed }) s

/-- The exchange of a fan is closed. -/
def exchangeClosed (r : FanRecord) : Bool := decide (r.exchange = .closed)

/-! ## Start queue (R153, R159) -/

/-- R153: a fan in STOPPED joins the queue when it is wanted RUN, reported STOPPED and the part is in command. -/
def joinQueue (f : Nat) (s : State) : State :=
  let r := fanRec s f
  if s.fans.inCommand && decide (r.state = .stopped) && wantsRun r && decide (r.reported.drive = .stopped) then
    setFanState f .queued (setQueue (s.fans.queue ++ [f]) s)
  else s

/-- R159: the dwell ends: STOPPED, and into the start queue when R153 allows. -/
def dwellEnd (f : Nat) (s : State) : State :=
  joinQueue f (modFan f (fun r => { r with state := .stopped, dwell := none }) s)

/-- R158, R159: DWELL with a dwell timer; a dwell of 0 expires at the moment it is set. -/
def enterDwell (f ms : Nat) (s : State) : State :=
  if ms = 0 then dwellEnd f s else modFan f (fun r => { r with state := .dwell, dwell := some ms }) s

/-! ## Derivation (R145) -/

/-- R145: the sequencer state of one fan is derived from its reported part, its marks and its wanted state. Joining the
start queue is left to the caller, which knows the order. -/
def deriveFan (f : Nat) (s : State) : State :=
  let t := stopTimers f s
  let r := fanRec t f
  if r.failed then
    let u := setFanState f .failed t
    match r.reported.drive with
    | .accel => sendStop f u
    | .running => sendStop f u
    | .decel => sendStop f u
    | .tripped => sendStop f u
    | _ => u
  else if r.lost then setFanState f .lost t
  else
    match r.reported.drive with
    | .lockout => setFanState f .unavailable t
    | .unknown => setFanState f .stopped t
    | .running => if reportedAsWanted r then setFanState f .running t else stopFan f t
    | .accel =>
      if reportedAsWanted r then
        modFan f (fun r => { r with state := .settling, start := some (t.params.startLimit * 1000) }) t
      else stopFan f t
    | .decel => stopFan f t
    | .tripped => stopFan f t
    | .stopped =>
      if r.reported.seconds < t.params.dwell then
        modFan f (fun r => { r with
          state := .dwell
          dwell := some ((t.params.dwell - r.reported.seconds) * 1000) }) t
      else setFanState f .stopped t

/-- One fan is derived and joins the start queue where R153 allows. -/
def deriveOne (f : Nat) (s : State) : State := joinQueue f (deriveFan f s)

/-! ## What is handed on (R168), start test (R154), wanted states (R155) -/

/-- R90, R168: a change of a selected fan's sequencer state brings the phase test. -/
def notifyChange (f : Nat) (old : FanState) (s : State) : State :=
  if (fanRec s f).state ≠ old ∧ s.plan.selection.contains f = true then phaseTest s else s

/-- Fans in STARTING: the start slots held. -/
def startingCount (s : State) : Nat := s.fans.recs.countP fun r => decide (r.state = .starting)

/-- R154: the start spacing has elapsed. -/
def spacingElapsed (s : State) : Bool :=
  match s.fans.spacing with
  | none => true
  | some n => decide (n = 0)

/-- R154: the fan at the head of the start queue may be started. A fan whose recorded wanted state is STOP waits for
that wanted state to be taken (log 18). -/
def mayStart (f : Nat) (s : State) : Bool :=
  s.fans.inCommand && decide (headPhase s ≠ some .delay) && decide (startingCount s < s.params.sMax) &&
    spacingElapsed s && wantsRun (fanRec s f)

/-- A timer of whole seconds; 0 seconds have elapsed at once. -/
def secondsTimer (n : Nat) : Option Nat := if n = 0 then none else some (n * 1000)

/-- R154: a fan is started: it leaves the queue, RUN is sent with the wanted direction and the fan's step, the start
timer and the spacing timer are set. -/
def startFan (f : Nat) (s : State) : State :=
  match (fanRec s f).wanted with
  | .stop => s
  | .run d _ =>
    let t := sendCommand f .run d (fanRec s f).step (leaveQueue f s)
    let u := modFan f (fun r => { r with state := .starting, start := some (s.params.startLimit * 1000) }) t
    notifyChange f .queued (u.setFans { u.fans with spacing := secondsTimer s.params.startSpacing })

/-- R154: the start test is made again after each start. -/
def startLoop : Nat → State → State
  | 0, s => s
  | n + 1, s =>
    match s.fans.queue with
    | [] => s
    | f :: _ => if mayStart f s then startLoop n (startFan f s) else s

/-- R154: the start test. -/
def startTests (s : State) : State := startLoop s.fans.queue.length s

/-- R155: the transition a recorded wanted state causes. -/
def applyWanted (f : Nat) (s : State) : State :=
  let r := fanRec s f
  match r.state with
  | .stopped => joinQueue f s
  | .queued => if wantsRun r then s else setFanState f .stopped (leaveQueue f s)
  | .starting =>
    (match r.wanted, r.lastRun with
     | .run d st, some (d', st') => if d = d' ∧ st = st' then s else stopFan f s
     | _, _ => stopFan f s)
  | .settling => if reportedAsWanted r then s else stopFan f s
  | .running => if reportedAsWanted r then s else stopFan f s
  | _ => s

/-- R155, R168: a wanted state is taken as an event of its own. -/
def takeWanted (s : State) (f : Nat) : State :=
  startTests (notifyChange f (fanRec s f).state (applyWanted f s))

/-- Wanted states are taken one after another. -/
def takeWanteds (fs : List Nat) (s : State) : State := fs.foldl takeWanted s

/-- R128: the wanted states that changed are handed over and taken. -/
def handWanted (s : State) : State := takeWanteds (changedFans s) (recordWanted s)

/-- R128, R130: after a walk that no fan asked for: hand-over, phase test, start test. -/
def rebuilt (s : State) : State := startTests (phaseTest (handWanted s))

/-- R130: a fresh walk with its hand-over. -/
def freshRevision (s : State) : State := rebuilt (freshWalk s)

/-- R130: a walk under hysteresis with its hand-over. -/
def hysteresisRevision (s : State) : State := rebuilt (hysteresisWalk s)

/-- R168: the Thrust Planner is asked to recompute; the fans whose wanted state changed are answered, to be taken after
the event that asked. -/
def recompute (s : State) : State × List Nat :=
  if incidentListed s then
    let t := hysteresisWalk s
    (phaseTest (recordWanted t), changedFans t)
  else (s, [])

/-- R168: an event of one fan: its own effect, the recompute it asks for, the state change to the Incident Manager, the
start test, then the wanted states of the recompute. -/
def fanEvent (f : Nat) (body : State → State × Bool) (s : State) : State :=
  let p := body s
  let q := if p.2 then recompute p.1 else (p.1, [])
  takeWanteds q.2 (startTests (notifyChange f (fanRec s f).state q.1))

/-! ## Failed attempts, loss, lockout, recovery (R152, R161, R163) -/

/-- R163: a failed attempt. -/
def failedAttempt (f : Nat) (s : State) : State × Bool :=
  let t := stopFan f s
  let r := fanRec t f
  match r.step with
  | .full =>
    if s.params.fFull ≤ r.fullFails + 1 then
      (headNotice 0x11 [byte f] (t.setFan f { r with fullFails := r.fullFails + 1, step := .half }), true)
    else (t.setFan f { r with fullFails := r.fullFails + 1 }, false)
  | .half =>
    if s.params.fHalf ≤ r.halfFails + 1 then
      (headNotice 0x12 [byte f, byte (tripCode r.reported.trip)]
        (t.setFan f { r with halfFails := r.halfFails + 1, failed := true, state := .failed }), true)
    else (t.setFan f { r with halfFails := r.halfFails + 1 }, false)

/-- R161: the fan becomes UNAVAILABLE. -/
def becomeUnavailable (f : Nat) (s : State) : State × Bool :=
  (modFan f (fun r => { r with state := .unavailable, exchange := .closed, dwell := none, start := none })
    (leaveQueue f s), true)

/-- R152: the fan becomes LOST. -/
def becomeLost (f number : Nat) (s : State) : State × Bool :=
  (headNotice 0x13 [byte f, byte number]
    (modFan f (fun r => { r with
      state := .lost, lost := true, exchange := .closed, dwell := none, start := none }) s), true)

/-- R152, R168: a status of a fan whose lost mark is set is a recovery; the command that the derivation sends is handed on
ahead of the notice. -/
def recoverFan (f : Nat) (s : State) : State × Bool :=
  let t := modFan f (fun r => { r with lost := false }) s
  let u := if t.fans.inCommand then deriveOne f t else t
  (headNotice 0x14 [byte f, byte (driveStateCode (fanRec s f).reported.drive)] u, t.fans.inCommand)

/-! ## Taking a status (R144, R150, R156 to R162) -/

/-- R156: a status of a fan in STARTING or SETTLING. -/
def statusStarting (f : Nat) (s : State) : State × Bool :=
  let r := fanRec s f
  if decide (r.state = .settling) || exchangeClosed r then
    match r.reported.drive with
    | .running =>
      if reportedAsWanted r then (modFan f (fun r => { r with state := .running, start := none }) s, false)
      else failedAttempt f s
    | .accel => if reportedAsWanted r then (s, false) else failedAttempt f s
    | .tripped => failedAttempt f s
    | .stopped => failedAttempt f s
    | .decel => failedAttempt f s
    | _ => (s, false)
  else
    match r.reported.drive with
    | .tripped => failedAttempt f s
    | _ => (s, false)

/-- R157: a status of a RUNNING fan. -/
def statusRunning (f : Nat) (s : State) : State × Bool :=
  let r := fanRec s f
  match r.reported.drive with
  | .running => if reportedAsWanted r then (s, false) else (deriveOne f s, false)
  | .tripped => failedAttempt f s
  | _ => (deriveOne f s, false)

/-- R158: a status of a fan in STOPPING. -/
def statusStopping (f : Nat) (s : State) : State × Bool :=
  let r := fanRec s f
  if exchangeClosed r then
    match r.reported.drive with
    | .stopped => (enterDwell f (s.params.dwell * 1000) s, false)
    | .tripped => (sendStop f s, false)
    | .accel => (sendStop f s, false)
    | .running => (sendStop f s, false)
    | _ => (s, false)
  else (s, false)

/-- R159: a status of a fan in DWELL, STOPPED or QUEUED. -/
def statusStanding (f : Nat) (wasUnknown : Bool) (s : State) : State × Bool :=
  let r := fanRec s f
  match r.reported.drive with
  | .stopped => if decide (r.state = .stopped) && wasUnknown then (deriveOne f s, false) else (s, false)
  | .unknown => (s, false)
  | _ => (deriveOne f (leaveQueue f s), false)

/-- R162: a status of a FAILED fan. -/
def statusFailed (f : Nat) (s : State) : State × Bool :=
  let r := fanRec s f
  if decide (r.reported.drive = .tripped) && exchangeClosed r then (sendStop f s, false) else (s, false)

/-- R144 step 3: the status is handled under the rules for the fan's sequencer state. -/
def statusBody (f : Nat) (wasUnknown : Bool) (s : State) : State × Bool :=
  let r := fanRec s f
  if r.lost then recoverFan f s
  else if decide (r.reported.drive = .lockout) && decide (r.state ≠ .handsOff) then
    if r.state = .unavailable then (s, false) else becomeUnavailable f s
  else
    match r.state with
    | .handsOff => (s, false)
    | .starting => statusStarting f s
    | .settling => statusStarting f s
    | .running => statusRunning f s
    | .stopping => statusStopping f s
    | .dwell => statusStanding f wasUnknown s
    | .stopped => statusStanding f wasUnknown s
    | .queued => statusStanding f wasUnknown s
    | .failed => statusFailed f s
    | .lost => (s, false)
    | .unavailable => (deriveOne f s, true)

/-- The reported part a status gives (R144 step 1). -/
def reportedOf (st : FanStatus) (now : Nat) (injected : Bool) : Reported :=
  ⟨st.drive, st.dir, st.step, st.number, st.origin, st.seconds, st.temperature, st.trip, some now, injected⟩

/-- R150: a status acknowledges the open exchange. -/
def acknowledges (r : FanRecord) (st : FanStatus) : Bool :=
  match r.exchange with
  | .closed => false
  | .opened c _ _ => decide (st.number = c.number) && decide (st.origin = .chip)

/-- R144 steps 1 and 2. -/
def takeReport (f : Nat) (st : FanStatus) (injected : Bool) (s : State) : State :=
  modFan f (fun r => { r with
    reported := reportedOf st s.clock injected
    exchange := if acknowledges r st then .closed else r.exchange }) s

/-- R144: a status is taken whole. -/
def takeStatus (f : Nat) (st : FanStatus) (injected : Bool) (s : State) : State :=
  fanEvent f (fun t => statusBody f (decide ((fanRec s f).reported.drive = .unknown)) t) (takeReport f st injected s)

/-- R166: in dry run a status from the ring is taken into the reported part only, and not at all for a fan whose
injected mark is set. -/
def dryReport (f : Nat) (st : FanStatus) (s : State) : State :=
  if (fanRec s f).reported.injected then s
  else modFan f (fun r => { r with reported := reportedOf st s.clock false }) s

/-! ## Command (R145 to R147, R164) -/

/-- A head plan with a scenario, record or FALLBACK, is held (R146). -/
def planHeld (s : State) : Bool :=
  match s.live with
  | none => false
  | some l => decide (l.scenario ≠ .none)

/-- The sequencer states whose entry asks for a recompute (R168). -/
def asksRecompute : FanState → Bool
  | .failed => true
  | .lost => true
  | .unavailable => true
  | _ => false

/-- One recompute for each fan that a takeover made FAILED, LOST or UNAVAILABLE; the wanted states to take are
collected (log 19). -/
def recomputeFor : List Nat → State × List Nat → State × List Nat
  | [], p => p
  | _ :: fs, (s, acc) =>
    let q := recompute s
    recomputeFor fs (q.1, acc ++ q.2)

/-- R145, R146: the takeover of every fan below the fan count. -/
def takeover (s : State) : State :=
  let t := s.setFans { s.fans with inCommand := true }
  let all := List.range t.tables.fans.count
  let u := all.foldl (fun u f => deriveFan f u) t
  let v := u.plan.selection.foldl (fun v f => joinQueue f v) u
  let q := recomputeFor (all.filter fun f => asksRecompute (fanRec v f).state) (v, [])
  takeWanteds q.2 (startTests (phaseTest q.1))

/-- R146: the Fan Sequencer comes into command when both conditions hold. -/
def comeIntoCommand (s : State) : State :=
  if !s.fans.inCommand && decide (s.auth.state = .autonomous) && planHeld s then takeover s else s

/-- R147: a fan record on leaving command. -/
def handsOff (r : FanRecord) : FanRecord :=
  { r with state := .handsOff, exchange := .closed, dwell := none, start := none }

/-- R147: the waiting FAN COMMAND frames are removed from the insert queue, not counted. -/
def removeFanCommands (s : State) : State :=
  s.setPort { s.port with commands := s.port.commands.filter fun q => q.kind != kindFanCommand }

/-- R147: the Fan Sequencer leaves command. A LOST or UNAVAILABLE fan that becomes HANDS_OFF brings no walk (DESIGN
CHOICE, log 45: the table of R130 names the leaving, its last paragraph the becoming HANDS_OFF). -/
def leaveCommand (s : State) : State :=
  if s.fans.inCommand then
    phaseTest (removeFanCommands (s.setFans { s.fans with
      recs := s.fans.recs.mapIdx fun f r => if f < s.tables.fans.count then handsOff r else r
      queue := []
      inCommand := false }))
  else s

/-- R164: the marks of every fan are cleared. -/
def clearMarks (s : State) : State :=
  s.setFans { s.fans with
    recs := s.fans.recs.map fun r => { r with
      failed := false, lost := false, step := .full, fullFails := 0, halfFails := 0 } }

/-! ## When a timed event of a fan is due -/

/-- STATUS_AGE_UNKNOWN is due: 6,000 ms have passed since the taken-at time (R144). -/
def statusAgeDue (f : Nat) (s : State) : Bool :=
  let r := (fanRec s f).reported
  decide (f < s.fans.recs.length) && decide (r.drive ≠ .unknown) &&
    (match r.takenAt with
     | none => false
     | some t => decide (t + Config.statusLimit ≤ s.clock))

/-- ACK_DEADLINE is due; IN SILENT pauses it (R151, R165). -/
def ackDue (f : Nat) (s : State) : Bool :=
  !s.port.inSilent &&
    (match (fanRec s f).exchange with
     | .opened _ _ (.ack 0) => true
     | _ => false)

/-- RESEND_TIME is due; IN SILENT pauses it (R151, R165). -/
def resendDue (f : Nat) (s : State) : Bool :=
  !s.port.inSilent &&
    (match (fanRec s f).exchange with
     | .opened _ _ (.resend 0) => true
     | _ => false)

/-- SILENCE_RESEND is due (R165). -/
def silenceResendDue (s : State) : Bool := s.port.inSilent && decide (Config.silenceResend ≤ s.port.silentFor)

/-- START_SPACING_EXPIRY is due (R154). -/
def spacingDue (s : State) : Bool := decide (s.fans.spacing = some 0)

/-- DWELL_TIMER_EXPIRY is due (R159). -/
def dwellDue (f : Nat) (s : State) : Bool := decide ((fanRec s f).dwell = some 0)

/-- START_TIMER_EXPIRY is due; IN SILENT pauses it (R160, R165). -/
def startDue (f : Nat) (s : State) : Bool := !s.port.inSilent && decide ((fanRec s f).start = some 0)

/-! ## Effects of the timed events -/

/-- R144, R153: the reported drive state becomes UNKNOWN; a queued fan leaves the queue. -/
def ageUnknown (f : Nat) (s : State) : State × Bool :=
  let t := modFan f (fun r => { r with reported := { r.reported with drive := .unknown } }) s
  if (fanRec t f).state = .queued then (setFanState f .stopped (leaveQueue f t), false) else (t, false)

/-- R151: the acknowledgement deadline passes. -/
def ackPasses (f : Nat) (s : State) : State × Bool :=
  match (fanRec s f).exchange with
  | .closed => (s, false)
  | .opened c n _ =>
    if n < Config.retryLimit then
      ((modFan f (fun r => { r with
          exchange := .opened c n (.resend (Config.backoffDraw s.draws % 2 ^ s.params.k * Config.backoffSlot)) }) s
        ).setDraws (s.draws + 1), false)
    else if (fanRec s f).state = .failed then (closeExchange f s, false)
    else becomeLost f c.number s

/-- R151: the outstanding command is offered again with a new deadline. -/
def resendNow (f : Nat) (s : State) : State :=
  match (fanRec s f).exchange with
  | .closed => s
  | .opened c n _ =>
    offerFanCommand f c (modFan f (fun r => { r with exchange := .opened c (n + 1) (.ack Config.ackTimeout) }) s)

/-- R165: the outstanding command of an open exchange is offered again; nothing else changes. -/
def silenceOffer (s : State) (f : Nat) : State :=
  match (fanRec s f).exchange with
  | .closed => s
  | .opened c _ _ => offerFanCommand f c s

/-- R165: every open exchange re-sends, in index order (DESIGN CHOICE, log 32: the manual gives no order). -/
def silenceResendAll (s : State) : State :=
  (List.range s.fans.recs.length).foldl silenceOffer (s.setPort { s.port with silentFor := 0 })

/-! ## Meanings -/

/-- FAN_STATUS (R144, R166). -/
def execFanStatus (fan : Nat) (status : FanStatus) (s : State) : Host.Outcome State Fault Refusal :=
  let t := took (.fanStatus fan status) s
  finish (
    if inService t && decide (fan < t.tables.fans.count) then
      if t.auth.dryRun then dryReport fan status t else takeStatus fan status false t
    else t)

/-- STATUS_AGE_UNKNOWN (R144, R153). -/
def execStatusAgeUnknown (fan : Nat) (s : State) : Host.Outcome State Fault Refusal :=
  finish (if statusAgeDue fan s then fanEvent fan (ageUnknown fan) s else s)

/-- ACK_DEADLINE (R151, R152). -/
def execAckDeadline (fan : Nat) (s : State) : Host.Outcome State Fault Refusal :=
  finish (if ackDue fan s then fanEvent fan (ackPasses fan) s else s)

/-- RESEND_TIME (R151). -/
def execResendTime (fan : Nat) (s : State) : Host.Outcome State Fault Refusal :=
  finish (if resendDue fan s then resendNow fan s else s)

/-- SILENCE_RESEND (R165). -/
def execSilenceResend (s : State) : Host.Outcome State Fault Refusal :=
  finish (if silenceResendDue s then silenceResendAll s else s)

/-- START_SPACING_EXPIRY (R154). -/
def execStartSpacingExpiry (s : State) : Host.Outcome State Fault Refusal :=
  finish (if spacingDue s then startTests (s.setFans { s.fans with spacing := none }) else s)

/-- DWELL_TIMER_EXPIRY (R159). -/
def execDwellTimerExpiry (fan : Nat) (s : State) : Host.Outcome State Fault Refusal :=
  finish (if dwellDue fan s then fanEvent fan (fun t => (dwellEnd fan t, false)) s else s)

/-- START_TIMER_EXPIRY (R160, R163). -/
def execStartTimerExpiry (fan : Nat) (s : State) : Host.Outcome State Fault Refusal :=
  finish (if startDue fan s then fanEvent fan (failedAttempt fan) s else s)

end Sys2Proof.Machine
end

