-- ==== Sys2Proof/Machine/Authority.lean ====
section
/-!
DEFINITION. The Authority Controller (09_control_authority.md): entry into and exit from AUTONOMOUS, release and resume,
the hold, interceptions, the moves the tables and the incident list bring; and the meanings of its commands.
-/

namespace Sys2Proof.Machine

open Sys2Proof

/-- The authority state is set; the AUTH output follows it (R185). -/
def setAuthState (a : AuthState) (s : State) : State := s.setAuth { s.auth with state := a }

/-- R180: the authority state changes and one AUTHORITY notice is offered. -/
def moveAuth (a : AuthState) (s : State) : State := authorityNotice a s.auth.state (setAuthState a s)

/-! ## Interception (R27, R31, R182) -/

/-- R182: at least 1,000 ms have passed since the last hold time, or no hold has been offered. -/
def holdAllowed (s : State) : Bool :=
  match s.auth.lastHold with
  | none => true
  | some t => decide (t + Config.holdSpacing ≤ s.clock)

/-- R182: the Authority Controller is told of one interception. -/
def interception (s : State) : State :=
  let t := s.setAuth { s.auth with intercepted := satCount 255 s.auth.intercepted }
  if decide (t.auth.state = .autonomous) && !t.auth.dryRun && holdAllowed t then claimHold t else t

/-- R27: a frame that is not consumed is one the classifier intercepts, authority apart. -/
def isManualCommand (t : TableStore) (f : Frame) : Bool :=
  decide (f.kind = kindFanCommand) &&
    (match lookupSource t f.source with
     | .station _ .controlCentre => true
     | _ => false) &&
    isDriveAddr t f.dest

/-- R27, R33: the classifier intercepts the frame. -/
def intercepts (s : State) (f : Frame) : Bool :=
  decide (s.auth.state = .autonomous) && !s.auth.dryRun && geometryValid s && isManualCommand s.tables f

/-- The Authority Controller is told of `n` interceptions, one after another. -/
def interceptions : Nat → State → State
  | 0, s => s
  | n + 1, s => interceptions n (interception s)

/-- R31: the frames the classifier would intercept leave the forward queue, and each is told as an interception. -/
def purgeForward (s : State) : State :=
  let taken := fun b => intercepts s (frameOf b)
  interceptions (s.port.forward.countP taken)
    (s.setPort { s.port with forward := s.port.forward.filter fun b => !taken b })

/-! ## Entry and exit (R175, R179) -/

/-- R175: entry into AUTONOMOUS. -/
def enterAutonomous (s : State) : State :=
  let t := setAuthState .autonomous s
  let u := if s.auth.dryRun then t else purgeForward (claimHold t)
  comeIntoCommand (authorityNotice .autonomous s.auth.state u)

/-- R179 steps 3 and 4: a hold of 0 where a hold runs, and the hold remaining becomes 0. -/
def endHold (s : State) : State :=
  let t := if 0 < s.auth.holdRemaining then offerHold 0 (headNumber s) s else s
  t.setAuth { t.auth with holdRemaining := 0 }

/-- R179: the authority state leaves AUTONOMOUS. -/
def exitAutonomous (a : AuthState) (s : State) : State :=
  authorityNotice a .autonomous (endHold (leaveCommand (setAuthState a s)))

/-! ## What the other blocks tell it (R172, R173, R174, R178, R183) -/

/-- R174: the incident list has passed from empty to non-empty; a state without a line in R174 stands (log 22). -/
def listNotEmpty (s : State) : State :=
  match s.auth.state with
  | .monitor => enterAutonomous s
  | .unconfigured => authorityNotice .unconfigured .unconfigured s
  | _ => s

/-- R178: the incident list has become empty. -/
def listEmpty (s : State) : State :=
  match s.auth.state with
  | .autonomous => exitAutonomous .monitor s
  | .released => moveAuth .monitor s
  | _ => s

/-- R173: an OPEN LOAD of a geometry-set table has been taken. -/
def geometryOpened (s : State) : State :=
  match s.auth.state with
  | .monitor => moveAuth .unconfigured s
  | _ => s

/-- R173: a CLOSE LOAD of a geometry-set table has been taken. -/
def geometryClosed (s : State) : State :=
  match s.auth.state, geometryValid s with
  | .unconfigured, true => if incidentListed s then enterAutonomous s else moveAuth .monitor s
  | _, _ => s

/-- R172, R183: the start-up load has ended. -/
def leaveStarting (s : State) : State :=
  let t := moveAuth (if geometryValid s then .monitor else .unconfigured) s
  if t.tables.global.isValid then offerHold 0 0 t else t

/-! ## Release and resume (R176, R177) -/

/-- R176: a release with a number, 0 for whatever is head. -/
def releaseAuthority (number : Nat) (s : State) : State :=
  if s.auth.state = .autonomous ∧ (number = 0 ∨ number = headNumber s) then exitAutonomous .released s
  else authorityNotice s.auth.state s.auth.state s

/-- R177: a resume. -/
def resumeAuthority (s : State) : State :=
  match s.auth.state with
  | .released => enterAutonomous s
  | _ => s

/-! ## Meanings -/

/-- AUTHORITY_RELEASE (R176). -/
def execAuthorityRelease (number : Nat) (s : State) : Host.Outcome State Fault Refusal :=
  let t := took (.authorityRelease number) s
  finish (if inService t then releaseAuthority number t else t)

/-- AUTHORITY_RESUME (R177). -/
def execAuthorityResume (s : State) : Host.Outcome State Fault Refusal :=
  let t := took .authorityResume s
  finish (if inService t then resumeAuthority t else t)

/-- R181: the hold remaining has reached the refresh threshold. -/
def holdDue (s : State) : Bool :=
  decide (s.auth.state = .autonomous) && !s.auth.dryRun &&
    decide (s.auth.holdRemaining ≤ s.params.refresh * 1000)

/-- HOLD_REFRESH (R181). -/
def execHoldRefresh (s : State) : Host.Outcome State Fault Refusal :=
  finish (if holdDue s then claimHold s else s)

end Sys2Proof.Machine
end

