-- ==== Sys2Proof/Machine/Bore.lean ====
section
/-!
DEFINITION. What the records of the bore give to other blocks: fire position and occupancy class of the Train Table
(R60, R63, R64), staleness (R40, R59), and the measured velocity of the Sample Store (R47, R48).
-/

namespace Sys2Proof.Machine

open Sys2Proof

/-! ## Trains (R60, R63, R64) -/

/-- The lower end of a train's extent. -/
def Train.lo (r : Train) : Nat := min r.head r.tail
/-- The higher end of a train's extent. -/
def Train.hi (r : Train) : Nat := max r.head r.tail

/-- R60: the fire position of a train record, for tunnel length L. -/
def firePosition (L : Nat) (r : Train) : Nat :=
  let p : Int :=
    match r.offset with
    | some o => clampInt r.lo r.hi ((r.head : Int) - flowSign r.dir * (o : Int))
    | none => (((r.head + r.tail) / 2 : Nat) : Int)
  (clampInt 0 L p).toNat

/-- The record that holds a train id. -/
def trainById (ts : List (Option Train)) (id : Nat) : Option Train :=
  (ts.find? fun o => match o with | some r => decide (r.id = id) | none => false).join

/-- R63: the fire position of the train with an id. -/
def trainFirePosition (s : State) (id : Nat) : Option Nat := (trainById s.trains id).map (firePosition s.params.L)

/-- R64: a train stands on the A side of x, or across it. -/
def onSideA (x : Nat) (r : Train) : Bool := decide (r.lo ≤ x)

/-- R64: a train stands on the B side of x, or across it. -/
def onSideB (x : Nat) (r : Train) : Bool := decide (x ≤ r.hi)

/-- R64: the records that count toward the occupancy class. -/
def countedTrains (ts : List (Option Train)) (excluded : Option Nat) : List Train :=
  (ts.filterMap id).filter fun r => decide (some r.id ≠ excluded)

/-- R64: the occupancy class around x. A train wholly on the A side has hi < x, one on the B side lo > x, and one that
spans x sets both bits. -/
def occupancy (ts : List (Option Train)) (x : Nat) (excluded : Option Nat) : Nat :=
  bit ((countedTrains ts excluded).any fun r => decide (r.hi < x) || (onSideA x r && onSideB x r)) 1 +
    bit ((countedTrains ts excluded).any fun r => decide (x < r.lo) || (onSideA x r && onSideB x r)) 2

/-- R59: a record is STALE when its age exceeds 10,000 ms. -/
def trainIsStale (now : Nat) (r : Train) : Bool := decide (r.takenAt + Config.trainStale < now)

/-- IN USE slots. -/
def trainsInUse (s : State) : Nat := (s.trains.filterMap id).length

/-- STALE records. -/
def trainsStale (s : State) : Nat := (s.trains.filterMap id).countP (trainIsStale s.clock)

/-! ## Measured velocity (R40, R47, R48) -/

/-- The sample record of a station index. -/
def stationRec (s : State) (i : Nat) : StationRecord := s.samples.getD i .absent

/-- R40: a record is stale when more than 5,000 ms have passed since its taken-at time. -/
def sampleIsStale (now : Nat) (x : Sample) : Bool := decide (x.takenAt + Config.sampleStale < now)

/-- R47: a station is selected for v_m, for the fire chainage x and the flow direction. -/
def measures (s : State) (d : Dir) (x i : Nat) : Bool :=
  stationHasRole s.tables i .anemometer && stationMeasures s.tables i &&
    (match (stationRec s i).sample with
     | none => false
     | some r => !sampleIsStale s.clock r && decide (r.quality = .good)) &&
    decide (downstream d x (stationChainage s.tables i) ≤ -(s.params.clearDistance : Int))

/-- R48 step 1: a record's value on the tunnel axis. -/
def axisValue (s : State) (i : Nat) : Int :=
  match (stationRec s i).sample with
  | none => 0
  | some r => stationSign s.tables i * r.value.getD 0

/-- R48: v_m along the flow, truncated toward zero; absent when no station is selected. -/
def measuredVelocity (s : State) (d : Dir) : Option Int :=
  let sel := (List.range s.tables.stations.count).filter (measures s d (headChainage s))
  if sel.isEmpty then none
  else some ((flowSign d * (sel.map (axisValue s)).sum).tdiv sel.length)

end Sys2Proof.Machine
end

