-- ==== Sys2Proof/Machine/Scenario.lean ====
section
/-!
DEFINITION. Scenario Lookup (06_tunnel_geometry_and_scenarios.md): lookup, fallback, re-lookup, restore and the direction
lock; the activation of a head (R87); the trim (R132 to R135); and the meanings of their timed events.
-/

namespace Sys2Proof.Machine

open Sys2Proof

/-! ## Lookup (R104, R105) -/

/-- The head's incident train. -/
def headTrain (s : State) : Option Nat :=
  match s.incidents.list with
  | [] => none
  | i :: _ => i.train

/-- The zone of the head's fire chainage. -/
def zoneNow (s : State) : Nat := zoneOf s.tables (headChainage s)

/-- The occupancy class around the head's fire chainage, without its own train (R104). -/
def classNow (s : State) : Nat := occupancy s.trains (headChainage s) (headTrain s)

/-- R104: the variant of a variant count and an occupancy class. A count other than 1, 2 and 4, which only a stored image
can hold, counts as 4 (DESIGN CHOICE, log 44). -/
def variantOf (count c : Nat) : Nat :=
  match count with
  | 1 => 0
  | 2 => if c = 0 then 0 else 1
  | _ => c

/-- R105: the checks on a record number, first failing cause. -/
def checkRecord (t : TableStore) (n : Nat) : Option FallbackCause :=
  if !t.scenarioValid then some .setNotValid
  else if t.scenarios.count ≤ n then some .outOfRange
  else if !scenValid (t.scenarios.fields n) then some .recordInvalid
  else if (scenGroups (t.scenarios.fields n)).any fun g => decide (t.groups.count ≤ g) then some .badGroup
  else none

/-- R104: the record number of a zone and class. -/
def recordNumber (t : TableStore) (z c : Nat) : Nat := dirBase t z + variantOf (dirVariants t z) c

/-- R105: the first check a lookup fails, or none. -/
def lookupFailure (t : TableStore) (z c : Nat) : Option FallbackCause :=
  if !t.scenarioValid then some .setNotValid
  else if t.directory.count ≤ z then some .noEntry
  else checkRecord t (recordNumber t z c)

/-- The live values of a scenario record (R102), not locked. -/
def recordLive (t : TableStore) (n : Nat) (under : Option (Nat × Nat)) : Live :=
  let r := t.scenarios.fields n
  { scenario := .record n
    dir := some (scenDir r)
    vt := at16 r 1
    P := at16 r 3
    H := at16 r 5
    h := at8 r 7
    startDelay := at8 r 8
    groups := scenGroups r
    cause := none
    under := under
    locked := false
    lockTimer := none }

/-! ## Fallback (R106, R107) -/

/-- An element enters a list sorted by key, before equal keys. -/
def insertByKey (key : Nat → Int) (x : Nat) : List Nat → List Nat
  | [] => [x]
  | y :: ys => if key x ≤ key y then x :: y :: ys else y :: insertByKey key x ys

/-- A list sorted by increasing key, equal keys in the list's order. -/
def sortByKey (key : Nat → Int) (l : List Nat) : List Nat := l.foldr (insertByKey key) []

/-- R107: upstream groups nearest first, then downstream groups farthest first. Both are increasing order of -d. -/
def fallbackGroups (t : TableStore) (d : Dir) (x : Nat) : List Nat :=
  let w := fun g => downstream d x (groupChainage t g)
  let all := List.range t.groups.count
  sortByKey (fun g => -w g) (all.filter fun g => decide (w g < 0)) ++
    sortByKey (fun g => -w g) (all.filter fun g => decide (0 ≤ w g))

/-- R106: the direction of the fallback scenario. -/
def fallbackDir (s : State) : Dir :=
  match (headTrain s).bind (trainById s.trains) with
  | some r => r.dir
  | none => s.params.defaultDir

/-- R106: the fallback scenario in a direction, not locked. -/
def fallbackLive (s : State) (d : Dir) (cause : Option FallbackCause) (under : Option (Nat × Nat)) : Live where
  scenario := .fallback
  dir := some d
  vt := s.params.fallbackVt
  P := s.params.fallbackP
  H := s.params.fallbackH
  h := s.params.fallbackh
  startDelay := 0
  groups := fallbackGroups s.tables d (headChainage s)
  cause := cause
  under := under
  locked := false
  lockTimer := none

/-- R104: the scenario a lookup for the head finds. -/
def lookedUp (s : State) : Live :=
  let z := zoneNow s
  let c := classNow s
  match lookupFailure s.tables z c with
  | none => recordLive s.tables (recordNumber s.tables z c) (some (z, c))
  | some e => fallbackLive s (fallbackDir s) (some e) (some (z, c))

/-- R109: scenario none. -/
def noScenario : Live where
  scenario := .none
  dir := none
  vt := 0
  P := 0
  H := 0
  h := 0
  startDelay := 0
  groups := []
  cause := none
  under := none
  locked := false
  lockTimer := none

/-- The direction lock of a live scenario is set from outside it. -/
def Live.withLock (l : Live) (locked : Bool) (timer : Option Nat) : Live :=
  { l with locked := locked, lockTimer := timer }

/-! ## Notices -/

/-- The direction code of a live scenario; 0 on scenario none. -/
def liveDirCode (l : Live) : Nat :=
  match l.dir with
  | none => 0
  | some d => dirCode d

/-- 0x0E SCENARIO. -/
def scenarioNotice (l : Live) (s : State) : State :=
  headNotice 0x0E ([byte (scenarioCode l.scenario), byte (liveDirCode l)] ++ be16 l.vt) s

/-- 0x0D DIRECTION LOCKED for an incident number. -/
def lockedNotice (number dirCode : Nat) (s : State) : State := notice 0x0D number [byte dirCode] s

/-- A notice that is offered only under a condition. -/
def when (b : Bool) (f : State → State) (s : State) : State := if b then f s else s

/-! ## Re-lookup before the lock (R113, R114) -/

/-- R113: events may bring a re-lookup: a head on a scenario, not locked, with the geometry set VALID (R109). -/
def mayRelookup (s : State) : Bool :=
  match s.live with
  | none => false
  | some l => !l.locked && decide (l.scenario ≠ .none) && geometryValid s

/-- R114: a re-lookup of the head, its outcome compared with the live scenario. -/
def relookup (s : State) : State :=
  match s.live with
  | none => s
  | some l =>
    let n := lookedUp s
    if n.scenario = l.scenario then
      match l.scenario, l.dir with
      | .fallback, some d =>
        let groups := fallbackGroups s.tables d (headChainage s)
        let t := s.setLive (some { l with cause := n.cause, under := n.under, groups := groups })
        if groups = l.groups then t else freshRevision t
      | _, _ => s.setLive (some { l with under := n.under })
    else
      let m := n.withLock l.locked l.lockTimer
      freshRevision (computeOpenLoop (scenarioNotice m (s.setLive (some m))))

/-- The class around the head differs from the chosen-under class (R113). -/
def classMoved (s : State) : Bool :=
  match s.live with
  | none => false
  | some l =>
    (match l.under with
     | none => false
     | some u => decide (u.2 ≠ classNow s))

/-- The zone of the head's fire chainage differs from the chosen-under zone (R113). -/
def zoneMoved (s : State) : Bool :=
  match s.live with
  | none => false
  | some l =>
    (match l.under with
     | none => false
     | some u => decide (u.1 ≠ zoneNow s))

/-- R65, R113: a table-change indication, or a train id taken by the head. -/
def tableChanged (s : State) : State := if mayRelookup s && classMoved s then relookup s else s

/-- R107, R116: the fallback list follows the head's fire chainage, locked or not. -/
def rebuildFallback (s : State) : State :=
  match s.live with
  | none => s
  | some l =>
    match l.scenario, l.dir with
    | .fallback, some d =>
      let groups := fallbackGroups s.tables d (headChainage s)
      if groups = l.groups then s else freshRevision (s.setLive (some { l with groups := groups }))
    | _, _ => s

/-- R88, R113, R116, R130: the head's fire chainage has changed: the zone and class test, the fallback list, then the
walk under hysteresis (DESIGN CHOICE, log 40: R116 names the recompute ahead of the list, R88 Scenario Lookup first). -/
def chainageChanged (s : State) : State :=
  hysteresisRevision
    (rebuildFallback (if mayRelookup s && (zoneMoved s || classMoved s) then relookup s else s))

/-- R113: the scenario set became VALID. -/
def scenarioSetValid (s : State) : State := if mayRelookup s then relookup s else s

/-! ## Activation of a head (R87, R108, R109, R111, R115) -/

/-- A plan takes effect: its walk's wanted states are handed over, and the Fan Sequencer comes into command or, on
scenario none, is not in command (R128, R146). -/
def carryOut (s : State) : State :=
  if planHeld s then comeIntoCommand (handWanted (freshWalk s)) else handWanted (freshWalk (leaveCommand s))

/-- R109: the lookup of a head on scenario none once the geometry set is VALID; the lock timer is not restarted. -/
def lateLookup (locked : Bool) (timer : Option Nat) (s : State) : State :=
  let l := (lookedUp s).withLock locked timer
  when locked (lockedNotice (headNumber s) (liveDirCode l)) (scenarioNotice l (s.setLive (some l)))

/-- R108, R109, R110, R111: the fresh lookup of a first activation. The lock timer starts. -/
def freshScenario (s : State) : State :=
  let locked := decide (s.params.lockTime = 0)
  let timer := secondsTimer s.params.lockTime
  if geometryValid s then
    let l := (lookedUp s).withLock locked timer
    when locked (lockedNotice (headNumber s) (liveDirCode l))
      (when (decide (l.scenario = .fallback)) (scenarioNotice l) (s.setLive (some l)))
  else s.setLive (some (noScenario.withLock locked timer))

/-- R115: the scenario of a saved plan that is read again without a re-lookup. -/
def rereadLive (p : SavedPlan) (s : State) : Live :=
  match p.scenario with
  | .none => noScenario
  | .fallback => fallbackLive s (p.dir.getD s.params.defaultDir) p.cause p.under
  | .record n =>
    match checkRecord s.tables n with
    | none => { recordLive s.tables n p.under with dir := p.dir }
    | some e => fallbackLive s (p.dir.getD s.params.defaultDir) (some e) p.under

/-- R115: the scenario of a restored plan; the answer says whether D is computed anew (R87). -/
def restoreScenario (p : SavedPlan) (s : State) : State × Bool :=
  match p.scenario with
  | .none =>
    if geometryValid s then (lateLookup p.locked p.lockTimer s, true)
    else (s.setLive (some (noScenario.withLock p.locked p.lockTimer)), false)
  | _ =>
    if p.locked || !geometryValid s then
      (s.setLive (some ((rereadLive p s).withLock p.locked p.lockTimer)), false)
    else
      let n := lookedUp s
      if n.scenario = p.scenario then
        let l := match p.scenario with
          | .fallback => fallbackLive s (p.dir.getD s.params.defaultDir) n.cause n.under
          | _ => { n with dir := p.dir }
        (s.setLive (some (l.withLock p.locked p.lockTimer)), false)
      else
        let l := n.withLock p.locked p.lockTimer
        (scenarioNotice l (s.setLive (some l)), true)

/-- The phase timer is set. -/
def setPhaseTimer (x : Option Nat) (s : State) : State := s.setIncidents { s.incidents with phaseTimer := x }

/-- The start delay of the live scenario. -/
def liveStartDelay (s : State) : Nat :=
  match s.live with
  | none => 0
  | some l => l.startDelay

/-- R89, R90: the head enters a phase with its PHASE notice; entering STAGING brings the phase test. -/
def announcePhase (p : Phase) (s : State) : State :=
  let t := phaseNotice p s
  startTests (match p with | .staging => phaseTest t | _ => t)

/-- R87, R89: a head without a saved plan is activated. Its wanted states are taken, with the commands they bring, ahead
of the PHASE notice (DESIGN CHOICE, log 16). -/
def activateFresh (s : State) : State :=
  let t := freshScenario (s.setPlan { s.plan with demand := 0, saturated := false })
  let u := if planHeld t then computeOpenLoop t else t
  let p : Phase := if liveStartDelay u = 0 then .staging else .delay
  let v := setPhaseTimer (secondsTimer (liveStartDelay u)) (setPhase p u)
  announcePhase p (carryOut v)

/-- R87, R115, R137: a head with a saved plan is restored; its wanted states are taken ahead of the PHASE notice (DESIGN
CHOICE, log 16). -/
def activateSaved (p : SavedPlan) (s : State) : State :=
  let r := restoreScenario p (s.setPlan { s.plan with demand := p.demand, saturated := p.saturated })
  let u := if r.2 then computeOpenLoop r.1 else r.1
  announcePhase .staging (carryOut (setPhase .staging u))

/-- R87: a new head is activated. -/
def activate (saved : Option SavedPlan) (s : State) : State :=
  match saved with
  | none => activateFresh s
  | some p => activateSaved p s

/-- R109, R122, R130: the geometry set became VALID with a head on scenario none. The wanted states are handed over and the
takeover of R146 made ahead of the phase test of the rebuilt selection (DESIGN CHOICE, log 48: R109, R128 and R146 give no
order). -/
def geometryLookup (s : State) : State :=
  match s.live with
  | none => s
  | some l =>
    if l.scenario = .none && geometryValid s then
      startTests (phaseTest (carryOut (computeOpenLoop (lateLookup l.locked l.lockTimer s))))
    else s

/-- R86, R103, R136: the plan a suspended head's record keeps. -/
def savedPlanOf (s : State) : Option SavedPlan :=
  s.live.map fun l =>
    { scenario := l.scenario
      dir := l.dir
      cause := l.cause
      under := l.under
      locked := l.locked
      lockTimer := l.lockTimer
      demand := s.plan.demand
      saturated := s.plan.saturated }

/-! ## Direction lock (R110) -/

/-- The lock timer of the head with this number, or of the suspended incident's saved plan, is at its end. -/
def lockDue (n : Nat) (s : State) : Bool :=
  match s.incidents.list.find? fun i => decide (i.number = n) with
  | none => false
  | some i =>
    match i.state, s.live, i.saved with
    | .head, some l, _ => decide (l.lockTimer = some 0)
    | .suspended, _, some p => decide (p.lockTimer = some 0)
    | _, _, _ => false

/-- R110: the lock of a saved plan is set. -/
def lockSaved (p : SavedPlan) : SavedPlan := { p with locked := true, lockTimer := none }

/-- R110: a lock timer expires. -/
def lockExpires (n : Nat) (s : State) : State :=
  match s.incidents.list.find? fun i => decide (i.number = n) with
  | none => s
  | some i =>
    match i.state, s.live, i.saved with
    | .head, some l, _ =>
      when (decide (l.scenario ≠ .none)) (lockedNotice n (liveDirCode l)) (s.setLive (some (l.withLock true none)))
    | .suspended, _, some p =>
      when (decide (p.scenario ≠ .none)) (lockedNotice n ((p.dir.map dirCode).getD 0))
        (s.setIncidents { s.incidents with
          list := s.incidents.list.map fun j =>
            if j.number = n then { j with saved := j.saved.map lockSaved } else j })
    | _, _, _ => s

/-! ## Trim (R132 to R135) -/

/-- R134 step 1: e = vt - v_m, clamped. -/
def trimError (vt : Nat) (vm : Int) : Int := clampInt (-500) 500 ((vt : Int) - vm)

/-- R134 step 3: the change of D, truncated toward zero. -/
def trimChange (G : Nat) (e : Int) : Int := ((G : Int) * e).tdiv 16

/-- R134: the trim. Within the dead band, with G = 0, and at D = 0 with e negative nothing changes. -/
def trim (vm : Int) (vt : Nat) (s : State) : State :=
  let e := trimError vt vm
  if e.natAbs ≤ s.params.deadBand || s.params.G = 0 || (s.plan.demand = 0 && e < 0) then s
  else
    let t := setDemand ((s.plan.demand : Int) + trimChange s.params.G e) s
    if t.plan.demand = s.plan.demand then t else hysteresisRevision t

/-- R133, R135: what an expiry of the trim timer does beside setting the timer again. -/
def trimStep (s : State) : State :=
  if s.port.inSilent then s
  else
    match s.live with
    | none => s
    | some l =>
      match l.scenario, l.dir with
      | .none, _ => s
      | _, none => s
      | _, some d =>
        match measuredVelocity s d with
        | none => s
        | some vm => trim vm l.vt s

/-! ## Meanings -/

/-- LOCK_TIMER_EXPIRY (R110, R112). -/
def execLockTimerExpiry (number : Nat) (s : State) : Host.Outcome State Fault Refusal :=
  finish (if lockDue number s then lockExpires number s else s)

/-- The trim timer is at its end. -/
def trimDue (s : State) : Bool := decide (s.plan.trim = some 0)

/-- TRIM_TIMER_EXPIRY (R132, R133): the timer is set again, whatever the expiry does. With a trim interval of 0, which
only a stored image can bring, it is due again at once (DESIGN CHOICE, log 44). -/
def execTrimTimerExpiry (s : State) : Host.Outcome State Fault Refusal :=
  finish (if trimDue s then trimStep (setTrim (some (s.params.trimInterval * 1000)) s) else s)

/-- The phase timer is at its end. -/
def phaseDue (s : State) : Bool := decide (s.incidents.phaseTimer = some 0)

/-- PHASE_TIMER_EXPIRY (R89): the head enters STAGING. -/
def execPhaseTimerExpiry (s : State) : Host.Outcome State Fault Refusal :=
  finish (if phaseDue s then announcePhase .staging (setPhase .staging (setPhaseTimer none s)) else s)

end Sys2Proof.Machine
end

