-- ==== Sys2Proof/Machine/Incidents.lean ====
section
/-!
DEFINITION. The Incident Manager (05_incidents.md): candidates, declarations, the incident list, head changes and clears;
and the meanings of its commands.
-/

namespace Sys2Proof.Machine

open Sys2Proof

/-- A detector event as the Sample Store or the Train Table hands it over (R46, R62). `station` is present for the events
of the Sample Store, `train` for TRAIN_FIRE. The Incident Manager places an event by its chainage and computes an
incident's zone from that (R71, R81). -/
structure Detection where
  kind : EventType
  chainage : Nat
  zone : Nat
  station : Option Nat
  train : Option Nat
  stopped : Bool
  deriving DecidableEq, Repr

/-! ## Nearest within the merge distance (R70) -/

/-- R70: two chainages lie within the merge distance. -/
def within (s : State) (x y : Nat) : Bool := decide (dist x y ≤ s.params.mergeDistance)

/-- The position of the first element whose distance is least among those that have one. -/
def nearestFrom : Nat → List (Option Nat) → Option (Nat × Nat)
  | _, [] => none
  | i, none :: ds => nearestFrom (i + 1) ds
  | i, some d :: ds =>
    match nearestFrom (i + 1) ds with
    | none => some (i, d)
    | some (j, e) => if d ≤ e then some (i, d) else some (j, e)

/-- The first position of the least distance. -/
def nearest (ds : List (Option Nat)) : Option Nat := (nearestFrom 0 ds).map Prod.fst

/-- The distance of a chainage, when within the merge distance. -/
def nearness (s : State) (x y : Nat) : Option Nat := if within s x y then some (dist x y) else none

/-- R71: the list position of the nearest incident within the merge distance, the earlier on a tie. -/
def nearestIncident (s : State) (x : Nat) : Option Nat :=
  nearest (s.incidents.list.map fun i => nearness s x i.chainage)

/-- R72: the slot of the nearest candidate within the merge distance, the lower on a tie. -/
def nearestCandidate (s : State) (x : Nat) : Option Nat :=
  nearest (s.incidents.candidates.map fun o =>
    match o with
    | none => none
    | some c => nearness s x c.chainage)

/-! ## Candidate notices (R95) -/

/-- The causes of CANDIDATE DISCARDED. -/
inductive DiscardCause where
  | tableFull
  | expired
  | absorbed
  | emptied
  deriving DecidableEq, Repr

/-- R95: cause codes. -/
def discardCode : DiscardCause → Nat
  | .tableFull => 0
  | .expired => 1
  | .absorbed => 2
  | .emptied => 3

/-- The candidate of a slot. -/
def candidateAt (s : State) (slot : Nat) : Option Candidate := (s.incidents.candidates.getD slot none)

/-- A slot of the candidate table is set. -/
def setCandidate (slot : Nat) (c : Option Candidate) (s : State) : State :=
  s.setIncidents { s.incidents with candidates := s.incidents.candidates.set slot c }

/-- 0x01 CANDIDATE OPENED. -/
def openedNotice (slot : Nat) (e : Detection) (s : State) : State :=
  notice 0x01 0 ([byte slot] ++ be16 e.chainage ++ [byte (eventCode e.kind)]) s

/-- 0x02 CANDIDATE CONFIRMED. -/
def confirmedNotice (slot : Nat) (c : Candidate) (s : State) : State :=
  notice 0x02 0 ([byte slot] ++ be16 c.chainage ++ [byte (sourceSetCode c.set), byte (flagCode c.stopped)]) s

/-- A candidate is removed with a CANDIDATE DISCARDED notice. -/
def discard (number : Nat) (cause : DiscardCause) (slot : Nat) (s : State) : State :=
  match candidateAt s slot with
  | none => s
  | some c =>
    notice 0x03 number ([byte slot] ++ be16 c.chainage ++ [byte (discardCode cause)]) (setCandidate slot none s)

/-- Every candidate of the slots is discarded where a test holds, in slot order. -/
def discardWhere (number : Nat) (cause : DiscardCause) (p : Candidate → Bool) : List Nat → State → State
  | [], s => s
  | slot :: rest, s =>
    let t := match candidateAt s slot with
      | none => s
      | some c => if p c then discard number cause slot s else s
    discardWhere number cause p rest t

/-- The slots of the candidate table. -/
def slots (s : State) : List Nat := List.range s.incidents.candidates.length

/-- R77, R93: every candidate is removed with cause EMPTIED, in slot order. -/
def emptyCandidates (s : State) : State := discardWhere 0 .emptied (fun _ => true) (slots s) s

/-- R80: the candidates within the merge distance of a fire chainage are absorbed by an incident, in slot order (DESIGN
CHOICE, log 16: R80 gives none). -/
def absorb (number chainage : Nat) (s : State) : State :=
  discardWhere number .absorbed (fun c => within s c.chainage chainage) (slots s) s

/-! ## Heads (R86, R87) -/

/-- The incident in state HEAD. -/
def headInState (l : List Incident) : Option Incident := l.find? fun i => decide (i.state = .head)

/-- The number of the incident in state HEAD, or 0. -/
def headInStateNumber (l : List Incident) : Nat :=
  match headInState l with
  | none => 0
  | some i => i.number

/-- R86: an incident after the head change: the first is HEAD, without a saved plan; the old head is SUSPENDED with the
live plan. -/
def headRoles (plan : Option SavedPlan) : List Incident → List Incident
  | [] => []
  | i :: rest =>
    { i with state := .head, saved := none } :: rest.map fun j =>
      match j.state with
      | .head => { j with state := .suspended, saved := plan, phase := none }
      | .suspended => j

/-- 0x0B HEAD CHANGED. -/
def headChangedNotice (new old : Nat) (s : State) : State := notice 0x0B new [byte old] s

/-- R86: the head changes; `old` is the number of the previous head. -/
def headChange (old : Nat) (s : State) : State :=
  match s.incidents.list with
  | [] => s
  | i :: _ =>
    let t := s.setIncidents { s.incidents with
      list := headRoles (savedPlanOf s) s.incidents.list
      phaseTimer := none }
    activate i.saved (headChangedNotice i.number old (setTrim none t))

/-- R86: the list's first incident is not the one in state HEAD. -/
def headDiffers (s : State) : Bool :=
  match s.incidents.list with
  | [] => false
  | i :: _ => decide (i.state ≠ .head)

/-- R86: a head change is taken where the first incident is not the one in state HEAD. -/
def settleHead (old : Nat) (s : State) : State := if headDiffers s then headChange old s else s

/-! ## Listing (R82, R83, R84) -/

/-- What a new incident is listed with (R75, R80). -/
structure Proposal where
  chainage : Nat
  source : ChSource
  severity : Nat
  origin : Origin
  train : Option Nat
  deriving DecidableEq, Repr

/-- R84: the first number from `n` on that no listed incident holds; `fuel` tests after the first. -/
def freeNumber (l : List Incident) : Nat → Nat → Nat
  | 0, n => n
  | fuel + 1, n => if l.any fun i => decide (i.number = n) then freeNumber l fuel (succNumber n) else n

/-- R82: an incident enters behind every incident of equal or higher severity. -/
def enterList (x : Incident) : List Incident → List Incident
  | [] => [x]
  | i :: rest => if x.severity ≤ i.severity then i :: enterList x rest else x :: i :: rest

/-- The position of an incident number in the list. -/
def positionOf (l : List Incident) (number : Nat) : Nat := l.findIdx fun i => decide (i.number = number)

/-- Train presence and train id as a notice carries them. -/
def trainFields : Option Nat → List Byte
  | none => byte 0 :: be16 0
  | some t => byte 1 :: be16 t

/-- 0x04 INCIDENT LISTED. -/
def listedNotice (i : Incident) (s : State) : State :=
  notice 0x04 i.number
    ([byte i.severity, byte (originCode i.origin)] ++ be16 i.chainage ++
      [byte (chSourceCode i.source), byte i.zone, byte (positionOf s.incidents.list i.number)] ++ trainFields i.train) s

/-- R82: a new incident is listed in a list with room. -/
def enterIncident (p : Proposal) (s : State) : State :=
  let first := !incidentListed s
  let number := freeNumber s.incidents.list Config.listCapacity s.incidents.nextNumber
  let i : Incident :=
    { number := number
      chainage := p.chainage
      source := p.source
      zone := zoneOf s.tables p.chainage
      severity := p.severity
      origin := p.origin
      train := p.train
      listedAt := s.clock
      serial := s.incidents.listings
      state := .suspended
      saved := none
      phase := none }
  let old := headInStateNumber s.incidents.list
  let t := s.setIncidents { s.incidents with
    list := enterList i s.incidents.list
    nextNumber := succNumber number
    listings := s.incidents.listings + 1 }
  let u := settleHead old (listedNotice i t)
  absorb number p.chainage (if first then listNotEmpty u else u)

/-- 0x06 INCIDENT DROPPED. -/
def droppedNotice (i : Incident) (s : State) : State :=
  notice 0x06 i.number ([byte i.severity] ++ be16 i.chainage) s

/-- 0x07 INCIDENT REFUSED. -/
def refusedNotice (p : Proposal) (s : State) : State :=
  notice 0x07 0 ([byte p.severity, byte (originCode p.origin)] ++ be16 p.chainage) s

/-- R82, R83: a new incident is offered to the list. -/
def listIncident (p : Proposal) (s : State) : State :=
  if s.incidents.list.length < Config.listCapacity then enterIncident p s
  else
    match s.incidents.list.getLast? with
    | none => s
    | some last =>
      if last.severity < p.severity then
        enterIncident p
          (droppedNotice last (s.setIncidents { s.incidents with list := s.incidents.list.dropLast }))
      else refusedNotice p s

/-! ## Re-sort (R85) -/

/-- R85: an incident comes ahead of another. -/
def goesBefore (x y : Incident) : Bool :=
  decide (y.severity < x.severity) ||
    (decide (x.severity = y.severity) &&
      (decide (x.listedAt < y.listedAt) || (decide (x.listedAt = y.listedAt) && decide (x.serial < y.serial))))

/-- An incident is placed before the first incident it comes ahead of. -/
def placeIncident (x : Incident) : List Incident → List Incident
  | [] => [x]
  | i :: rest => if goesBefore x i then x :: i :: rest else i :: placeIncident x rest

/-- R85: the incident with a number moves ahead; the others keep their order. -/
def resort (number : Nat) (l : List Incident) : List Incident :=
  match l.find? fun i => decide (i.number = number) with
  | none => l
  | some x => placeIncident x (l.filter fun i => decide (i.number ≠ number))

/-! ## Merges and corroborations (R71, R75, R79, R88) -/

/-- The causes of INCIDENT MERGED. -/
inductive MergeCause where
  | event
  | candidate
  | declaration
  deriving DecidableEq, Repr

/-- R95: cause codes. -/
def mergeCode : MergeCause → Nat
  | .event => 0
  | .candidate => 1
  | .declaration => 2

/-- 0x05 INCIDENT MERGED, carrying the incident as it stands. -/
def mergedNotice (cause : MergeCause) (i : Incident) (s : State) : State :=
  notice 0x05 i.number
    ([byte (mergeCode cause), byte i.severity] ++ be16 i.chainage ++
      [byte (chSourceCode i.source), byte i.zone, byte (positionOf s.incidents.list i.number)]) s

/-- R88: what a change to the head's record is handed on as; the fire chainage comes ahead of the train id, which the
record already holds (DESIGN CHOICE, log 40: R88 gives no order). -/
def handOn (old new : Incident) (s : State) : State :=
  if old.state = .head then
    let t := if old.chainage = new.chainage then s else chainageChanged s
    if old.train = new.train then t else tableChanged t
  else s

/-- An incident's record changes from `old` to `new`: the list is re-sorted where the severity rose, INCIDENT MERGED is
offered, and the head change or what the head hands on follows. -/
def mergeRecord (cause : MergeCause) (old new : Incident) (s : State) : State :=
  let l := s.incidents.list.map fun i => if i.number = old.number then new else i
  let t := s.setIncidents { s.incidents with list := if old.severity < new.severity then resort new.number l else l }
  handOn old new (settleHead (headInStateNumber l) (mergedNotice cause new t))

/-- A fire chainage is replaced, with its zone. -/
def Incident.moved (t : TableStore) (x : Nat) (source : ChSource) (i : Incident) : Incident :=
  { i with chainage := x, source := source, zone := zoneOf t x }

/-- R71: the record of an incident that an event corroborates. -/
def corroborated (t : TableStore) (e : Detection) (i : Incident) : Incident :=
  let a := if rank i.source < rank e.kind.source then i.moved t e.chainage e.kind.source else i
  let b := if e.kind = .trainFire ∧ i.train = none then { a with train := e.train } else a
  if e.kind = .trainFire ∧ e.stopped = true ∧ i.origin = .auto ∧ i.severity < 3 then { b with severity := 3 } else b

/-- R71: an event corroborates an incident; one INCIDENT MERGED notice when at least one of its changes is made. -/
def corroborate (e : Detection) (i : Incident) (s : State) : State :=
  let n := corroborated s.tables e i
  if n = i then s else mergeRecord .event i n s

/-- R75: the record of an incident into which a candidate merges. -/
def mergedCandidate (t : TableStore) (p : Proposal) (i : Incident) : Incident :=
  let a := { i with severity := max i.severity p.severity }
  let b := if rank i.source < rank p.source then a.moved t p.chainage p.source else a
  match i.train with
  | none => { b with train := p.train }
  | some _ => b

/-- The incident at a list position. -/
def incidentAt (s : State) (k : Nat) : Option Incident := s.incidents.list[k]?

/-! ## Candidates (R72 to R75) -/

/-- R75: what a candidate is promoted with. -/
def proposalOf (c : Candidate) : Proposal where
  chainage := c.chainage
  source := c.source
  severity := if c.set.trainFire && c.stopped then 3 else 2
  origin := .auto
  train := c.train

/-- R75: a candidate is promoted: it leaves the table, and merges or is listed. -/
def promote (slot : Nat) (c : Candidate) (s : State) : State :=
  let t := setCandidate slot none s
  let p := proposalOf c
  match (nearestIncident t c.chainage).bind (incidentAt t) with
  | some i => mergeRecord .candidate i (mergedCandidate t.tables p i) t
  | none => listIncident p t

/-- R74: an OPEN candidate passes the confirmation test. -/
def confirms (c : Candidate) : Bool := decide (2 ≤ c.set.size) || (c.set.trainFire && c.stopped)

/-- R74, R75: after an event has opened or joined the candidate of a slot. -/
def testCandidate (slot : Nat) (s : State) : State :=
  match candidateAt s slot with
  | none => s
  | some c =>
    match c.confirmedAt, confirms c with
    | some _, _ => if s.params.autoConfirm then promote slot c s else s
    | none, false => s
    | none, true =>
      let d := { c with confirmedAt := some s.clock }
      let t := confirmedNotice slot d (setCandidate slot (some d) s)
      if s.params.autoConfirm then promote slot d t else t

/-- R72: a candidate after an event has joined it. -/
def joined (e : Detection) (c : Candidate) : Candidate :=
  let a := { c with set := c.set.insert e.kind }
  let b := if rank c.source < rank e.kind.source then { a with chainage := e.chainage, source := e.kind.source } else a
  match e.kind with
  | .trainFire => { b with train := e.train, stopped := c.stopped || e.stopped }
  | _ => b

/-- R73: the record of a new candidate. -/
def newCandidate (s : State) (e : Detection) : Candidate where
  chainage := e.chainage
  source := e.kind.source
  set := .single e.kind
  train := match e.kind with | .trainFire => e.train | _ => none
  stopped := match e.kind with | .trainFire => e.stopped | _ => false
  createdAt := s.clock
  deadline := s.clock + s.params.confirmWindow * 1000
  confirmedAt := none

/-- R73: the slot with the earliest created-at time, the lower on a tie. -/
def oldestCandidate (s : State) : Nat :=
  (nearest (s.incidents.candidates.map fun o => o.map Candidate.createdAt)).getD 0

/-- R73: the lowest-numbered FREE slot, if one is FREE. -/
def freeSlot (s : State) : Option Nat := s.incidents.candidates.findIdx? fun o => o.isNone

/-- R73: an event opens a candidate in a slot. -/
def openCandidate (slot : Nat) (e : Detection) (s : State) : State :=
  testCandidate slot (openedNotice slot e (setCandidate slot (some (newCandidate s e)) s))

/-- R71 to R75: the Incident Manager takes a detector event. -/
def takeEvent (e : Detection) (s : State) : State :=
  match (nearestIncident s e.chainage).bind (incidentAt s) with
  | some i => corroborate e i s
  | none =>
    match nearestCandidate s e.chainage with
    | some slot =>
      (match candidateAt s slot with
       | none => s
       | some c => testCandidate slot (setCandidate slot (some (joined e c)) s))
    | none =>
      match freeSlot s with
      | some slot => openCandidate slot e s
      | none =>
        let slot := oldestCandidate s
        openCandidate slot e (discard 0 .tableFull slot s)

/-! ## Declarations (R78 to R80) -/

/-- 0x08 DECLARE REJECTED: cause 0 NO POSITION, 1 BAD ZONE. -/
def rejectDeclare (cause sequence : Nat) (s : State) : State := notice 0x08 0 [byte cause, byte sequence] s

/-- R78 step d: the CONFIRMED candidate with the latest confirmed-at time, the lower slot on a tie. -/
def latestConfirmed : List (Option Candidate) → Option (Candidate × Nat)
  | [] => none
  | o :: rest =>
    match o, latestConfirmed rest with
    | none, best => best
    | some c, best =>
      match c.confirmedAt, best with
      | none, best => best
      | some t, none => some (c, t)
      | some t, some (d, u) => if u ≤ t then some (c, t) else some (d, u)

/-- R78 step 2: the declared position, with the chainage source and the train id a new incident would take from it. -/
def declaredPosition (d : Declaration) (s : State) : Option (Nat × ChSource × Option Nat) :=
  match d.chainage, d.zone, d.train.bind (trainFirePosition s), latestConfirmed s.incidents.candidates with
  | some x, _, _, _ => some (min x s.params.L, .centre, none)
  | none, some z, _, _ => some ((zoneStart s.tables z + zoneEnd s.tables z) / 2, .centre, none)
  | none, none, some p, _ => some (p, .train, none)
  | none, none, none, some (c, _) => some (c.chainage, c.source, c.train)
  | none, none, none, none => none

/-- R78 step 4: the severity of a declaration. -/
def declaredSeverity (n : Nat) : Nat := if n = 0 then 1 else min n 3

/-- R79: the record of an incident into which a declaration merges. -/
def mergedDeclaration (t : TableStore) (d : Declaration) (x : Nat) (i : Incident) : Incident :=
  let a := { i with severity := max i.severity (declaredSeverity d.severity) }
  let b := match d.chainage with
    | none => a
    | some _ => a.moved t x .centre
  match i.train with
  | none => { b with train := d.train }
  | some _ => b

/-- R78: the Incident Manager takes a declaration. -/
def declare (sequence : Nat) (d : Declaration) (s : State) : State :=
  let badZone := match d.zone with
    | none => false
    | some z => decide (s.tables.zones.count ≤ z)
  if badZone then rejectDeclare 1 sequence s
  else
    match declaredPosition d s with
    | none => rejectDeclare 0 sequence s
    | some (x, source, train) =>
      match (nearestIncident s x).bind (incidentAt s) with
      | some i =>
        let n := mergedDeclaration s.tables d x i
        absorb i.number n.chainage (mergeRecord .declaration i n s)
      | none => listIncident ⟨x, source, declaredSeverity d.severity, .centre, d.train.or train⟩ s

/-! ## Clears and the emptied list (R91 to R93, R138) -/

/-- R138: the plan is dropped, and every fan is wanted STOP. -/
def dropPlan (s : State) : State :=
  let t := (s.setPlan .empty).setLive none
  t.setFans { t.fans with recs := t.fans.recs.map fun r => { r with wanted := .stop } }

/-- R92: the list has become empty; `last` is the number of the last head. -/
def listEmptied (last : Nat) (s : State) : State :=
  let t := headChangedNotice 0 last (setPhaseTimer none s)
  listEmpty (clearMarks (leaveCommand (dropPlan t)))

/-- 0x0A INCIDENT CLEARED. -/
def clearedNotice (number left : Nat) (s : State) : State := notice 0x0A number [byte left] s

/-- 0x09 CLEAR REJECTED. -/
def clearRejected (number : Nat) (s : State) : State := notice 0x09 0 [byte number] s

/-- R91, R93: every listed incident is removed in list order, each with its INCIDENT CLEARED notice. -/
def removeAll : Nat → State → State
  | 0, s => s
  | n + 1, s =>
    match s.incidents.list with
    | [] => s
    | i :: rest =>
      removeAll n (clearedNotice i.number rest.length (s.setIncidents { s.incidents with list := rest }))

/-- The list is emptied as one event (R91, R93), followed by R92. -/
def clearAll (s : State) : State := listEmptied (headNumber s) (removeAll s.incidents.list.length s)

/-- R91: one listed incident is removed. -/
def clearOne (number : Nat) (s : State) : State :=
  let old := headNumber s
  let rest := s.incidents.list.filter fun i => decide (i.number ≠ number)
  let t := clearedNotice number rest.length (s.setIncidents { s.incidents with list := rest })
  if rest.isEmpty then listEmptied old t else settleHead old t

/-- R91: the Incident Manager takes a clear. -/
def clearIncident (number : Nat) (s : State) : State :=
  if number = 0 then (if incidentListed s then clearAll s else clearRejected 0 s)
  else if s.incidents.list.any fun i => decide (i.number = number) then clearOne number s
  else clearRejected number s

/-- R93: the incident list and the candidate table are emptied at the end of dry run. -/
def emptyIncidents (s : State) : State :=
  let last := headNumber s
  let t := emptyCandidates (removeAll s.incidents.list.length s)
  if incidentListed s then listEmptied last t else t

/-! ## Meanings -/

/-- INCIDENT_DECLARE (R78). -/
def execIncidentDeclare (sequence : Nat) (declaration : Declaration) (s : State) :
    Host.Outcome State Fault Refusal :=
  let t := took (.incidentDeclare sequence declaration) s
  finish (if inService t then declare sequence declaration t else t)

/-- INCIDENT_CLEAR (R91). -/
def execIncidentClear (number : Nat) (s : State) : Host.Outcome State Fault Refusal :=
  let t := took (.incidentClear number) s
  finish (if inService t then clearIncident number t else t)

/-- R76: the time base has reached the deadline of a slot's candidate. -/
def deadlineDue (slot : Nat) (s : State) : Bool :=
  match candidateAt s slot with
  | none => false
  | some c => decide (c.deadline ≤ s.clock)

/-- CANDIDATE_DEADLINE (R76). -/
def execCandidateDeadline (slot : Nat) (s : State) : Host.Outcome State Fault Refusal :=
  finish (if deadlineDue slot s then discard 0 .expired slot s else s)

end Sys2Proof.Machine
end

