-- ==== Sys2Proof/Machine/Samples.lean ====
section
/-!
DEFINITION. The Sample Store (03_field_samples_and_fire_location.md): taking a sample, thresholds, heat lines, the
clearing of records; and the meanings of its commands.
-/

namespace Sys2Proof.Machine

open Sys2Proof

/-- A station record is replaced. -/
def setStation (i : Nat) (r : StationRecord) (s : State) : State := s.setSamples (s.samples.set i r)

/-- R46: an event, if one is raised, is handed to the Incident Manager. -/
def raise (e : Option Detection) (s : State) : State :=
  match e with
  | none => s
  | some e => takeEvent e s

/-- R38 steps 1 to 3: a value clamped into a range, as the record it makes PRESENT. -/
def clampedSample (lo hi x : Int) (q : Quality) (now : Nat) : Sample where
  value := some (clampInt lo hi x)
  quality := q
  overRange := decide (clampInt lo hi x ≠ x)
  takenAt := now
  line := none
  alarm := none

/-! ## Thresholds (R41, R42) -/

/-- R41, R42: the threshold state after a sample of value `x`, for a threshold and a re-arm level, and whether an event is
raised. -/
def thresholdTest (level rearm x : Int) (q : Quality) (st : Threshold) : Threshold × Bool :=
  match q, st with
  | .suspect, _ => (st, false)
  | .good, .armed => if level ≤ x then (.tripped, true) else (.armed, false)
  | .good, .tripped => if x < rearm then (.armed, false) else (.tripped, false)

/-- R41: the re-arm level of the opacity threshold. -/
def opacityRearm (T : Nat) : Nat := T - T * 10 / 100

/-- An event at the station's own chainage, when one is raised (R46). -/
def stationEvent (s : State) (i : Nat) (kind : EventType) (raised : Bool) : Option Detection :=
  if raised then
    some
      { kind := kind
        chainage := stationChainage s.tables i
        zone := stationZone s.tables i
        station := some i
        train := none
        stopped := false }
  else none

/-- R38 step 4: a sample of a station with a threshold is taken. -/
def takeThreshold (kind : EventType) (i : Nat) (x : Sample) (level rearm : Int) (injected : Bool) (s : State) : State :=
  let r := stationRec s i
  let p := thresholdTest level rearm (x.value.getD 0) x.quality r.threshold
  raise (stationEvent s i kind p.2)
    (setStation i { r with sample := some x, threshold := p.1, injected := injected } s)

/-! ## Taking a sample (R38, R39) -/

/-- A velocity sample is taken. -/
def takeVelocity (i : Nat) (v : Int) (q : Quality) (injected : Bool) (s : State) : State :=
  setStation i
    { stationRec s i with sample := some (clampedSample (-2000) 2000 v q s.clock), injected := injected } s

/-- An opacity sample is taken. -/
def takeOpacity (i e : Nat) (q : Quality) (injected : Bool) (s : State) : State :=
  takeThreshold .opacity i (clampedSample 0 20000 e q s.clock) s.params.opacityThreshold
    (opacityRearm s.params.opacityThreshold) injected s

/-- A temperature sample is taken. -/
def takeTemperature (i : Nat) (x : Int) (q : Quality) (injected : Bool) (s : State) : State :=
  takeThreshold .temperature i (clampedSample (-40) 1200 x q s.clock) s.params.temperatureThreshold
    (s.params.temperatureThreshold - 5) injected s

/-! ## Heat lines (R43 to R45) -/

/-- R43: the alarm chainage of a clamped alarm distance, or of the cable's midpoint. -/
def alarmChainage (s : State) (i : Nat) (alarm : Option Nat) : Nat :=
  let d := match alarm with
    | some a => min a (stationCable s.tables i)
    | none => stationCable s.tables i / 2
  (clampInt 0 s.params.L ((stationChainage s.tables i : Int) + stationSign s.tables i * (d : Int))).toNat

/-- R37, R39: the record of a heat-line report. -/
def heatSample (s : State) (i : Nat) (line : LineState) (alarm : Option Nat) : Sample where
  value := match line with
    | .alarm => some (alarmChainage s i alarm)
    | _ => none
  quality := .good
  overRange := match line, alarm with
    | .alarm, some a => decide (stationCable s.tables i < a)
    | _, _ => false
  takenAt := s.clock
  line := some line
  alarm := alarm.map fun a => min a (stationCable s.tables i)

/-- R44: an alarm chainage differs enough from the last event chainage. -/
def heatMoved (last : Option Nat) (x : Nat) : Bool :=
  match last with
  | none => true
  | some p => decide (Config.heatLineMove ≤ dist x p)

/-- R44, R45: fault lock and last event chainage after a report, and the chainage of the event raised. -/
def heatTest (line : LineState) (x : Nat) (r : StationRecord) : StationRecord × Option Nat :=
  match line with
  | .fault => ({ r with faultLock := true }, none)
  | .normal => ({ r with faultLock := false, lastEvent := none }, none)
  | .alarm =>
    if !r.faultLock && heatMoved r.lastEvent x then ({ r with lastEvent := some x }, some x) else (r, none)

/-- R46: the HEAT_LINE event of an alarm chainage. -/
def heatEvent (s : State) (i x : Nat) : Detection where
  kind := .heatLine
  chainage := x
  zone := zoneOf s.tables x
  station := some i
  train := none
  stopped := false

/-- R38 step 5: a heat-line report is taken. -/
def takeHeatLine (i : Nat) (line : LineState) (alarm : Option Nat) (injected : Bool) (s : State) : State :=
  let p := heatTest line (alarmChainage s i alarm) (stationRec s i)
  raise (p.2.map (heatEvent s i))
    (setStation i { p.1 with sample := some (heatSample s i line alarm), injected := injected } s)

/-! ## Table loads and the end of dry run (R50, R53) -/

/-- R50: every record becomes ABSENT. -/
def clearSamples (s : State) : State := s.setSamples (s.samples.map fun _ => .absent)

/-- R53: the records whose injected mark is set become ABSENT. -/
def clearInjectedSamples (s : State) : State :=
  s.setSamples (s.samples.map fun r => if r.injected then .absent else r)

/-! ## Meanings -/

/-- R52: a sample from the ring is taken for the station: in use with the role, and without an injected mark. -/
def takesSample (s : State) (i : Nat) (role : Role) : Bool :=
  inService s && stationHasRole s.tables i role && !(stationRec s i).injected

/-- VELOCITY_SAMPLE (R38). -/
def execVelocitySample (station : Nat) (velocity : Int) (quality : Quality) (s : State) :
    Host.Outcome State Fault Refusal :=
  let t := took (.velocitySample station velocity quality) s
  finish (if takesSample t station .anemometer then takeVelocity station velocity quality false t else t)

/-- OPACITY_SAMPLE (R38, R41). -/
def execOpacitySample (station extinction : Nat) (quality : Quality) (s : State) :
    Host.Outcome State Fault Refusal :=
  let t := took (.opacitySample station extinction quality) s
  finish (if takesSample t station .opacity then takeOpacity station extinction quality false t else t)

/-- TEMPERATURE_SAMPLE (R38, R42). -/
def execTemperatureSample (station : Nat) (temperature : Int) (quality : Quality) (s : State) :
    Host.Outcome State Fault Refusal :=
  let t := took (.temperatureSample station temperature quality) s
  finish (if takesSample t station .temperature then takeTemperature station temperature quality false t else t)

/-- HEAT_LINE_REPORT (R38, R43 to R45). -/
def execHeatLineReport (station : Nat) (line : LineState) (alarm : Option Nat) (s : State) :
    Host.Outcome State Fault Refusal :=
  let t := took (.heatLineReport station line alarm) s
  finish (if takesSample t station .heatLine then takeHeatLine station line alarm false t else t)

end Sys2Proof.Machine
end

