-- ==== Sys2Proof/Machine/Trains.lean ====
section
/-!
DEFINITION. The Train Table (04_trains_in_the_bore.md): taking a report, expiry, the TRAIN_FIRE event, removals; and the
meanings of its commands.
-/

namespace Sys2Proof.Machine

open Sys2Proof

/-- A slot of the Train Table is set. -/
def setTrain (slot : Nat) (r : Option Train) (s : State) : State := s.setTrains (s.trains.set slot r)

/-- The train record of a slot. -/
def trainAt (s : State) (slot : Nat) : Option Train := s.trains.getD slot none

/-- The slot that holds a train id. -/
def slotOf (s : State) (id : Nat) : Option Nat :=
  s.trains.findIdx? fun o => match o with | some r => decide (r.id = id) | none => false

/-- R57: a departure report. -/
def isDeparture (L : Nat) (p : TrainReport) : Bool := p.leftBore || (decide (L < p.head) && decide (L < p.tail))

/-- R56: the record a report makes. -/
def trainOf (p : TrainReport) (now : Nat) (injected : Bool) : Train where
  id := p.id
  head := p.head
  tail := p.tail
  dir := p.dir
  speed := min p.speed 5000
  stopped := p.stopped
  fire := p.fire
  offset := p.offset
  takenAt := now
  injected := injected

/-- R58 case 3: the slot with the earliest taken-at time, the lower on a tie. -/
def oldestTrain (s : State) : Nat := (nearest (s.trains.map fun o => o.map Train.takenAt)).getD 0

/-- R58: the slot a report is taken into, and whether it held the train before. -/
def slotFor (s : State) (id : Nat) : Nat × Bool :=
  match slotOf s id with
  | some k => (k, true)
  | none =>
    match s.trains.findIdx? fun o => o.isNone with
    | some k => (k, false)
    | none => (oldestTrain s, false)

/-- R61: a TRAIN_FIRE event is raised, from the fire and stopped flags before and after. -/
def fireRises (fire stopped : Bool) (r : Train) : Bool := r.fire && (!fire || (!stopped && r.stopped))

/-- R62: the TRAIN_FIRE event of a record. -/
def fireEvent (t : TableStore) (L : Nat) (r : Train) : Detection where
  kind := .trainFire
  chainage := firePosition L r
  zone := zoneOf t (firePosition L r)
  station := none
  train := some r.id
  stopped := r.stopped

/-- R58, R61: the event a report raises, when taken into a table. -/
def reportRaises (s : State) (p : TrainReport) : Bool :=
  let held := trainById s.trains p.id
  fireRises ((held.map Train.fire).getD false) ((held.map Train.stopped).getD false) (trainOf p s.clock false)

/-- R58, R61, R65: a report that is no departure is taken: the record, the event, the table-change indication. -/
def takeTrain (p : TrainReport) (injected : Bool) (s : State) : State :=
  let r := trainOf p s.clock injected
  let t := setTrain (slotFor s p.id).1 (some r) s
  tableChanged (if reportRaises s p then takeEvent (fireEvent s.tables s.params.L r) t else t)

/-- R57, R65: a departure report is taken. -/
def takeDeparture (id : Nat) (s : State) : State :=
  match slotOf s id with
  | none => s
  | some k => tableChanged (setTrain k none s)

/-- R56 to R58: a report is taken. -/
def takeTrainReport (p : TrainReport) (injected : Bool) (s : State) : State :=
  if isDeparture s.params.L p then takeDeparture p.id s else takeTrain p injected s

/-- Records are removed where a test holds, with a table-change indication if any is (R66, R67). -/
def removeTrains (drop : Train → Bool) (s : State) : State :=
  let ts := s.trains.map fun o => match o with
    | some r => if drop r then none else some r
    | none => none
  if ts = s.trains then s else tableChanged (s.setTrains ts)

/-- R67: L has changed: the records wholly outside the bore are removed. -/
def lengthChanged (before : Nat) (s : State) : State :=
  if s.params.L = before then s
  else removeTrains (fun r => decide (s.params.L < r.head) && decide (s.params.L < r.tail)) s

/-- R66: the records with the injected mark are removed at the end of dry run. -/
def removeInjectedTrains (s : State) : State := removeTrains Train.injected s

/-- R66: a ring report for a train whose record has the injected mark is not taken. -/
def trainBlocked (s : State) (id : Nat) : Bool :=
  match trainById s.trains id with
  | none => false
  | some r => r.injected

/-! ## Meanings -/

/-- TRAIN_REPORT (R56 to R58). -/
def execTrainReport (report : TrainReport) (s : State) : Host.Outcome State Fault Refusal :=
  let t := took (.trainReport report) s
  finish (if inService t && !trainBlocked t report.id then takeTrainReport report false t else t)

/-- R59: the record of a slot has reached the age at which it expires. -/
def expiryDue (slot : Nat) (s : State) : Bool :=
  match trainAt s slot with
  | none => false
  | some r => decide (r.takenAt + Config.trainExpiry ≤ s.clock)

/-- TRAIN_RECORD_EXPIRY (R59). -/
def execTrainRecordExpiry (slot : Nat) (s : State) : Host.Outcome State Fault Refusal :=
  finish (if expiryDue slot s then tableChanged (setTrain slot none s) else s)

end Sys2Proof.Machine
end

