-- ==== Sys2Proof/Machine/Store.lean ====
section
/-!
DEFINITION. The Table Store (10_tables_management_requests_and_stored_image.md): range tests of WRITE RECORD, checks of
CLOSE LOAD, the own address, the stored image, the start-up load and the store engine; and the meanings of its events.
-/

namespace Sys2Proof.Machine

open Sys2Proof

/-! ## Range tests of WRITE RECORD (R189, R194, R206) -/

/-- A number lies in a range. -/
def inRange (lo hi n : Nat) : Bool := decide (lo ≤ n) && decide (n ≤ hi)

/-- A flag, direction or sign byte carries 0 or 1 (R206). -/
def isFlag (n : Nat) : Bool := decide (n ≤ 1)

/-- R189: part 0 of the global parameter record. -/
def part0InRange (p : List Byte) : Bool :=
  inRange 0x0001 0x7FFF (at16 p 0) && inRange 1000 65535 (at16 p 2) && inRange 0 4095 (at16 p 4) &&
    inRange 0 100 (at8 p 7) && inRange 0 1000 (at16 p 8) && inRange 10 120 (at8 p 10) && inRange 1 8 (at8 p 11) &&
    inRange 0 30 (at8 p 12) && inRange 5 120 (at8 p 13) && inRange 0 120 (at8 p 14) && inRange 1 3 (at8 p 15) &&
    inRange 1 3 (at8 p 16) && inRange 1 6 (at8 p 17) && inRange 5 120 (at8 p 18) && inRange 1 119 (at8 p 19) &&
    isFlag (at8 p 20) && isFlag (at8 p 21)

/-- R189: part 1 of the global parameter record. -/
def part1InRange (p : List Byte) : Bool :=
  inRange 0 2000 (at16 p 0) && inRange 10 300 (at16 p 2) && isFlag (at8 p 4) && inRange 0 20000 (at16 p 5) &&
    decide (-40 ≤ atS16 p 7) && decide (atS16 p 7 ≤ 1200) && inRange 0 1000 (at16 p 9) &&
    inRange 0 600 (at16 p 11) && inRange 50 1000 (at16 p 13) && inRange 0 4000 (at16 p 15) &&
    inRange 0 2000 (at16 p 17) && inRange 10 100 (at8 p 19) && inRange 0x8000 0xFFFF (at16 p 20)

/-- R206: a station entry; bytes 4 to 10 are tested as far as the role uses them. -/
def stationInRange (p : List Byte) : Bool :=
  isFlag (at8 p 0) &&
    (match roleOfCode (at8 p 3) with
     | none => false
     | some .anemometer => inRange 0 31 (at8 p 6) && isFlag (at8 p 7) && isFlag (at8 p 8)
     | some .opacity => inRange 0 31 (at8 p 6)
     | some .temperature => inRange 0 31 (at8 p 6)
     | some .heatLine => isFlag (at8 p 7) && inRange 1 65535 (at16 p 9)
     | some .trainGateway => true
     | some .controlCentre => true
     | some .terminal => true)

/-- R206: a fan entry. -/
def fanInRange (p : List Byte) : Bool :=
  inRange 0 23 (at8 p 2) && isFlag (at8 p 3) && inRange 10 1000 (at16 p 4) && inRange 10 1000 (at16 p 6) &&
    isFlag (at8 p 8)

/-- R206: a scenario record. -/
def scenarioInRange (p : List Byte) : Bool :=
  decide (at8 p 0 < 4) && inRange 50 1000 (at16 p 1) && inRange 0 4000 (at16 p 3) && inRange 0 2000 (at16 p 5) &&
    inRange 10 100 (at8 p 7) && inRange 0 120 (at8 p 8) && decide (at8 p 9 ≠ 0xFF) &&
    (scenGroups p).all fun g => decide (g ≤ 23)

/-- R206: a scenario directory entry. -/
def directoryInRange (p : List Byte) : Bool :=
  inRange 0 127 (at8 p 0) && (at8 p 1 == 1 || at8 p 1 == 2 || at8 p 1 == 4)

/-- R194: each field of a record lies in its range. Zones and groups list no range (R206). -/
def recordInRange (id : TableId) (index : Nat) (p : List Byte) : Bool :=
  match id with
  | .global => if index = 0 then part0InRange p else part1InRange p
  | .zones => true
  | .stations => stationInRange p
  | .fans => fanInRange p
  | .groups => true
  | .hash => isFlag (at8 p 0)
  | .directory => directoryInRange p
  | .scenarios => scenarioInRange p

/-! ## Checks of CLOSE LOAD (R195 to R197) -/

/-- The index that names no record of the closed table (R195). -/
def noRecord : Nat := 0xFFFF

/-- What a set of checks finds: the records of the closed table that fail one, and whether a check fails that names no
record of it. -/
structure Findings where
  records : List Nat
  other : Bool
  deriving DecidableEq, Repr

/-- R195: the first bad record index, or none when every check passes. -/
def Findings.firstBad (f : Findings) : Option Nat :=
  match f.records.min? with
  | some i => some i
  | none => if f.other then some noRecord else none

/-- The records below the count that a check fails. -/
def failing (count : Nat) (bad : Nat → Bool) : List Nat := (List.range count).filter bad

/-- A record has not been written since the last OPEN LOAD. -/
def unwritten (t : Table) (i : Nat) : Bool := !t.written.getD i false

/-- A check made only while another table is VALID (R197). -/
def whileValid (t : Table) (b : Bool) : Bool := t.isValid && b

/-- R196: the roles whose chainage the checks read. -/
def hasChainage : Option Role → Bool
  | some .anemometer => true
  | some .opacity => true
  | some .temperature => true
  | some .heatLine => true
  | _ => false

/-- R196: the roles whose zone number the checks read. -/
def hasZone : Option Role → Bool
  | some .anemometer => true
  | some .opacity => true
  | some .temperature => true
  | _ => false

/-- A station entry is enabled. -/
def stationEnabled (t : TableStore) (i : Nat) : Bool := decide (at8 (t.stations.fields i) 0 = 1)

/-- R196: an enabled entry's chainage lies beyond L. -/
def chainageBeyond (t : TableStore) (L i : Nat) : Bool :=
  stationEnabled t i && hasChainage (stationRole t i) && decide (L < stationChainage t i)

/-- R196: an enabled entry's zone number lies at or above a zone count. -/
def zoneBeyond (t : TableStore) (count i : Nat) : Bool :=
  stationEnabled t i && hasZone (stationRole t i) && decide (count ≤ stationZone t i)

/-- R196: an enabled node address equals a drive address. -/
def sharesDrive (t : TableStore) (stations fans : Nat) (i f : Nat) : Bool :=
  decide (i < stations) && decide (f < fans) && stationEnabled t i && decide (stationAddr t i = fanAddr t f)

/-- R196: how many of the first `fans` fan entries have a group number. -/
def fansInGroup (t : TableStore) (fans g : Nat) : Nat :=
  (List.range fans).countP fun f => decide (fanGroup t f = g)

/-- R196: a group has not 1 to 3 fans. -/
def groupBadlyFilled (t : TableStore) (fans g : Nat) : Bool := !inRange 1 3 (fansInGroup t fans g)

/-- R196: a directory entry's last record lies at or above a count. -/
def directoryBeyond (t : TableStore) (count z : Nat) : Bool := decide (count < dirBase t z + dirVariants t z)

/-- R196: a list holds an element twice. -/
def repeats : List Nat → Bool
  | [] => false
  | x :: xs => xs.contains x || repeats xs

/-- R196: the global parameter table. Part 0 holds every field its checks read (log 15). -/
def checkGlobal (t : TableStore) : Findings :=
  let p := paramsOf t.global
  let bad := unwritten t.global 0 || decide (p.holdTime ≤ p.refresh) ||
    whileValid t.zones (decide (zoneEnd t (t.zones.count - 1) ≠ p.L)) ||
    whileValid t.stations ((List.range t.stations.count).any (chainageBeyond t p.L)) ||
    whileValid t.groups ((List.range t.groups.count).any fun g => decide (p.L < groupChainage t g))
  ⟨if bad then [0] else [], false⟩

/-- R196: the zone table. -/
def checkZones (t : TableStore) (count : Nat) : Findings :=
  let bad := fun z =>
    unwritten t.zones z || decide (z = 0 ∧ zoneStart t z ≠ 0) || decide (zoneEnd t z ≤ zoneStart t z) ||
      decide (0 < z ∧ zoneStart t z ≠ zoneEnd t (z - 1)) ||
      whileValid t.global (decide (z + 1 = count ∧ zoneEnd t z ≠ t.params.L))
  ⟨failing count bad, whileValid t.stations ((List.range t.stations.count).any (zoneBeyond t count))⟩

/-- R196: the station table. -/
def checkStations (t : TableStore) (count : Nat) : Findings :=
  let shared := fun i j =>
    decide (i ≠ j) && stationEnabled t i && stationEnabled t j && decide (stationAddr t i = stationAddr t j)
  let bad := fun i =>
    unwritten t.stations i || (List.range count).any (shared i) ||
      whileValid t.fans ((List.range t.fans.count).any fun f => sharesDrive t count t.fans.count i f) ||
      whileValid t.global (chainageBeyond t t.params.L i) ||
      whileValid t.zones (zoneBeyond t t.zones.count i)
  ⟨failing count bad, false⟩

/-- R196: the fan table. -/
def checkFans (t : TableStore) (count : Nat) : Findings :=
  let bad := fun f =>
    unwritten t.fans f || whileValid t.groups (decide (t.groups.count ≤ fanGroup t f)) ||
      whileValid t.stations ((List.range t.stations.count).any fun i => sharesDrive t t.stations.count count i f)
  ⟨failing count bad, whileValid t.groups ((List.range t.groups.count).any (groupBadlyFilled t count))⟩

/-- R196: the group table. -/
def checkGroups (t : TableStore) (count : Nat) : Findings :=
  let bad := fun g =>
    unwritten t.groups g || whileValid t.global (decide (t.params.L < groupChainage t g)) ||
      whileValid t.fans (groupBadlyFilled t t.fans.count g)
  ⟨failing count bad,
    whileValid t.fans ((List.range t.fans.count).any fun f => decide (count ≤ fanGroup t f))⟩

/-- R196: the scenario records, once the groups are VALID. -/
def checkScenarios (t : TableStore) (count : Nat) : Findings :=
  let bad := fun n =>
    let g := scenGroups (t.scenarios.fields n)
    unwritten t.scenarios n || repeats g || g.any fun x => decide (t.groups.count ≤ x)
  ⟨failing count bad,
    whileValid t.directory ((List.range t.directory.count).any (directoryBeyond t count))⟩

/-- R196: the scenario directory, once the scenario records are VALID. -/
def checkDirectory (t : TableStore) (count : Nat) : Findings :=
  ⟨failing count fun z => unwritten t.directory z || directoryBeyond t t.scenarios.count z, false⟩

/-- R196, R197: the checks on a table closed with a count; the first bad record index, or none on a pass. -/
def closeCheck (t : TableStore) (id : TableId) (count : Nat) : Option Nat :=
  let counted := fun (f : Findings) => if inRange 1 id.capacity count then f.firstBad else some noRecord
  match id with
  | .global => (checkGlobal t).firstBad
  | .zones => counted (checkZones t count)
  | .stations => counted (checkStations t count)
  | .fans => counted (checkFans t count)
  | .groups => counted (checkGroups t count)
  | .hash => none
  | .directory => if t.scenarios.isValid then counted (checkDirectory t count) else some noRecord
  | .scenarios => if t.groups.isValid then counted (checkScenarios t count) else some noRecord

/-- R195: the loaded record count of a table that closes with a count. -/
def loadedCount (id : TableId) (count : Nat) : Nat :=
  match id with
  | .global => 1
  | .hash => 64
  | _ => count

/-- R190: the parameters in force follow the global parameter record while it is VALID. -/
def refreshParams (t : TableStore) : TableStore := if t.global.isValid then { t with params := paramsOf t.global } else t

/-- R195: a table takes the outcome of its checks; the answer is the first bad record index, none on a pass. -/
def closeTable (id : TableId) (count : Nat) (t : TableStore) : TableStore × Option Nat :=
  match closeCheck t id count with
  | none => (refreshParams (t.set id { t.get id with validity := .valid, count := loadedCount id count }), none)
  | some i => (t.set id { t.get id with validity := .invalid, count := 0 }, some i)

/-! ## Own address (R6, R7) -/

/-- R7: the own address that the tables give. -/
def ownAddrNow (s : State) : Nat :=
  if decide (s.auth.state ≠ .starting) && s.tables.global.isValid then s.params.ownAddr
  else strappedAddr s.chip.strap

/-- R6, R7: the own address takes the value the tables give; a change enters the earlier address in the strip set. -/
def updateOwnAddr (s : State) : State :=
  if ownAddrNow s = s.port.ownAddr then s
  else s.setPort { s.port with ownAddr := ownAddrNow s, earlier := some (s.port.ownAddr, Config.stripTime) }

/-! ## Stored image (R202) -/

/-- The tables in the order of the image. -/
def tableOrder : List TableId := [.global, .zones, .stations, .fans, .groups, .hash, .directory, .scenarios]

/-- The state byte and count byte of a table in the image. -/
def imageHead (t : TableStore) (id : TableId) : List Byte :=
  [byte (validityCode (t.get id).validity), byte (loadedCount id (t.get id).count)]

/-- One table in the image. -/
def tableImage (t : TableStore) (id : TableId) : List Byte := imageHead t id ++ (t.get id).recs.flatten

/-- Addresses 1 to 4,700. -/
def imageBody (t : TableStore) : List Byte := tableOrder.flatMap (tableImage t)

/-- The signature of a complete image. -/
def signature : Byte := 0x5C

/-- The CRC-16 of an image body, with address 0 taken as the signature. -/
def imageCrc (body : List Byte) : Nat := crc16 (signature :: body)

/-- Addresses 0 to 4,702 as the pages are written: address 0 carries 0x00. -/
def imageBytes (t : TableStore) : List Byte := 0 :: (imageBody t ++ be16 (imageCrc (imageBody t)))

/-- Bytes of one page. -/
def pageSize : Nat := 64

/-- The last page of the image. -/
def lastPage : Nat := 73

/-- The bytes of a page of the image. -/
def pageBytes (t : TableStore) (n : Nat) : List Byte := ((imageBytes t).drop (pageSize * n)).take pageSize

/-! ## Configuration memory port (R212) -/

/-- The transfers of a write. -/
def writeTransfers (a : Nat) (bs : List Byte) : List Transfer := [⟨[0x06], []⟩, ⟨0x02 :: (be16 a ++ bs), []⟩]

/-- The transfer of a read, with the bytes it reads. -/
def readTransfer (a : Nat) (bs : List Byte) : Transfer := ⟨0x03 :: be16 a, bs⟩

/-- The transfer of a ready status, with the byte it reads. -/
def statusTransfer (b : Byte) : Transfer := ⟨[0x05], [b]⟩

/-- The status byte the port reads: bit 0 is set while the device is busy and the other bits are the device's own (log 34);
a device that does not answer reads 0xFF, which shows busy. -/
def readStatus (e : Eeprom) (busy : Bool) (draw : Nat) : Byte :=
  if e.answers then (if busy then Config.statusByte draw ||| 0x01 else Config.statusByte draw &&& 0xFE) else blankByte

/-- The port's state is set. -/
def setConfigPort (p : ConfigPort) (s : State) : State := s.setTables { s.tables with port := p }

/-! ## Start-up load (R203) -/

/-- One byte as the start-up load reads it: 0xFF from a device that does not answer. -/
def loadByte (e : Eeprom) (a : Nat) : Byte := if e.answers then memRead e.cells a else blankByte

/-- Addresses 1 to 4,702, the second read of the start-up load (R203 step 2). -/
def loadRest (e : Eeprom) : List Byte := (List.range Config.imageLast).map fun i => loadByte e (i + 1)

/-- A run of bytes cut into records of a size. -/
def cutRecords (size : Nat) : Nat → List Byte → List (List Byte)
  | 0, _ => []
  | n + 1, bs => bs.take size :: cutRecords size n (bs.drop size)

/-- Where a table starts in the image body, counted from the tables ahead of it. -/
def bodyOffset (id : TableId) : Nat :=
  ((tableOrder.takeWhile fun j => decide (j ≠ id)).map fun j => 2 + j.capacity * j.recordSize).sum

/-- R203 step 3: a table as the image holds it, before it is closed: its records and its count, every record below the
count written. The one record of the global parameter table is its two parts (R202). A count beyond the capacity is taken
as it stands (DESIGN CHOICE, log 44). -/
def loadedTable (body : List Byte) (id : TableId) : Table :=
  let b := body.drop (bodyOffset id)
  let count := at8 b 1
  let below := match id with | .global => 2 * count | _ => count
  { validity := .invalid
    count := count
    recs := cutRecords id.recordSize id.capacity (b.drop 2)
    written := (List.range id.capacity).map fun i => decide (i < below) }

/-- The image holds a table as VALID, state byte 2 (R202); a byte other than 0 and 2 counts as stored INVALID (DESIGN
CHOICE, log 44). -/
def storedValid (body : List Byte) (id : TableId) : Bool := decide (at8 (body.drop (bodyOffset id)) 0 = 2)

/-- The stored record count of a table. -/
def storedCount (body : List Byte) (id : TableId) : Nat := at8 (body.drop (bodyOffset id)) 1

/-- R203: the order in which the tables stored VALID are closed. -/
def closingOrder : List TableId := [.global, .zones, .groups, .fans, .stations, .hash, .scenarios, .directory]

/-- The tables stored VALID are closed one after another; the first bad record index of each is collected. -/
def closeStored (body : List Byte) : List TableId → TableStore → TableStore × List (TableId × Nat)
  | [], t => (t, [])
  | id :: rest, t =>
    if storedValid body id then
      let p := closeTable id (storedCount body id) t
      let q := closeStored body rest p.1
      (q.1, (id, p.2.getD 0) :: q.2)
    else closeStored body rest t

/-- Every table is taken from the image. -/
def takeTables (body : List Byte) (t : TableStore) : TableStore :=
  tableOrder.foldl (fun u id => u.set id (loadedTable body id)) t

/-- What the start-up load finds. -/
inductive ImageFound where
  | absent
  | bad
  | good (body : List Byte)
  deriving DecidableEq, Repr

/-- R203 steps 1 and 2: signature and CRC. -/
def imageFound (e : Eeprom) : ImageFound :=
  if loadByte e 0 ≠ signature then .absent
  else
    let bytes := loadRest e
    let body := bytes.take 4700
    if imageCrc body = at16 bytes 4700 then .good body else .bad

/-- The cause codes of TABLE STATE (R95). -/
def causeOpen : Nat := 0
def causeClose : Nat := 1
def causeStartUp : Nat := 2
def causeStore : Nat := 3

/-- R203: one TABLE STATE notice per table in table-code order. A table that was not closed, as the image is absent or bad or
holds it as not VALID, carries first bad record index 0 (DESIGN CHOICE, log 15: the manual gives none). -/
def tableNotices (bads : List (TableId × Nat)) : List TableId → State → State
  | [], s => s
  | id :: rest, s =>
    tableNotices bads rest
      (tableNotice (tableCode id) (s.tables.get id).validity causeStartUp
        (((bads.find? fun p => decide (p.1 = id)).map Prod.snd).getD 0) s)

/-- R203, R205: the tables and the fault indication are set from what the load found; the first bad record indexes. -/
def setLoaded (found : ImageFound) (s : State) : State × List (TableId × Nat) :=
  let port : ConfigPort :=
    ⟨.idle, readTransfer 0 [loadByte s.eeprom 0] ::
      match found with | .absent => [] | _ => [readTransfer 1 (loadRest s.eeprom)]⟩
  match found with
  | .absent => (s.setTables { s.tables with imageFault := false, port := port }, [])
  | .bad => (s.setTables { s.tables with imageFault := true, port := port }, [])
  | .good body =>
    let p := closeStored body closingOrder (takeTables body { s.tables with imageFault := false, port := port })
    (s.setTables p.1, p.2)

/-- The image is good. -/
def imageGood : ImageFound → Bool
  | .good _ => true
  | _ => false

/-- R203: the start-up load ends: tables, L (R67), notices, authority (R172, R183), own address (R7). The notice of the
image carries first bad record index 0 (DESIGN CHOICE, log 15: the manual gives none). -/
def endStartUpLoad (s : State) : State :=
  let found := imageFound s.eeprom
  let p := setLoaded found s
  let t := tableNotice 0 (if imageGood found then .valid else .invalid) causeStartUp 0 (lengthChanged s.params.L p.1)
  updateOwnAddr (leaveStarting (tableNotices p.2 tableOrder t))

/-- The start-up load is running: after a reset, in STARTING, outside the continuity test (R203, R208). -/
def loading (s : State) : Bool :=
  !s.chip.inReset && !s.chip.testMode && decide (s.auth.state = .starting)

/-! ## Store engine (R204) -/

/-- The address and bytes of a write. -/
def writeOf (t : TableStore) : StoreWrite → Nat × List Byte
  | .clearSignature => (0, [0])
  | .page n => (pageSize * n, pageBytes t n)
  | .setSignature => (0, [signature])

/-- The write that follows a write that became ready; none after the last. -/
def nextWrite : StoreWrite → Option StoreWrite
  | .clearSignature => some (.page 0)
  | .page n => if n < lastPage then some (.page (n + 1)) else some .setSignature
  | .setSignature => none

/-- A run of bytes is written into a device that answers; one that does not answer takes nothing (R212). -/
def Eeprom.write (e : Eeprom) (a : Nat) (bs : List Byte) : Eeprom :=
  if e.answers then { e with cells := memWriteRun e.cells a bs } else e

/-- R204: a write lands in the EEPROM. The signature lands when its write becomes ready, every other byte as its write
is made (log 8). -/
def landed (t : TableStore) (w : StoreWrite) (e : Eeprom) : Eeprom :=
  match w with
  | .setSignature => e
  | _ => e.write (writeOf t w).1 (writeOf t w).2

/-- R204, R212: the port makes a write, after the ready-status transfer that made way for it, and polls for 20 ms; a write
outside the EEPROM is a fault (log 26). -/
def makeWrite (polled : List Transfer) (w : StoreWrite) (s : State) : Host.Outcome State Fault Refusal :=
  let p := writeOf s.tables w
  if p.1 + p.2.length ≤ Config.eepromSize then
    finish ((s.setEeprom (landed s.tables w s.eeprom)).setTables
      { s.tables with
        store := .running w Config.storeLimit
        port := ⟨.writing, polled ++ writeTransfers p.1 p.2⟩ })
  else .fault (.configMemoryAddress p.1)

/-- R212: the transfer by which the port polls the ready status. -/
def pollOf (busy : Bool) (s : State) : Transfer := statusTransfer (readStatus s.eeprom busy s.draws)

/-- R212: the port polls the ready status of the write in progress: the poll follows the transfers of the write. -/
def pollStatus (w : StoreWrite) (busy : Bool) (s : State) : State :=
  let p := writeOf s.tables w
  (setConfigPort { s.tables.port with transfers := writeTransfers p.1 p.2 ++ [pollOf busy s] } s).setDraws (s.draws + 1)

/-- R204: the STORE ends as done or as failed. Its notice carries first bad record index 0 (DESIGN CHOICE, log 15). -/
def endStore (failed : Bool) (s : State) : State :=
  tableNotice 0 (if failed then .invalid else .valid) causeStore 0
    (s.setTables { s.tables with
      store := .idle
      imageFault := failed
      port := { s.tables.port with mode := .idle } })

/-! ## Meanings -/

/-- START_UP_LOAD_END (R203): the load has found that the device answers, or that it does not (log 7). -/
def execStartUpLoadEnd (answers : Bool) (s : State) : Host.Outcome State Fault Refusal :=
  finish (if loading s then endStartUpLoad (s.setEeprom { s.eeprom with answers := answers }) else s)

/-- STORE_WRITE_READY (R204, R212): a poll finds the device ready; a device that does not answer shows busy, and its write
stays in progress. -/
def execStoreWriteReady (s : State) : Host.Outcome State Fault Refusal :=
  match s.tables.store with
  | .idle => finish s
  | .running w _ =>
    let t := pollStatus w false s
    if !s.eeprom.answers then finish t
    else
      match nextWrite w with
      | some v => makeWrite [pollOf false s] v t
      | none => finish (endStore false (t.setEeprom (t.eeprom.write 0 [signature])))

/-- The 20 ms of a write have passed (R204). -/
def storeDue (s : State) : Bool :=
  match s.tables.store with
  | .idle => false
  | .running _ left => decide (left = 0)

/-- STORE_WRITE_TIMEOUT (R204, R212): the last poll shows busy. -/
def execStoreWriteTimeout (s : State) : Host.Outcome State Fault Refusal :=
  match s.tables.store with
  | .idle => finish s
  | .running w _ => finish (if storeDue s then endStore true (pollStatus w true s) else s)

end Sys2Proof.Machine
end

