-- ==== Sys2Proof/Machine/Management.lean ====
section
/-!
DEFINITION. The Management Responder (10_tables_management_requests_and_stored_image.md): the checks of R191, the load
protocol, the read pages of R206, test mode, injection and soft reset; and the meanings of the eleven requests.
-/

namespace Sys2Proof.Machine

open Sys2Proof

/-! ## Answers (R191) -/

/-- R191: the source of a request is permitted: a TERMINAL station while the geometry set is VALID, any source
otherwise. -/
def permitted (r : Request) (s : State) : Bool :=
  if geometryValid s then
    (match r.lookup with
     | .station _ .terminal => true
     | _ => false)
  else true

/-- The request codes whose response echoes the table code (R191). -/
def hasTable (code : Nat) : Bool := code == 1 || code == 2 || code == 3 || code == 4

/-- The request codes whose response echoes the index: of those that have a table code (R20), the two that name a record
(R191, log 14). -/
def hasIndex (code : Nat) : Bool := code == 2 || code == 4

/-- The table code a response carries. -/
def echoTable (code : Nat) (r : Request) : Nat := if hasTable code then r.table else 0

/-- The index a response carries. -/
def echoIndex (code : Nat) (r : Request) : Nat := if hasIndex code then r.index else 0

/-- An answer with data. -/
def answerData (code : Nat) (r : Request) (st : Status) (data : List Byte) (s : State) : State :=
  respond r code st (echoTable code r) (echoIndex code r) data s

/-- An answer without data. -/
def answer (code : Nat) (r : Request) (st : Status) (s : State) : State := answerData code r st [] s

/-- R191 steps 1 and 2: NOT_PERMITTED, BAD_VALUE for a form that fails, or the request's own rule. -/
def checked (code : Nat) (r : Request) (form : Bool) (rule : State → State) (s : State) : State :=
  if !permitted r s then answer code r .notPermitted s
  else if !form then answer code r .badValue s
  else rule s

/-- R191: a request that names a table: its rule is given the table. -/
def checkedTable (code : Nat) (r : Request) (form : Bool) (rule : TableId → State → State) (s : State) : State :=
  match tableOfCode r.table with
  | none => checked code r false id s
  | some t => checked code r form (rule t) s

/-- R21, R191: a dispatched MANAGEMENT REQUEST that is marked malformed, or whose request code is 0 or above 11, is taken
in its turn and answered BAD_VALUE, or NOT_PERMITTED by its source. -/
def takeBadRequest (d : Dispatch) (s : State) : State :=
  if inService s then checked (at8 d.frame.payload 0) (requestOf d.frame d.lookup) false id s else s

/-- The form of a request that reads at least `n` field bytes (R191). -/
def hasFields (r : Request) (n : Nat) : Bool := decide (n ≤ r.fields.length)

/-- The form of CLOSE LOAD: its record count is read but for the global parameter table and the group hash (R191,
R196). -/
def closeForm (r : Request) : Bool :=
  match tableOfCode r.table with
  | some .global => true
  | some .hash => true
  | _ => hasFields r 2

/-! ## OPEN LOAD (R192, R193) -/

/-- R193: every fan record's reported part is emptied, and its last command number issued becomes 0. -/
def emptyFans (s : State) : State :=
  s.setFans { s.fans with recs := s.fans.recs.map fun r => { r with reported := .unknown, lastIssued := 0 } }

/-- A table is replaced. -/
def setTable (id : TableId) (t : Table) (s : State) : State := s.setTables (s.tables.set id t)

/-- R193: what an OPEN LOAD is handed on as. -/
def handOpen (id : TableId) (s : State) : State :=
  let t := if id.isGeometry then emptyCandidates (geometryOpened s) else s
  match id with
  | .global => updateOwnAddr t
  | .stations => clearSamples t
  | .fans => emptyFans t
  | _ => t

/-- R192: OPEN LOAD of a table. -/
def openLoad (r : Request) (id : TableId) (s : State) : State :=
  if incidentListed s then answer 1 r .refused s
  else if s.tables.store ≠ .idle then answer 1 r .inProgress s
  else
    handOpen id
      (tableNotice (tableCode id) .loading causeOpen 0 (answer 1 r .done (setTable id (openedTable id) s)))

/-! ## WRITE RECORD (R194) -/

/-- A table is LOADING. -/
def isLoading (t : Table) : Bool := decide (t.validity = .loading)

/-- R194: a record takes its fields and its written mark. -/
def writeFields (t : Table) (i : Nat) (fields : List Byte) : Table :=
  { t with recs := t.recs.set i fields, written := t.written.set i true }

/-- R194: WRITE RECORD of a table. -/
def writeRecord (r : Request) (id : TableId) (s : State) : State :=
  let t := s.tables.get id
  let fields := r.fields.take id.recordSize
  if !isLoading t then answer 2 r .refused s
  else if id.capacity ≤ r.index then answer 2 r .noSuch s
  else if r.fields.length < id.recordSize || !recordInRange id r.index fields then answer 2 r .badValue s
  else answer 2 r .done (setTable id (writeFields t r.index fields) s)

/-! ## CLOSE LOAD (R195) -/

/-- R195: what the outcome of a CLOSE LOAD is handed on as: own address, L, authority, the lookup of a head on scenario
none, the re-lookup of an unlocked head. -/
def handClose (id : TableId) (before : Nat) (passed : Bool) (s : State) : State :=
  let t := lengthChanged before (updateOwnAddr s)
  if id.isGeometry then geometryLookup (geometryClosed t)
  else if passed && t.tables.scenarioValid then scenarioSetValid t
  else t

/-- R195: CLOSE LOAD of a table. -/
def closeLoad (r : Request) (id : TableId) (s : State) : State :=
  if !isLoading (s.tables.get id) then answer 3 r .refused s
  else
    let p := closeTable id (at16 r.fields 0) s.tables
    let t := s.setTables p.1
    match p.2 with
    | none =>
      handClose id s.params.L true
        (tableNotice r.table .valid causeClose 0 (respond r 3 .done r.table 0 [] t))
    | some i =>
      handClose id s.params.L false
        (tableNotice r.table .invalid causeClose i (respond r 3 .badValue r.table i [] t))

/-! ## Reads (R198, R206) -/

/-- READ RECORD of a table. -/
def readRecord (r : Request) (id : TableId) (s : State) : State :=
  if id.capacity ≤ r.index then answer 4 r .noSuch s
  else answerData 4 r .done ((s.tables.get id).fields r.index) s

/-- A time in ms in whole seconds, a part of a second counting as one (R206). -/
def secondsUp (ms : Nat) : Nat := ceilDiv ms 1000

/-- Seconds left of a timer; a stopped timer reads 0. -/
def timerSeconds (t : Option Nat) : Nat := secondsUp (t.getD 0)

/-- Whole seconds since a time base reading (log 13). -/
def ageSeconds (now since : Nat) : Nat := (now - since) / 1000

/-- READ FAN byte 16. -/
def exchangeCode : Exchange → Nat
  | .closed => 0
  | .opened _ _ (.ack _) => 1
  | .opened _ _ (.resend _) => 2

/-- READ FAN bytes 17 to 19: outstanding command and retries used; 0 while the exchange is closed (log 33). -/
def exchangeBytes : Exchange → List Byte
  | .closed => [0, 0, 0]
  | .opened c n _ =>
    [byte c.number, byte (actionCode c.action + 2 * driveCode c.dir + 4 * stepCode c.step), byte n]

/-- READ FAN byte 22: the position of a fan in the start queue, 1 at its head; 0 when not queued. -/
def queuePosition (s : State) (f : Nat) : Nat :=
  match s.fans.queue.findIdx? fun g => decide (g = f) with
  | none => 0
  | some i => i + 1

/-- READ FAN byte 8: the status age, 255 absent. -/
def statusAge (s : State) (r : Reported) : Nat :=
  match r.takenAt with
  | none => 255
  | some t => min 254 (ageSeconds s.clock t)

/-- READ FAN data (23 bytes). -/
def fanData (s : State) (f : Nat) : List Byte :=
  let r := fanRec s f
  let p := r.reported
  [byte (driveStateCode p.drive), byte (driveCode p.dir + 2 * stepCode p.step), byte p.number,
    byte (cmdOriginCode p.origin), byte p.seconds] ++ beS16 p.temperature ++
  [byte (tripCode p.trip), byte (statusAge s p), byte (fanStateCode r.state), byte (wantedCode r.wanted),
    byte (stepCode r.step), byte r.fullFails, byte r.halfFails,
    byte (bit r.failed 1 + bit r.lost 2 + bit p.injected 4), byte r.lastIssued, byte (exchangeCode r.exchange)] ++
  exchangeBytes r.exchange ++
  [byte (timerSeconds r.dwell), byte (timerSeconds r.start), byte (queuePosition s f)]

/-- Candidates IN USE. -/
def candidatesInUse (s : State) : Nat := (s.incidents.candidates.filterMap id).length

/-- READ STATE page 0. -/
def pageZero (s : State) : List Byte :=
  be16 0x6412 ++
  [1, byte (authCode s.auth.state), byte (flagCode s.auth.dryRun), byte (flagCode s.port.inSilent),
    byte (flagCode (decide (s.tables.store ≠ .idle))), byte (flagCode s.tables.imageFault)] ++
  (tableOrder.map fun id => byte (validityCode (s.tables.get id).validity)) ++
  [byte s.incidents.list.length, byte (headNumber s), byte (candidatesInUse s), byte (trainsInUse s),
    byte (trainsStale s), byte (bit s.outs.incident 1 + bit s.outs.auth 2 + bit s.outs.fault 4)]

/-- A lock time remaining in seconds. -/
def lockSeconds (t : Option Nat) : List Byte := be16 (timerSeconds t)

/-- READ STATE pages 1 to 4, bytes 14 to 22: the saved plan; 0 where it is absent. -/
def savedBytes : Option SavedPlan → List Byte
  | none => List.replicate 9 0
  | some p =>
    [1, byte (scenarioCode p.scenario), byte ((p.dir.map dirCode).getD 0), byte (flagCode p.locked)] ++
      lockSeconds p.lockTimer ++ be16 p.demand ++ [byte (flagCode p.saturated)]

/-- The phase byte: 255 where no phase is held. -/
def phaseByte (p : Option Phase) : Byte := byte ((p.map phaseCode).getD 255)

/-- READ STATE pages 1 to 4. -/
def incidentPage (s : State) (i : Incident) : List Byte :=
  [byte i.number] ++ be16 i.chainage ++
  [byte (chSourceCode i.source), byte i.zone, byte i.severity, byte (originCode i.origin)] ++ trainFields i.train ++
  be16 (min 65535 (ageSeconds s.clock i.listedAt)) ++
  [byte (match i.state with | .head => 0 | .suspended => 1),
    (match i.state with | .head => phaseByte i.phase | .suspended => 255)] ++
  savedBytes i.saved

/-- READ STATE page 5, bytes 0 to 7: the live scenario; without a head its scenario is none (R117, R118), and the other
bytes are 0 (log 14). -/
def liveBytes : Option Live → List Byte
  | none => byte (scenarioCode .none) :: List.replicate 7 0
  | some l =>
    [byte (scenarioCode l.scenario), byte (causeCode l.cause), byte (liveDirCode l), byte (flagCode l.locked)] ++
      lockSeconds l.lockTimer ++
      (match l.under with | none => [0, 0] | some u => [byte u.1, byte u.2])

/-- READ STATE page 5. -/
def planPage (s : State) : List Byte :=
  liveBytes s.live ++ be16 s.plan.demand ++ [byte (flagCode s.plan.saturated)] ++ be16 s.plan.shortfall ++
    [phaseByte (headPhase s), byte s.plan.selection.length]

/-- READ STATE pages 6 and 7: 24 selection positions from one on, 255 past the end. -/
def selectionPage (s : State) (first : Nat) : List Byte :=
  byte s.plan.selection.length ::
    (List.range 24).map fun i => byte (s.plan.selection.getD (first + i) 255)

/-- READ STATE pages 8 to 15. -/
def candidatePage (s : State) (slot : Nat) : List Byte :=
  match candidateAt s slot with
  | none => List.replicate 13 0
  | some c =>
    [byte (if c.confirmedAt.isSome then 2 else 1)] ++ be16 c.chainage ++
    [byte (chSourceCode c.source), byte (sourceSetCode c.set)] ++ trainFields c.train ++
    [byte (flagCode c.stopped)] ++ be16 (ageSeconds s.clock c.createdAt) ++ be16 (secondsUp (c.deadline - s.clock))

/-- A page of READ STATE; none where the answer is NO_SUCH. -/
def statePage (s : State) (page : Nat) : Option (List Byte) :=
  if page = 0 then some (pageZero s)
  else if page ≤ 4 then (s.incidents.list[page - 1]?).map (incidentPage s)
  else if page = 5 then some (planPage s)
  else if page = 6 then some (selectionPage s 0)
  else if page = 7 then some (selectionPage s 24)
  else if page ≤ 15 then some (candidatePage s (page - 8))
  else none

/-- R198: READ STATE. -/
def readState (r : Request) (s : State) : State :=
  match statePage s r.index with
  | none => answer 5 r .noSuch s
  | some p => answerData 5 r .done p s

/-- R198: READ FAN. -/
def readFan (r : Request) (s : State) : State :=
  if TableId.fans.capacity ≤ r.index then answer 6 r .noSuch s else answerData 6 r .done (fanData s r.index) s

/-- R16: the READ COUNTERS data. -/
def counterData (s : State) : List Byte :=
  let c := s.port.counters
  be16 c.good ++
  [byte c.bad, byte c.forwardOverrun, byte c.reportDrop, byte c.commandDrop, byte c.unknownSource,
    byte c.roleMismatch, byte (flagCode c.activity), byte s.auth.intercepted]

/-- R16: every counter is set to 0 and the activity flag cleared. -/
def clearCounters (s : State) : State :=
  (s.setPort { s.port with counters := .zero }).setAuth { s.auth with intercepted := 0 }

/-- R16: READ COUNTERS. The counters are read and cleared as one event, ahead of the offer of the response. -/
def readCounters (r : Request) (s : State) : State := answerData 7 r .done (counterData s) (clearCounters s)

/-! ## STORE TABLES (R204) -/

/-- A table is LOADING. -/
def anyLoading (t : TableStore) : Bool := tableOrder.any fun id => isLoading (t.get id)

/-- R204: the STORE may start. -/
def storeStarts (s : State) : Bool := !anyLoading s.tables && decide (s.tables.store = .idle)

/-! ## SET TEST MODE (R184, R199) -/

/-- R167: the injected marks of the fans are cleared, and the reported part of each marked fan becomes UNKNOWN. -/
def clearInjectedFans (s : State) : State :=
  s.setFans { s.fans with
    recs := s.fans.recs.map fun r => if r.reported.injected then { r with reported := .unknown } else r }

/-- The dry-run flag is set. -/
def setDryRun (b : Bool) (s : State) : State := s.setAuth { s.auth with dryRun := b }

/-- R184, R199: the end of dry run. -/
def endDryRun (s : State) : State :=
  clearInjectedFans (removeInjectedTrains (clearInjectedSamples (setDryRun false (emptyIncidents s))))

/-- R199: SET TEST MODE. -/
def setTestMode (r : Request) (s : State) : State :=
  match at8 r.fields 0 with
  | 0 => answer 9 r .done (if s.auth.dryRun then endDryRun s else s)
  | 1 => if incidentListed s then answer 9 r .refused s else answer 9 r .done (setDryRun true s)
  | _ => answer 9 r .badValue s

/-! ## INJECT (R52, R66, R167, R200) -/

/-- R52: the sample taken for an injected sample command. -/
def takeInjected (c : Instr) (s : State) : State :=
  match c with
  | .velocitySample i v q => takeVelocity i v q true s
  | .opacitySample i e q => takeOpacity i e q true s
  | .temperatureSample i x q => takeTemperature i x q true s
  | .heatLineReport i l a => takeHeatLine i l a true s
  | _ => s

/-- The role has a threshold (R41, R42). -/
def hasThreshold : Option Role → Bool
  | some .opacity => true
  | some .temperature => true
  | _ => false

/-- INJECT data, sample kinds (16 bytes). -/
def sampleData (s : State) (i : Nat) : List Byte :=
  let r := stationRec s i
  match r.sample with
  | none => List.replicate 16 0
  | some x =>
    beS16 (x.value.getD 0) ++ [byte (qualityCode x.quality), byte (flagCode x.overRange)] ++ be48 x.takenAt ++
    [byte (if hasThreshold (stationRole s.tables i) then thresholdCode r.threshold else 0),
      byte ((x.line.map lineCode).getD 0), byte (bit x.value.isSome 1 + bit r.lastEvent.isSome 2),
      byte (flagCode r.faultLock)] ++ be16 (r.lastEvent.getD 0)

/-- R52, R200: an injected sample. The response is offered after all that the sample brings (DESIGN CHOICE, log 46). -/
def injectSample (r : Request) (kind : Nat) (c : Instr) (s : State) : State :=
  if !stationInUse s.tables r.index then answer 10 r .noSuch s
  else if (stationRole s.tables r.index).bind useKind ≠ some kind then answer 10 r .badValue s
  else
    let t := takeInjected c s
    answerData 10 r .done (sampleData t r.index) t

/-- INJECT data, TRAIN REPORT (18 bytes). -/
def trainData (slot : Nat) (x : Train) (raised : Bool) (s : State) : List Byte :=
  [byte slot] ++ be16 x.id ++ be16 x.head ++ be16 x.tail ++ [byte (dirCode x.dir)] ++ be16 x.speed ++
  [byte (bit x.stopped 1 + bit x.fire 2 + bit x.offset.isSome 4)] ++ be16 (x.offset.getD 0) ++
  be16 (firePosition s.params.L x) ++ [byte (flagCode raised), byte (trainsInUse s), byte (trainsStale s)]

/-- R66, R200: an injected train report. The response is offered after all that the report brings (DESIGN CHOICE, log 46). -/
def injectTrain (r : Request) (p : TrainReport) (s : State) : State :=
  if isDeparture s.params.L p then
    match slotOf s p.id, trainById s.trains p.id with
    | some k, some x =>
      let t := takeDeparture p.id s
      answerData 10 r .done (trainData k x false t) t
    | _, _ => answer 10 r .noSuch s
  else
    let t := takeTrain p true s
    answerData 10 r .done (trainData (slotFor s p.id).1 (trainOf p s.clock true) (reportRaises s p) t) t

/-- R167, R200: an injected fan status. The fan record of the response is read, and the response offered, after all that the
status brings: the recompute, the start tests and the wanted states taken as events of their own (DESIGN CHOICE,
log 46). -/
def injectStatus (r : Request) (st : FanStatus) (s : State) : State :=
  if s.tables.fans.count ≤ r.index then answer 10 r .noSuch s
  else
    let t := takeStatus r.index st true s
    answerData 10 r .done (fanData t r.index) t

/-- R200: INJECT. -/
def inject (r : Request) (s : State) : State :=
  if !s.auth.dryRun then answer 10 r .refused s
  else
    let kind := at8 r.fields 0
    match observationCommand kind r.index (r.fields.drop 1) with
    | some (.trainReport p) => injectTrain r p s
    | some (.fanStatus _ st) => injectStatus r st s
    | some c => injectSample r kind c s
    | none => answer 10 r .badValue s

/-! ## SOFT RESET (R201) -/

/-- R201: the DONE response of a SOFT RESET carries the mark that begins the reset. -/
def softReset (r : Request) (s : State) : State :=
  if s.auth.state = .autonomous then answer 11 r .refused s
  else offerReport ⟨r.source, kindResponse, responsePayload r.sequence 11 .done 0 0 [], true⟩ s

/-! ## Meanings -/

/-- A request in service is taken. -/
def takeRequest (c : Instr) (rule : State → State) (s : State) : State :=
  let t := took c s
  if inService t then rule t else t

/-- OPEN_LOAD (R191 to R193). -/
def execOpenLoad (request : Request) (s : State) : Host.Outcome State Fault Refusal :=
  finish (takeRequest (.openLoad request) (checkedTable 1 request true (openLoad request)) s)

/-- WRITE_RECORD (R194). -/
def execWriteRecord (request : Request) (s : State) : Host.Outcome State Fault Refusal :=
  finish (takeRequest (.writeRecord request) (checkedTable 2 request true (writeRecord request)) s)

/-- CLOSE_LOAD (R195 to R197). -/
def execCloseLoad (request : Request) (s : State) : Host.Outcome State Fault Refusal :=
  finish (takeRequest (.closeLoad request)
    (checkedTable 3 request (closeForm request) (closeLoad request)) s)

/-- READ_RECORD (R198). -/
def execReadRecord (request : Request) (s : State) : Host.Outcome State Fault Refusal :=
  finish (takeRequest (.readRecord request) (checkedTable 4 request true (readRecord request)) s)

/-- READ_STATE (R198). -/
def execReadState (request : Request) (s : State) : Host.Outcome State Fault Refusal :=
  finish (takeRequest (.readState request) (checked 5 request true (readState request)) s)

/-- READ_FAN (R198). -/
def execReadFan (request : Request) (s : State) : Host.Outcome State Fault Refusal :=
  finish (takeRequest (.readFan request) (checked 6 request true (readFan request)) s)

/-- READ_COUNTERS (R16). -/
def execReadCounters (request : Request) (s : State) : Host.Outcome State Fault Refusal :=
  finish (takeRequest (.readCounters request) (checked 7 request true (readCounters request)) s)

/-- STORE_TABLES (R204): the DONE response is offered as the STORE makes its first write. -/
def execStoreTables (request : Request) (s : State) : Host.Outcome State Fault Refusal :=
  let t := took (.storeTables request) s
  if inService t && permitted request t && storeStarts t then makeWrite [] .clearSignature (answer 8 request .done t)
  else
    finish (takeRequest (.storeTables request)
      (checked 8 request true fun u => answer 8 request (if anyLoading u.tables then .refused else .inProgress) u) s)

/-- SET_TEST_MODE (R199). -/
def execSetTestMode (request : Request) (s : State) : Host.Outcome State Fault Refusal :=
  finish (takeRequest (.setTestMode request) (checked 9 request (hasFields request 1) (setTestMode request)) s)

/-- INJECT (R200). -/
def execInject (request : Request) (s : State) : Host.Outcome State Fault Refusal :=
  finish (takeRequest (.inject request) (checked 10 request (hasFields request 1) (inject request)) s)

/-- SOFT_RESET (R201). -/
def execSoftReset (request : Request) (s : State) : Host.Outcome State Fault Refusal :=
  finish (takeRequest (.softReset request) (checked 11 request true (softReset request)) s)

end Sys2Proof.Machine
end

