-- ==== Sys2Proof/Machine/RingPort.lean ====
section
/-!
DEFINITION. The Ring Port's events (01_the_field_ring.md) and the Frame Classifier (02_frame_classification.md), and the
ring continuity test (11_commissioning_and_test.md), which takes over ring IN; the meanings of their commands.
-/

namespace Sys2Proof.Machine

open Sys2Proof

/-! ## Counters (R15) -/

/-- The role-mismatch counter counts. -/
def countMismatch (s : State) : State := s.count fun c => { c with roleMismatch := satCount 255 c.roleMismatch }

/-- The unknown-source counter counts. -/
def countUnknown (s : State) : State := s.count fun c => { c with unknownSource := satCount 255 c.unknownSource }

/-- The bad-frame counter counts. -/
def countBad (s : State) : State := s.count fun c => { c with bad := satCount 255 c.bad }

/-- The good-frame counter counts, 0 after 9,999, and the activity flag is set. -/
def countGood (s : State) : State :=
  s.count fun c => { c with good := if c.good < 9999 then c.good + 1 else 0, activity := true }

/-! ## Dispatch (R26, R35) -/

/-- A frame joins the dispatched frames that their blocks have not yet taken. -/
def dispatch (d : Dispatch) (s : State) : State := s.setDispatched (s.dispatched ++ [d])

/-- R22, R23: the index of a source whose use kind a frame kind is. -/
def useIndex (kind : Nat) : Lookup → Option Nat
  | .station i r => if useKind r = some kind then some i else none
  | .drive f => if kind = kindFanStatus then some f else none
  | .unknown => none

/-- R26, R28: a frame of an observation kind is used, or counted as its source, role and form say. -/
def observe (f : Frame) (s : State) : State :=
  match lookupSource s.tables f.source with
  | .unknown => countUnknown s
  | l =>
    match useIndex f.kind l with
    | none => countMismatch s
    | some i =>
      if destAccepted s.tables s.port.ownAddr f.dest then
        (match observationCommand f.kind i f.payload with
         | none => countMismatch s
         | some c => dispatch ⟨f, l, some c⟩ s)
      else s

/-- R25 cases 2 to 4: pass-all, the use test, or neither. A frame of a control-centre kind comes here only when it is not
addressed to the part: it is not counted, and pass-all does not affect that (R30; DESIGN CHOICE, log 43: R34 counts
every frame of case 2). -/
def useOrCount (f : Frame) (s : State) : State :=
  if isCentreKind f.kind then s
  else if s.params.passAll then countUnknown s
  else if isObservation f.kind then observe f s
  else s

/-! ## Consumed frames (R29, R30, R32, R33) -/

/-- R29: a MANAGEMENT REQUEST is dispatched; one that is malformed is counted, and dispatched so marked. -/
def dispatchRequest (f : Frame) (lookup : Lookup) (s : State) : State :=
  if requestMalformed f.payload then dispatch ⟨f, lookup, none⟩ (countMismatch s)
  else dispatch ⟨f, lookup, requestCommand (at8 f.payload 0) (requestOf f lookup)⟩ s

/-- R30: a frame of the four control-centre kinds is taken by its source. -/
def dispatchCentre (f : Frame) (s : State) : State :=
  match lookupSource s.tables f.source with
  | .station i .controlCentre =>
    (match centreCommand f with
     | none => countMismatch s
     | some c => dispatch ⟨f, .station i .controlCentre, some c⟩ s)
  | _ => countMismatch s

/-- R8, R25: a consumed frame. One of any other kind is counted with pass-all on, as R25 and R34 say (DESIGN CHOICE,
log 43: section 2.4 says that such a frame is not counted). -/
def consume (f : Frame) (s : State) : State :=
  if s.auth.state = .starting then s
  else if !geometryValid s then (if f.kind = kindRequest then dispatchRequest f .unknown s else s)
  else if f.kind = kindRequest then dispatchRequest f (lookupSource s.tables f.source) s
  else if isCentreKind f.kind then dispatchCentre f s
  else useOrCount f s

/-! ## RING RESTORED (R18) -/

/-- R18: a frame that ended IN SILENT brings a RING RESTORED notice. -/
def restoredNotice (restored : Bool) (s : State) : State := if restored then headNotice 0x18 [] s else s

/-- R9, R14, R18: a frame is forwarded. The notice of one that ended IN SILENT enters the insert queue together with it,
and the arbiter then serves by its mark. -/
def forwardFrame (restored : Bool) (bytes : List Byte) (s : State) : State :=
  if restored then serve (enterForward bytes (enterReport (noticeFrame 0x18 (headNumber s) [] s) s))
  else offerForward bytes s

/-! ## Frames offered to the classifier (R25, R27, R32, R33) -/

/-- R9, R25: a frame that is neither stripped nor consumed. -/
def classify (restored : Bool) (bytes : List Byte) (f : Frame) (s : State) : State :=
  if decide (s.auth.state = .starting) || !geometryValid s then forwardFrame restored bytes s
  else if intercepts s f then interception (restoredNotice restored s)
  else forwardFrame restored bytes (useOrCount f s)

/-! ## Receipt on ring IN (R4 to R8, R17, R18) -/

/-- 0x17 RING SILENT; none in the continuity test (R208). -/
def silentNotice (s : State) : State := if s.chip.testMode then s else headNotice 0x17 [] s

/-- R5 step 3: a valid frame restarts the silence timer, and ends IN SILENT if it holds. -/
def restartSilence (s : State) : State :=
  s.setPort { s.port with silence := 0, inSilent := false, silentFor := 0 }

/-- R6: a source is in the strip set. -/
def inStripSet (p : Port) (source : Nat) : Bool :=
  decide (source = p.ownAddr) ||
    (match p.earlier with
     | none => false
     | some e => decide (source = e.1))

/-- R5 steps 4 to 6: strip, consume, classify; `restored` says that the frame ended IN SILENT. -/
def route (restored : Bool) (bytes : List Byte) (s : State) : State :=
  let f := frameOf bytes
  if inStripSet s.port f.source then restoredNotice restored s
  else if f.dest = s.port.ownAddr then consume f (restoredNotice restored s)
  else classify restored bytes f s

/-- R4, R5: a frame completes on ring IN. -/
def receive (bytes : List Byte) (s : State) : State :=
  if isBad bytes then countBad s else route s.port.inSilent bytes (restartSilence (countGood s))

/-! ## Ring OUT, silence and strip set (R6, R13, R17) -/

/-- R13, R201: the last byte of a frame has left OUT; the DONE response of a SOFT RESET begins the reset, unless authority
is AUTONOMOUS. -/
def endTransmission (s : State) : State :=
  match s.port.out with
  | none => s
  | some x =>
    let t := s.setPort { s.port with out := none }
    if x.softReset && decide (s.auth.state ≠ .autonomous) then t.setChip { t.chip with softResetDue := true }
    else serve t

/-- IN_SILENT_RAISED is due (R17). -/
def silentDue (s : State) : Bool :=
  !s.chip.inReset && !s.port.inSilent && decide (Config.silenceLimit ≤ s.port.silence)

/-- R17, R18: IN SILENT is raised. -/
def raiseSilent (s : State) : State := silentNotice (s.setPort { s.port with inSilent := true, silentFor := 0 })

/-- STRIP_ADDRESS_EXPIRY is due (R6). -/
def stripDue (s : State) : Bool :=
  match s.port.earlier with
  | none => false
  | some e => decide (e.2 = 0)

/-! ## Ring continuity test (R208 to R211) -/

/-- The test counters are changed. -/
def State.testCount (s : State) (f : LoopTest → LoopTest) : State := s.setTest (f s.test)

/-- R210: returned-bad counts. -/
def returnedBad (s : State) : State := s.testCount fun t => { t with bad := satCount 65535 t.bad }

/-- R210: returned-good counts, and the number leaves the list. -/
def returnedGood (n : Nat) (s : State) : State :=
  s.testCount fun t => { t with
    good := satCount 65535 t.good
    outstanding := t.outstanding.filter fun o => decide (o.1 ≠ n) }

/-- A test number is outstanding. -/
def isOutstanding (t : LoopTest) (n : Nat) : Bool := t.outstanding.any fun o => decide (o.1 = n)

/-- R210: a returned test frame is whole. -/
def isReturn (t : LoopTest) (f : Frame) : Bool :=
  decide (f.payload.length = 32) && isOutstanding t (at16 f.payload 0) &&
    decide (f.payload = testPayload (at16 f.payload 0))

/-- R211: the READ COUNTERS data of the test. -/
def testData (t : LoopTest) : List Byte :=
  be16 t.sent ++ be16 t.good ++ be16 t.bad ++ be16 t.lost ++ [byte t.outstanding.length]

/-- R211: the four counters are set to 0. -/
def LoopTest.cleared (t : LoopTest) : LoopTest := { t with sent := 0, good := 0, bad := 0, lost := 0 }

/-- R211: READ COUNTERS is answered from the test counters, which are then cleared. -/
def readTestCounters (source sequence : Nat) (s : State) : State :=
  offerReport ⟨source, kindResponse, responsePayload sequence 7 .done 0 0 (testData s.test), false⟩
    (s.testCount LoopTest.cleared)

/-- R210: a valid frame on ring IN in the continuity test. A READ COUNTERS request is answered within this step (DESIGN
CHOICE, log 31). -/
def testRoute (f : Frame) (s : State) : State :=
  let own := strappedAddr s.chip.strap
  if f.source = own ∧ f.kind = kindTest then
    (if isReturn s.test f then returnedGood (at16 f.payload 0) s else returnedBad s)
  else if f.dest = own ∧ f.kind = kindRequest ∧ requestMalformed f.payload = false ∧ at8 f.payload 0 = 7 then
    readTestCounters f.source f.sequence s
  else s

/-- R210: a frame completes on ring IN in the continuity test, which makes no notice (R208). -/
def testReceive (bytes : List Byte) (s : State) : State :=
  if isBad bytes then returnedBad s else testRoute (frameOf bytes) (restartSilence s)

/-- A frame completes on ring IN, in service or in the continuity test (log 31); none while a reset lasts (R19). -/
def frameIn (bytes : List Byte) (s : State) : State :=
  if s.chip.inReset then s
  else if s.chip.testMode then testReceive bytes s
  else receive bytes s

/-- The part is in the continuity test. -/
def inTest (s : State) : Bool := s.chip.testMode && !s.chip.inReset

/-- TEST_FRAME_OFFER is due (R209). -/
def testOfferDue (s : State) : Bool := inTest s && decide (s.test.offerIn = 0)

/-- TEST_FRAME_DEADLINE of a number is due (R209). -/
def testDeadlineDue (n : Nat) (s : State) : Bool :=
  s.test.outstanding.any fun o => decide (o.1 = n) && decide (o.2 = 0)

/-- R209: a number leaves the list and is counted lost. -/
def testLost (n : Nat) (s : State) : State :=
  s.testCount fun t => { t with
    lost := satCount 65535 t.lost
    outstanding := t.outstanding.filter fun o => decide (o.1 ≠ n) }

/-! ## Meanings -/

/-- FRAME_RECEIVED (R4 to R9, R18, R25 to R34). -/
def execFrameReceived (bytes : List Byte) (s : State) : Host.Outcome State Fault Refusal := finish (frameIn bytes s)

/-- TRANSMISSION_END (R13, R14, R201). -/
def execTransmissionEnd (s : State) : Host.Outcome State Fault Refusal := finish (endTransmission s)

/-- IN_SILENT_RAISED (R17, R18). -/
def execInSilentRaised (s : State) : Host.Outcome State Fault Refusal :=
  finish (if silentDue s then raiseSilent s else s)

/-- STRIP_ADDRESS_EXPIRY (R6). -/
def execStripAddressExpiry (s : State) : Host.Outcome State Fault Refusal :=
  finish (if stripDue s then s.setPort { s.port with earlier := none } else s)

/-- TEST_FRAME_OFFER (R209). -/
def execTestFrameOffer (s : State) : Host.Outcome State Fault Refusal :=
  finish (if testOfferDue s then offerTestFrame s else s)

/-- TEST_FRAME_DEADLINE (R209). -/
def execTestFrameDeadline (number : Nat) (s : State) : Host.Outcome State Fault Refusal :=
  finish (if testDeadlineDue number s then testLost number s else s)

/-- TEST_FRAME_RECEIVED (R210). -/
def execTestFrameReceived (bytes : List Byte) (s : State) : Host.Outcome State Fault Refusal :=
  finish (frameIn bytes s)

/-- TEST_READ_COUNTERS (R211): a request that the sender brings by itself (DESIGN CHOICE, log 31). -/
def execTestReadCounters (source sequence : Nat) (s : State) : Host.Outcome State Fault Refusal :=
  finish (if inTest s then readTestCounters source sequence s else s)

end Sys2Proof.Machine
end

