-- ==== Sys2Proof/Machine/Clock.lean ====
section
/-!
DEFINITION. Time (R1): what one millisecond does to every timer, which timed events have fallen due, and what the part does
while no command waits (log 1, log 2).
-/

namespace Sys2Proof.Machine

open Sys2Proof

/-! ## One millisecond -/

/-- A running timer counts down by 1 ms, and stops counting at 0. -/
def countDown (t : Option Nat) : Option Nat := t.map fun n => n - 1

/-- A timer that IN SILENT pauses (R165). -/
def countUnless (paused : Bool) (t : Option Nat) : Option Nat := if paused then t else countDown t

/-- The wait of an exchange counts down, unless paused (R165). -/
def Exchange.tick (paused : Bool) (e : Exchange) : Exchange :=
  match e, paused with
  | .opened c n (.ack ms), false => .opened c n (.ack (ms - 1))
  | .opened c n (.resend ms), false => .opened c n (.resend (ms - 1))
  | e, _ => e

/-- The timers of a fan record. -/
def FanRecord.tick (paused : Bool) (r : FanRecord) : FanRecord :=
  { r with
    dwell := countDown r.dwell
    start := countUnless paused r.start
    exchange := r.exchange.tick paused }

/-- The lock time of a saved plan (R110). -/
def SavedPlan.tick (p : SavedPlan) : SavedPlan := { p with lockTimer := countDown p.lockTimer }

/-- The timers of an incident record. -/
def Incident.tick (i : Incident) : Incident := { i with saved := i.saved.map SavedPlan.tick }

/-- The timers of the Ring Port: silence (R17), silence re-send (R165), strip set (R6). -/
def Port.tick (p : Port) : Port :=
  { p with
    silence := satCount Config.silenceLimit p.silence
    silentFor := if p.inSilent then p.silentFor + 1 else p.silentFor
    earlier := p.earlier.map fun e => (e.1, e.2 - 1) }

/-- R181: the hold remaining counts while authority is AUTONOMOUS and dry run is off. -/
def Authority.tick (a : Authority) : Authority :=
  { a with holdRemaining :=
      if decide (a.state = .autonomous) && !a.dryRun then a.holdRemaining - 1 else a.holdRemaining }

/-- R204: the 20 ms of a write. -/
def StoreEngine.tick : StoreEngine → StoreEngine
  | .idle => .idle
  | .running w left => .running w (left - 1)

/-- R209: the timers of the continuity test. -/
def LoopTest.tick (t : LoopTest) : LoopTest :=
  { t with
    offerIn := t.offerIn - 1
    outstanding := t.outstanding.map fun o => (o.1, o.2 - 1) }

/-- One millisecond passes; none while a reset lasts. -/
def tick (s : State) : State :=
  if s.chip.inReset then s
  else
    { s with
      clock := (s.clock + 1) % Config.clockModulus
      port := s.port.tick
      incidents := { s.incidents with
        list := s.incidents.list.map Incident.tick
        phaseTimer := countDown s.incidents.phaseTimer }
      live := s.live.map fun l => { l with lockTimer := countDown l.lockTimer }
      plan := { s.plan with trim := countDown s.plan.trim }
      fans := { s.fans with
        recs := s.fans.recs.map (FanRecord.tick s.port.inSilent)
        spacing := countDown s.fans.spacing }
      auth := s.auth.tick
      tables := { s.tables with store := s.tables.store.tick }
      test := s.test.tick }

/-! ## Timed events that have fallen due -/

/-- A command, when it is due. -/
def dueOne (b : Bool) (c : Instr) : List Instr := if b then [c] else []

/-- The commands of the fans for which an event is due, in index order. -/
def dueFans (s : State) (due : Nat → State → Bool) (c : Nat → Instr) : List Instr :=
  ((List.range s.fans.recs.length).filter fun f => due f s).map c

/-- The timed events that have fallen due, in one fixed order (log 2). -/
def dueCommands (s : State) : List Instr :=
  dueOne (silentDue s) .inSilentRaised ++
  dueOne (stripDue s) .stripAddressExpiry ++
  dueFans s statusAgeDue .statusAgeUnknown ++
  ((List.range s.trains.length).filter fun i => expiryDue i s).map .trainRecordExpiry ++
  ((slots s).filter fun i => deadlineDue i s).map .candidateDeadline ++
  dueOne (phaseDue s) .phaseTimerExpiry ++
  ((s.incidents.list.map Incident.number).filter fun n => lockDue n s).map .lockTimerExpiry ++
  dueOne (trimDue s) .trimTimerExpiry ++
  dueFans s ackDue .ackDeadline ++
  dueFans s resendDue .resendTime ++
  dueOne (silenceResendDue s) .silenceResend ++
  dueOne (spacingDue s) .startSpacingExpiry ++
  dueFans s dwellDue .dwellTimerExpiry ++
  dueFans s startDue .startTimerExpiry ++
  dueOne (holdDue s) .holdRefresh ++
  dueOne (storeDue s) .storeWriteTimeout ++
  dueOne (testOfferDue s) .testFrameOffer ++
  ((s.test.outstanding.map Prod.fst).filter fun n => testDeadlineDue n s).map .testFrameDeadline

/-! ## No command waits -/

/-- The block of a dispatched frame comes to take it (R35): its command enters the queue, and a request without a command
is answered at once (R191). -/
def takeDispatch (d : Dispatch) (rest : List Dispatch) (s : State) : State :=
  match d.command with
  | some c => s.setPending [c]
  | none => settle (takeBadRequest d (s.setDispatched rest))

/-- The part while no command waits (log 1): the frames dispatched and not yet taken come first, one by one, then the
timed events that have fallen due, and else one millisecond passes. -/
def idle (s : State) : State :=
  match s.dispatched, dueCommands s with
  | d :: rest, _ => takeDispatch d rest s
  | [], c :: cs => s.setPending (c :: cs)
  | [], [] => tick s

end Sys2Proof.Machine
end

