-- ==== Sys2Proof/Machine/Dispatch.lean ====
section
/-!
DEFINITION. The dispatch of a command to its meaning: one arm per constructor of Instr.
-/

namespace Sys2Proof.Machine
open Sys2Proof

def exec (i : Instr) (s : State) : Host.Outcome State Fault Refusal :=
  match i with
  | .powerOnReset loop addr => Sys2Proof.Machine.execPowerOnReset loop addr s
  | .resetN => Sys2Proof.Machine.execResetN s
  | .frameReceived bytes => Sys2Proof.Machine.execFrameReceived bytes s
  | .transmissionEnd => Sys2Proof.Machine.execTransmissionEnd s
  | .inSilentRaised => Sys2Proof.Machine.execInSilentRaised s
  | .stripAddressExpiry => Sys2Proof.Machine.execStripAddressExpiry s
  | .velocitySample station velocity quality => Sys2Proof.Machine.execVelocitySample station velocity quality s
  | .opacitySample station extinction quality => Sys2Proof.Machine.execOpacitySample station extinction quality s
  | .temperatureSample station temperature quality => Sys2Proof.Machine.execTemperatureSample station temperature quality s
  | .heatLineReport station line alarm => Sys2Proof.Machine.execHeatLineReport station line alarm s
  | .trainReport report => Sys2Proof.Machine.execTrainReport report s
  | .fanStatus fan status => Sys2Proof.Machine.execFanStatus fan status s
  | .incidentDeclare sequence declaration => Sys2Proof.Machine.execIncidentDeclare sequence declaration s
  | .incidentClear number => Sys2Proof.Machine.execIncidentClear number s
  | .authorityRelease number => Sys2Proof.Machine.execAuthorityRelease number s
  | .authorityResume => Sys2Proof.Machine.execAuthorityResume s
  | .openLoad request => Sys2Proof.Machine.execOpenLoad request s
  | .writeRecord request => Sys2Proof.Machine.execWriteRecord request s
  | .closeLoad request => Sys2Proof.Machine.execCloseLoad request s
  | .readRecord request => Sys2Proof.Machine.execReadRecord request s
  | .readState request => Sys2Proof.Machine.execReadState request s
  | .readFan request => Sys2Proof.Machine.execReadFan request s
  | .readCounters request => Sys2Proof.Machine.execReadCounters request s
  | .storeTables request => Sys2Proof.Machine.execStoreTables request s
  | .setTestMode request => Sys2Proof.Machine.execSetTestMode request s
  | .inject request => Sys2Proof.Machine.execInject request s
  | .softReset request => Sys2Proof.Machine.execSoftReset request s
  | .candidateDeadline slot => Sys2Proof.Machine.execCandidateDeadline slot s
  | .phaseTimerExpiry => Sys2Proof.Machine.execPhaseTimerExpiry s
  | .lockTimerExpiry number => Sys2Proof.Machine.execLockTimerExpiry number s
  | .trimTimerExpiry => Sys2Proof.Machine.execTrimTimerExpiry s
  | .statusAgeUnknown fan => Sys2Proof.Machine.execStatusAgeUnknown fan s
  | .ackDeadline fan => Sys2Proof.Machine.execAckDeadline fan s
  | .resendTime fan => Sys2Proof.Machine.execResendTime fan s
  | .silenceResend => Sys2Proof.Machine.execSilenceResend s
  | .startSpacingExpiry => Sys2Proof.Machine.execStartSpacingExpiry s
  | .dwellTimerExpiry fan => Sys2Proof.Machine.execDwellTimerExpiry fan s
  | .startTimerExpiry fan => Sys2Proof.Machine.execStartTimerExpiry fan s
  | .holdRefresh => Sys2Proof.Machine.execHoldRefresh s
  | .trainRecordExpiry slot => Sys2Proof.Machine.execTrainRecordExpiry slot s
  | .startUpLoadEnd answers => Sys2Proof.Machine.execStartUpLoadEnd answers s
  | .storeWriteReady => Sys2Proof.Machine.execStoreWriteReady s
  | .storeWriteTimeout => Sys2Proof.Machine.execStoreWriteTimeout s
  | .testFrameOffer => Sys2Proof.Machine.execTestFrameOffer s
  | .testFrameDeadline number => Sys2Proof.Machine.execTestFrameDeadline number s
  | .testFrameReceived bytes => Sys2Proof.Machine.execTestFrameReceived bytes s
  | .testReadCounters source sequence => Sys2Proof.Machine.execTestReadCounters source sequence s
  | .resetNRelease addr => Sys2Proof.Machine.execResetNRelease addr s

end Sys2Proof.Machine
end

