-- ==== Sys2Proof/Safety.lean ====
section
/-!
DEFINITION. What the statements call a safe state: the ranges and orders the manual says hold at all times, and the
conditions under which a frame offered to the ring changes nothing but the Ring Port; and the words in which the
statements say where an incident is merged or listed.
-/

namespace Sys2Proof.Machine

open Sys2Proof

/-- No SOFT RESET waits for its response (R201) and no test frame of the continuity test waits (R209). -/
def quiet (s : State) : Bool :=
  !s.chip.softResetDue &&
    (s.port.commands ++ s.port.reports).all fun q => !q.softReset && q.kind != kindTest

/-- The part takes dispatches, requests and timed events, and is quiet. -/
def serving (s : State) : Bool := inService s && quiet s

/-- The part takes frames on ring IN in service: no reset lasts and the continuity test is not selected. -/
def onRing (s : State) : Bool := !s.chip.inReset && !s.chip.testMode

/-- The state in which a command ends: the outputs follow their conditions (R185, R186). -/
def ended (s : State) : State := { s with outs := outputsOf s }

/-- A frame dispatched to its block has been taken from the dispatched frames (R35). -/
def taken (c : Instr) (s : State) : State :=
  { s with dispatched := s.dispatched.eraseP fun d => decide (d.command = some c) }

/-- The Ring Port, the outputs and the blocks that list, look up, plan, sequence and hold authority may differ; the queue
of commands, the dispatched frames, the time base, the pins, the sample and train records, the tables, the EEPROM and the
continuity test are the same. -/
def planningOnly (s t : State) : Prop :=
  t = { s with
    outs := t.outs
    port := t.port
    incidents := t.incidents
    live := t.live
    plan := t.plan
    fans := t.fans
    auth := t.auth
    draws := t.draws }

/-- A received frame's own count (R5 steps 1 to 3): good-frame counter, activity flag, silence timer, IN SILENT ended. -/
def received (s : State) : State :=
  { s with port := { s.port with
      counters := { s.port.counters with
        good := if s.port.counters.good < 9999 then s.port.counters.good + 1 else 0
        activity := true }
      silence := 0
      inSilent := false
      silentFor := 0 } }

/-- A frame of the report class made by the part, as a statement names it. -/
def report (dest kind : Nat) (payload : List Byte) : QFrame := ⟨dest, kind, payload, false⟩

/-- A MANAGEMENT RESPONSE to a request, as a statement names it: request code, status code, table code, index, data. -/
def reply (r : Request) (code status table index : Nat) (data : List Byte) : QFrame :=
  report r.source 0x51 ([byte r.sequence, byte code] ++ be16 status ++ [byte table] ++ be16 index ++ data)

/-- The source of a request is permitted (R191): a TERMINAL station, or any source while the geometry set is not VALID. -/
def allowed (s : State) (r : Request) : Prop :=
  s.tables.geometryValid = true → ∃ i, r.lookup = .station i .terminal

/-- A request is answered, and nothing else comes of it. -/
def answered (c : Instr) (q : QFrame) (s : State) : Host.Outcome State Fault Refusal :=
  .next (ended (offerReport q (taken c s)))

/-! ## What falls due -/

/-- Every timed event with whether it is due, in the order in which one idle step takes those that are (log 2): silence
limit (R17), strip-set time (R6), age of a status (R144) and of a train record (R59), deadline of a candidate (R76), phase,
lock and trim timers (R89, R110, R132), waits of the exchanges and silence re-send (R151, R165), start spacing, dwell and
start timers (R154, R159, R160), hold refresh (R181), the STORE's limit (R204), test frames (R209). -/
def timedEvents (s : State) : List (Bool × Instr) :=
  let fans := fun (due : FanRecord → Bool) (c : Nat → Instr) =>
    (List.range s.fans.recs.length).map fun f => (due (s.fans.recs.getD f .reset), c f)
  let slot := fun (due : Bool) (c : Instr) => [(due, c)]
  slot (!s.chip.inReset && !s.port.inSilent && decide (500 ≤ s.port.silence)) .inSilentRaised ++
  slot (s.port.earlier.any fun e => decide (e.2 = 0)) .stripAddressExpiry ++
  fans (fun r => decide (r.reported.drive ≠ .unknown) &&
    r.reported.takenAt.any fun h => decide (h + 6000 ≤ s.clock)) .statusAgeUnknown ++
  ((List.range s.trains.length).map fun k =>
    ((s.trains.getD k none).any fun r => decide (r.takenAt + 300001 ≤ s.clock), .trainRecordExpiry k)) ++
  ((List.range s.incidents.candidates.length).map fun k =>
    ((s.incidents.candidates.getD k none).any fun c => decide (c.deadline ≤ s.clock), .candidateDeadline k)) ++
  slot (decide (s.incidents.phaseTimer = some 0)) .phaseTimerExpiry ++
  (s.incidents.list.map fun j =>
    ((s.incidents.list.find? fun i => decide (i.number = j.number)).any (fun i => match i.state with
      | .head => s.live.any fun l => decide (l.lockTimer = some 0)
      | .suspended => i.saved.any fun p => decide (p.lockTimer = some 0)), .lockTimerExpiry j.number)) ++
  slot (decide (s.plan.trim = some 0)) .trimTimerExpiry ++
  fans (fun r => !s.port.inSilent && match r.exchange with | .opened _ _ (.ack 0) => true | _ => false) .ackDeadline ++
  fans (fun r => !s.port.inSilent && match r.exchange with | .opened _ _ (.resend 0) => true | _ => false)
    .resendTime ++
  slot (s.port.inSilent && decide (1000 ≤ s.port.silentFor)) .silenceResend ++
  slot (decide (s.fans.spacing = some 0)) .startSpacingExpiry ++
  fans (fun r => decide (r.dwell = some 0)) .dwellTimerExpiry ++
  fans (fun r => !s.port.inSilent && decide (r.start = some 0)) .startTimerExpiry ++
  slot (decide (s.auth.state = .autonomous) && !s.auth.dryRun &&
    decide (s.auth.holdRemaining ≤ s.params.refresh * 1000)) .holdRefresh ++
  slot (match s.tables.store with | .running _ 0 => true | _ => false) .storeWriteTimeout ++
  slot (s.chip.testMode && !s.chip.inReset && decide (s.test.offerIn = 0)) .testFrameOffer ++
  (s.test.outstanding.map fun o =>
    (s.test.outstanding.any fun p => decide (p.1 = o.1) && decide (p.2 = 0), .testFrameDeadline o.1))

/-! ## What the statements about incidents say -/

/-- The fire chainage of the incident at a list position. -/
def incidentPlace (s : State) (k : Nat) : Option Nat := s.incidents.list[k]?.map Incident.chainage

/-- The chainage of the candidate in a slot. -/
def candidatePlace (s : State) (k : Nat) : Option Nat := s.incidents.candidates[k]?.join.map Candidate.chainage

/-- R70 to R72, R79: of some places, the one at `k` lies within the merge distance of x and is the nearest to x, the first
of those equally near. -/
def isNearest (s : State) (x : Nat) (place : Nat → Option Nat) (k : Nat) : Prop :=
  ∃ y, place k = some y ∧ Sys2Proof.dist x y ≤ s.params.mergeDistance ∧
    ∀ j z, place j = some z →
      Sys2Proof.dist x y < Sys2Proof.dist x z ∨ (Sys2Proof.dist x y = Sys2Proof.dist x z ∧ k ≤ j)

/-- No place lies within the merge distance of x. -/
def noneNear (s : State) (x : Nat) (place : Nat → Option Nat) : Prop :=
  ∀ k y, place k = some y → s.params.mergeDistance < Sys2Proof.dist x y

/-- R94: an INCIDENT NOTICE of these payload bytes is offered. -/
def told (bytes : List Byte) (s : State) : State := offerReport (report (noticeDest s) 0x49 bytes) s

/-- R175, R181, R182: an AUTHORITY HOLD of Hh with the head's number is offered, the hold remaining is set to Hh × 1,000 ms,
and the last hold time becomes the present reading. -/
def holdClaimed (s : State) : State :=
  { offerCommand (report (noticeDest s) 0x48 [byte s.params.holdTime, byte (headNumber s)]) s with
    auth := { s.auth with holdRemaining := s.params.holdTime * 1000, lastHold := some s.clock } }

/-- R27, R31: a frame waiting in the forward queue is a FAN COMMAND of a CONTROL_CENTRE station to a drive address. -/
def manualWaits (t : TableStore) (b : List Byte) : Bool :=
  decide (at8 b 4 = 0x30) &&
    (match lookupSource t (at16 b 2) with
     | .station _ .controlCentre => true
     | _ => false) &&
    isDriveAddr t (at16 b 0) && t.geometryValid

/-- R175: entry into AUTONOMOUS. Out of dry run a hold is offered, and the control centre's waiting fan commands leave the
forward queue, each counted (R31, R182); the AUTHORITY notice carries the new and the previous state; and the Fan
Sequencer comes into command where a scenario is held (R146). -/
def takesAuthority (s : State) : State :=
  let t := { s with auth := { s.auth with state := .autonomous } }
  let held :=
    if s.auth.dryRun = true then t
    else
      let h := holdClaimed t
      { h with
        port := { h.port with forward := h.port.forward.filter fun b => !manualWaits h.tables b }
        auth := { h.auth with
          intercepted := Nat.iterate (fun n => if n < 255 then n + 1 else 255)
            (h.port.forward.countP (manualWaits h.tables)) h.auth.intercepted } }
  comeIntoCommand (told [0x15, byte (headNumber s), 3, byte (authCode s.auth.state)] held)

/-- R174: the word that the incident list is no longer empty. In MONITOR authority is taken; in UNCONFIGURED the state stays,
and an AUTHORITY notice carries it as new and as previous state; no other state has a line in R174, and it stays (log 22). -/
def authorityAtListing (s : State) : State :=
  match s.auth.state with
  | .monitor => takesAuthority s
  | .unconfigured => told [0x15, byte (headNumber s), 1, 1] s
  | _ => s

/-- R173: a CLOSE LOAD that leaves every geometry-set table VALID moves authority out of UNCONFIGURED: to MONITOR with an
empty incident list, to AUTONOMOUS otherwise. -/
def authorityAtClose (s : State) : State :=
  if s.auth.state = .unconfigured ∧ s.tables.geometryValid = true then
    if s.incidents.list = [] then
      told [0x15, byte (headNumber s), 2, 1] { s with auth := { s.auth with state := .monitor } }
    else takesAuthority s
  else s

/-- R108, R109, R110, R114, R115: the scenario `l` becomes live for the head with number `n`, with its SCENARIO notice where
one is offered, and after it a DIRECTION LOCKED notice where the direction is locked at once. -/
def scenarioTaken (n : Nat) (l : Live) (announced locks : Bool) (s : State) : State :=
  let way : Byte := match l.dir with | some .towardB => 1 | _ => 0
  let u := { s with live := some l }
  let v := if announced = true then told ([0x0E, byte n, byte (scenarioCode l.scenario), way] ++ be16 l.vt) u else u
  if locks = true then told [0x0D, byte n, way] v else v

/-- R87, R89, R90, R128: the head with number `n` enters a phase: the fresh walk and its hand-over, then the PHASE notice,
and the phase test on entering STAGING. That the wanted states are taken ahead of PHASE is log 16. -/
def entersPhase (n : Nat) (p : Phase) (s : State) : State :=
  let code : Byte := match p with | .delay => 0 | .staging => 1 | .regulating => 2
  let v := told [0x0C, byte n, code] (carryOut (setPhase p s))
  startTests (if p = .staging then phaseTest v else v)

/-- R109, R122, R128, R130: the lookup of a head on scenario none once the geometry set is VALID: its notice is offered
whatever it finds, the lock stands as it was and is announced where the direction had locked, D is computed, and the fresh
walk with its hand-over brings the phase test, not the phase. That the takeover comes ahead of the phase test is log 48. -/
def lateScenario (s : State) : State :=
  match s.live with
  | none => s
  | some l =>
    if l.scenario = .none ∧ s.tables.geometryValid = true then
      startTests (phaseTest (carryOut (computeOpenLoop (scenarioTaken (headNumber s)
        { lookedUp s with locked := l.locked, lockTimer := l.lockTimer } true l.locked s))))
    else s

/-- R87, R89, R108 to R111: a new head with number `n` and no saved plan. That its saturation flag starts clear is log 17. -/
def freshHead (n : Nat) (s : State) : State :=
  let at0 := s.params.lockTime = 0
  let u := { s with plan := { s.plan with demand := 0, saturated := false } }
  let found := if s.tables.geometryValid = true then lookedUp u else noScenario
  let l : Live := { found with
    locked := decide at0
    lockTimer := if at0 then none else some (s.params.lockTime * 1000) }
  let v := scenarioTaken n l (decide (l.scenario = .fallback)) (decide at0 && s.tables.geometryValid) u
  let w := if l.scenario = .none then v else computeOpenLoop v
  entersPhase n (if l.startDelay = 0 then .staging else .delay)
    { w with incidents := { w.incidents with
      phaseTimer := if l.startDelay = 0 then none else some (l.startDelay * 1000) } }

/-- R87, R109, R115, R137: a new head with number `n` and a saved plan: on scenario none it is looked up once the geometry set
is VALID; a locked plan is read again; an unlocked one is looked up, and only another scenario takes its place. Where the
record of a plan that is read again fails a check, and where an unlocked plan cannot be looked up, log 29 holds. -/
def restoredHead (n : Nat) (p : SavedPlan) (s : State) : State :=
  let u := { s with plan := { s.plan with demand := p.demand, saturated := p.saturated } }
  let taken := fun (l : Live) (announced locks : Bool) =>
    scenarioTaken n { l with locked := p.locked, lockTimer := p.lockTimer } announced locks u
  let found := lookedUp u
  let v :=
    if p.scenario = .none then
      if s.tables.geometryValid = true then computeOpenLoop (taken found true p.locked) else taken noScenario false false
    else if p.locked = true ∨ s.tables.geometryValid = false then taken (rereadLive p u) false false
    else if found.scenario = p.scenario then
      taken (if p.scenario = .fallback then fallbackLive u (p.dir.getD s.params.defaultDir) found.cause found.under
        else { found with dir := p.dir }) false false
    else computeOpenLoop (taken found true false)
  entersPhase n .staging v

/-- R86: the first incident of the list becomes HEAD in place of the one with number `old`, which is SUSPENDED with its live
plan where it is still listed; HEAD CHANGED carries both numbers, and the activation of R87 follows. -/
def headChanges (old : Nat) (s : State) : State :=
  match s.incidents.list with
  | [] => s
  | i :: rest =>
    let plan : Option SavedPlan := s.live.map fun l =>
      { scenario := l.scenario
        dir := l.dir
        cause := l.cause
        under := l.under
        locked := l.locked
        lockTimer := l.lockTimer
        demand := s.plan.demand
        saturated := s.plan.saturated }
    let suspended := fun j : Incident =>
      if j.state = .head then { j with state := .suspended, saved := plan, phase := none } else j
    let t := told [0x0B, byte i.number, byte old] { s with
      incidents := { s.incidents with
        list := { i with state := .head, saved := none } :: rest.map suspended
        phaseTimer := none }
      plan := { s.plan with trim := none } }
    match i.saved with
    | none => freshHead i.number t
    | some p => restoredHead i.number p t

/-- R85: an incident whose severity rose moves ahead of another: of lower severity, or of the same and listed later. -/
def movesAhead (n j : Incident) : Bool :=
  decide (j.severity < n.severity) ||
    (decide (j.severity = n.severity) &&
      (decide (n.listedAt < j.listedAt) || (decide (n.listedAt = j.listedAt) && decide (n.serial < j.serial))))

/-- R85: the list once the record of an incident has changed from `i` to `n`: in its place, or, where the severity rose,
ahead of the first of the others that it moves ahead of. -/
def listAfter (i n : Incident) (l : List Incident) : List Incident :=
  let others := l.filter fun j => decide (j.number ≠ i.number)
  if i.severity < n.severity then
    others.takeWhile (fun j => !movesAhead n j) ++ n :: others.dropWhile (fun j => !movesAhead n j)
  else l.map fun j => if j.number = i.number then n else j

/-- R71, R75, R79, R85: the record of a listed incident changes from `i` to `n`, with one INCIDENT MERGED notice of a
cause carrying the incident as it stands after the re-sort. What the head hands on (R88) and a head change (R86) follow;
that the notice comes ahead of both is the model's (log 16), and so is the order of the two hand-overs (log 40). -/
def afterMerge (cause : Nat) (i n : Incident) (s : State) : State :=
  let l := listAfter i n s.incidents.list
  let notified := told ([0x05, byte i.number, byte cause, byte n.severity] ++ be16 n.chainage ++
      [byte (chSourceCode n.source), byte n.zone, byte (positionOf l i.number)])
    { s with incidents := { s.incidents with list := l } }
  match i.state with
  | .head =>
    let moved := if i.chainage = n.chainage then notified else chainageChanged notified
    if i.train = n.train then moved else tableChanged moved
  | .suspended => if l.head? = some n then headChanges (headNumber s) notified else notified

/-- R84: the first number from the next number on that no listed incident holds. -/
def takesNumber (s : State) (k : Nat) : Prop :=
  let after := fun m => Nat.iterate (fun n : Nat => if n < 255 then n + 1 else 1) m s.incidents.nextNumber
  ∃ m ≤ 4, k = after m ∧ (∀ i ∈ s.incidents.list, i.number ≠ k) ∧ ∀ j < m, ∃ i ∈ s.incidents.list, i.number = after j

/-- R80 to R84, R86: `v` is the state once a new incident is listed in a list with room: behind every incident of equal
or higher severity, with its INCIDENT LISTED notice, the head change when it enters first, what the Authority Controller
does when the list was empty (R174), and the candidates near it absorbed. That the head change comes ahead of the word to
the Authority Controller is log 22, and that the candidates are absorbed last and in slot order log 16. -/
def listsNew (p : Proposal) (s v : State) : Prop :=
  ∃ k, takesNumber s k ∧
    let j : Incident :=
      { number := k
        chainage := p.chainage
        source := p.source
        zone := zoneOf s.tables p.chainage
        severity := p.severity
        origin := p.origin
        train := p.train
        listedAt := s.clock
        serial := s.incidents.listings
        state := .suspended
        saved := none
        phase := none }
    let ahead := s.incidents.list.takeWhile fun i => decide (p.severity ≤ i.severity)
    let l := ahead ++ j :: s.incidents.list.dropWhile fun i => decide (p.severity ≤ i.severity)
    let notified := told ([0x04, byte k, byte p.severity, byte (originCode p.origin)] ++ be16 p.chainage ++
        [byte (chSourceCode p.source), byte j.zone, byte ahead.length] ++
        match p.train with
        | none => byte 0 :: be16 0
        | some n => byte 1 :: be16 n)
      { s with incidents := { s.incidents with
        list := l
        nextNumber := if k < 255 then k + 1 else 1
        listings := s.incidents.listings + 1 } }
    let led := if ahead = [] then headChanges (headNumber s) notified else notified
    v = absorb k p.chainage (if s.incidents.list = [] then authorityAtListing led else led)

/-- R83: the last incident is removed with its INCIDENT DROPPED notice. -/
def dropped (front : List Incident) (last : Incident) (s : State) : State :=
  told ([0x06, byte last.number, byte last.severity] ++ be16 last.chainage)
    { s with incidents := { s.incidents with list := front } }

/-- R83: a new incident that a full list refuses, with its INCIDENT REFUSED notice. -/
def refusedBy (p : Proposal) (s : State) : State :=
  told ([0x07, 0x00, byte p.severity, byte (originCode p.origin)] ++ be16 p.chainage) s

/-- R75, R80, R84: an incident `j` of these values stands in the list of `t`, whose other incidents are those of `s` by
number and order; the next number is the one after its own, and no candidate stands near it. -/
def newlyListed (p : Proposal) (s t : State) (j : Incident) : Prop :=
  j ∈ t.incidents.list ∧ j.chainage = p.chainage ∧ j.source = p.source ∧ j.zone = zoneOf s.tables p.chainage ∧
    j.severity = p.severity ∧ j.origin = p.origin ∧ j.train = p.train ∧ j.listedAt = s.clock ∧
    (t.incidents.list.filter fun i => decide (i.number ≠ j.number)).map Incident.number =
      s.incidents.list.map Incident.number ∧
    takesNumber s j.number ∧ t.incidents.nextNumber = (if j.number < 255 then j.number + 1 else 1) ∧
    ∀ c : Candidate, some c ∈ t.incidents.candidates → s.params.mergeDistance < Sys2Proof.dist c.chainage p.chainage

/-- R86: where the incident of a number is of higher severity than the head, the head is suspended with its live plan and
the incident is HEAD without a saved plan. That the saved plan keeps the cause and what the scenario was chosen under is
log 29. -/
def suspendsHead (s t : State) (number severity : Nat) : Prop :=
  ∀ i rest l, s.incidents.list = i :: rest → s.live = some l → i.severity < severity → i.number ≠ number →
    { i with
      state := .suspended
      phase := none
      saved := some
        { scenario := l.scenario
          dir := l.dir
          cause := l.cause
          under := l.under
          locked := l.locked
          lockTimer := l.lockTimer
          demand := s.plan.demand
          saturated := s.plan.saturated } } ∈ t.incidents.list ∧
    ∃ h rest', t.incidents.list = h :: rest' ∧ h.number = number ∧ h.state = .head ∧ h.saved = none

/-- R175, R177, R185: what entry into AUTONOMOUS leaves. In dry run the state alone changes. Out of it AUTH is asserted,
the hold remaining and the last hold time are set, and, OUT being busy, the control centre's fan commands have left the
forward queue, each counted. -/
def authorityHeld (s t : State) : Prop :=
  t.auth.state = .autonomous ∧
    (s.auth.dryRun = true → t.auth = { s.auth with state := .autonomous } ∧ t.outs.auth = false) ∧
    (s.auth.dryRun = false →
      (s.chip.inReset = false → t.outs.auth = true) ∧ t.auth.holdRemaining = t.params.holdTime * 1000 ∧
      t.auth.lastHold = some s.clock ∧
      ∀ x, s.port.out = some x →
        t.port.forward = s.port.forward.filter (fun b => !manualWaits t.tables b) ∧
        (s.auth.intercepted ≤ 255 →
          t.auth.intercepted = min 255 (s.auth.intercepted + s.port.forward.countP (manualWaits t.tables))))

/-- R175 step 2: out of dry run, and OUT being busy, the hold with the number `n` of the head stands next behind the
commands that waited, while fewer than 16 did. -/
def holdFollows (n : Nat) (s t : State) : Prop :=
  s.auth.dryRun = false → ∀ x, s.port.out = some x → s.port.commands.length < 16 →
    s.port.commands ++ [report (noticeDest t) 0x48 [byte t.params.holdTime, byte n]] <+: t.port.commands

/-- R146, R147: the Fan Sequencer is not in command, and every fan is HANDS_OFF. -/
def fansIdle (s : State) : Prop := s.fans.inCommand = false ∧ ∀ r ∈ s.fans.recs, r.state = .handsOff

/-- R109, R146, R174, R175: what the first listing, of the incident with number `n`, leaves of authority. From MONITOR
authority is AUTONOMOUS, and the part is in command where the geometry set is VALID, since the head then holds a scenario.
In every other state authority stands; while the geometry set is not VALID the head is on scenario none. The AUTHORITY notice
is among the reports where OUT is busy and there is room for all that the listing offers. -/
def firstListing (n : Nat) (s t : State) : Prop :=
  s.incidents.list = [] →
    let tells := fun (new old : Byte) => fansIdle s → ∀ x, s.port.out = some x →
      s.port.commands.length + s.port.reports.length < 6 →
      report (noticeDest s) 0x49 [0x15, byte n, new, old] ∈ t.port.reports
    (s.auth.state = .monitor → authorityHeld s t ∧ (fansIdle s → holdFollows n s t) ∧
      t.fans.inCommand = s.tables.geometryValid ∧ (s.auth.dryRun = true → tells 3 2)) ∧
    (s.auth.state ≠ .monitor → t.auth = s.auth) ∧
    (s.auth.state = .unconfigured → tells 1 1) ∧
    (s.tables.geometryValid = false → ∃ m, t.live = some m ∧ m.scenario = .none)

/-! ## What the statements about tables say -/

/-- A number lies between two bounds. -/
def lies (lo hi n : Nat) : Prop := lo ≤ n ∧ n ≤ hi

/-- R189, R206: the fields of a record of a table lie in their ranges, at their byte offsets. A flag, direction or sign byte
is 0 or 1; zones and groups list no range; of bytes 4 to 10 of a station entry those that its role uses are tested. -/
def fieldsInRange (id : TableId) (index : Nat) (p : List Byte) : Prop :=
  let one := fun i lo hi => lies lo hi (at8 p i)
  let two := fun i lo hi => lies lo hi (at16 p i)
  match id with
  | .global =>
    if index = 0 then
      two 0 0x0001 0x7FFF ∧ two 2 1000 65535 ∧ two 4 0 4095 ∧ one 6 0 255 ∧ one 7 0 100 ∧ two 8 0 1000 ∧ one 10 10 120 ∧
        one 11 1 8 ∧ one 12 0 30 ∧ one 13 5 120 ∧ one 14 0 120 ∧ one 15 1 3 ∧ one 16 1 3 ∧ one 17 1 6 ∧
        one 18 5 120 ∧ one 19 1 119 ∧ one 20 0 1 ∧ one 21 0 1
    else
      two 0 0 2000 ∧ two 2 10 300 ∧ one 4 0 1 ∧ two 5 0 20000 ∧ (two 7 0 1200 ∨ two 7 (65536 - 40) 65535) ∧
        two 9 0 1000 ∧ two 11 0 600 ∧ two 13 50 1000 ∧ two 15 0 4000 ∧ two 17 0 2000 ∧ one 19 10 100 ∧
        two 20 0x8000 0xFFFF
  | .zones => True
  | .stations =>
    one 0 0 1 ∧ one 3 0 6 ∧ (at8 p 3 ≤ 2 → one 6 0 31) ∧ (at8 p 3 = 0 → one 7 0 1 ∧ one 8 0 1) ∧
      (at8 p 3 = 3 → one 7 0 1 ∧ two 9 1 65535)
  | .fans => one 2 0 23 ∧ one 3 0 1 ∧ two 4 10 1000 ∧ two 6 10 1000 ∧ one 8 0 1
  | .groups => True
  | .hash => one 0 0 1
  | .directory => one 0 0 127 ∧ (at8 p 1 = 1 ∨ at8 p 1 = 2 ∨ at8 p 1 = 4)
  | .scenarios =>
    one 0 0 3 ∧ two 1 50 1000 ∧ two 3 0 4000 ∧ two 5 0 2000 ∧ one 7 10 100 ∧ one 8 0 120 ∧ at8 p 9 ≠ 0xFF ∧
      ∀ k < 16, (∀ j ≤ k, at8 p (9 + j) ≠ 0xFF) → at8 p (9 + k) ≤ 23

/-- R196: the record `i` of a table closed with the count `n` fails a check that names it. A check against another table
is made while that table is VALID (R197). Which of the records a check compares it names is log 15's. -/
def recordFails (t : TableStore) (id : TableId) (n i : Nat) : Prop :=
  let bare := (t.get id).written[i]? ≠ some true
  let zone := fun z => at16 (t.zones.fields z)
  let inUse := fun k => at8 (t.stations.fields k) 0 = 1
  let role := fun k => at8 (t.stations.fields k) 3
  let address := fun k => at16 (t.stations.fields k) 1
  let beyond := fun L k => inUse k ∧ role k ≤ 3 ∧ L < at16 (t.stations.fields k) 4
  let drive := fun f => at16 (t.fans.fields f) 0
  let group := fun f => at8 (t.fans.fields f) 2
  match id with
  | .global =>
    let part0 := t.global.fields 0
    let L := at16 part0 2
    i = 0 ∧ (bare ∨ at8 part0 18 ≤ at8 part0 19 ∨
      (t.zones.validity = .valid ∧ zone (t.zones.count - 1) 2 ≠ L) ∨
      (t.stations.validity = .valid ∧ ∃ k < t.stations.count, beyond L k) ∨
      (t.groups.validity = .valid ∧ ∃ g < t.groups.count, L < at16 (t.groups.fields g) 0))
  | .zones => i < n ∧ (bare ∨ (i = 0 ∧ zone 0 0 ≠ 0) ∨ zone i 2 ≤ zone i 0 ∨ (0 < i ∧ zone i 0 ≠ zone (i - 1) 2) ∨
      (t.global.validity = .valid ∧ i + 1 = n ∧ zone i 2 ≠ t.params.L))
  | .stations => i < n ∧ (bare ∨ (∃ k < n, k ≠ i ∧ inUse i ∧ inUse k ∧ address i = address k) ∨
      (t.fans.validity = .valid ∧ ∃ f < t.fans.count, inUse i ∧ address i = drive f) ∨
      (t.global.validity = .valid ∧ beyond t.params.L i) ∨
      (t.zones.validity = .valid ∧ inUse i ∧ role i ≤ 2 ∧ t.zones.count ≤ at8 (t.stations.fields i) 6))
  | .fans => i < n ∧ (bare ∨ (t.groups.validity = .valid ∧ t.groups.count ≤ group i) ∨
      (t.stations.validity = .valid ∧ ∃ k < t.stations.count, inUse k ∧ address k = drive i))
  | .groups => i < n ∧ (bare ∨ (t.global.validity = .valid ∧ t.params.L < at16 (t.groups.fields i) 0) ∨
      (t.fans.validity = .valid ∧
        ¬ lies 1 3 ((List.range t.fans.count).filter fun f => decide (group f = i)).length))
  | .hash => False
  | .directory => i < n ∧ (bare ∨
      t.scenarios.count < at8 (t.directory.fields i) 0 + at8 (t.directory.fields i) 1)
  | .scenarios => i < n ∧ (bare ∨ ¬ (scenGroups (t.scenarios.fields i)).Nodup ∨
      ∃ g ∈ scenGroups (t.scenarios.fields i), t.groups.count ≤ g)

/-- R196, R197: a check of a table closed with the count `n` fails at a record of another table, and so names none of the
closed table (log 15). -/
def otherFails (t : TableStore) (id : TableId) (n : Nat) : Prop :=
  match id with
  | .zones => t.stations.validity = .valid ∧ ∃ k < t.stations.count,
      at8 (t.stations.fields k) 0 = 1 ∧ at8 (t.stations.fields k) 3 ≤ 2 ∧ n ≤ at8 (t.stations.fields k) 6
  | .fans => t.groups.validity = .valid ∧ ∃ g < t.groups.count,
      ¬ lies 1 3 ((List.range n).filter fun f => decide (at8 (t.fans.fields f) 2 = g)).length
  | .groups => t.fans.validity = .valid ∧ ∃ f < t.fans.count, n ≤ at8 (t.fans.fields f) 2
  | .scenarios => t.directory.validity = .valid ∧ ∃ z < t.directory.count,
      n < at8 (t.directory.fields z) 0 + at8 (t.directory.fields z) 1
  | _ => False

/-- R196, R197: the count a table is closed with lies in its range, and the table that must be VALID first is. The global
parameter table and the group hash read no count. -/
def mayClose (t : TableStore) (id : TableId) (n : Nat) : Prop :=
  match id with
  | .global => True
  | .zones => lies 1 32 n
  | .stations => lies 1 64 n
  | .fans => lies 1 48 n
  | .groups => lies 1 24 n
  | .hash => True
  | .directory => lies 1 32 n ∧ t.scenarios.validity = .valid
  | .scenarios => lies 1 128 n ∧ t.groups.validity = .valid

/-! ## Ranges and orders -/

/-- Every counter, queue and number of the Ring Port lies in its range (R9, R10, R11, R15). -/
def portInRange (p : Port) : Bool :=
  decide (p.forward.length ≤ 8) && decide (insertCount p ≤ 16) && decide (p.sequence ≤ 255) &&
    decide (p.counters.good ≤ 9999) && decide (p.counters.bad ≤ 255) && decide (p.counters.forwardOverrun ≤ 255) &&
    decide (p.counters.reportDrop ≤ 255) && decide (p.counters.commandDrop ≤ 255) &&
    decide (p.counters.unknownSource ≤ 255) && decide (p.counters.roleMismatch ≤ 255)

/-- Severity falls or stays along the list (R82). -/
def severityFalls : List Incident → Bool
  | [] => true
  | i :: rest => (rest.all fun j => decide (j.severity ≤ i.severity)) && severityFalls rest

/-- No two incidents share a number (R82). -/
def numbersDiffer : List Incident → Bool
  | [] => true
  | i :: rest => (rest.all fun j => decide (j.number ≠ i.number)) && numbersDiffer rest

/-- The first incident is HEAD and every other SUSPENDED (R81, R82). -/
def headFirst : List Incident → Bool
  | [] => true
  | i :: rest => decide (i.state = .head) && rest.all fun j => decide (j.state = .suspended)

/-- The incident list as R82 keeps it. -/
def listInOrder (l : List Incident) : Bool :=
  decide (l.length ≤ 4) && severityFalls l && numbersDiffer l && headFirst l

/-- R82: no two incidents were listed as the same one, and of two of equal severity the one listed earlier comes first; of two
listed at the same reading, the one that was listed first. -/
def inTurn : List Incident → Bool
  | [] => true
  | i :: rest => (rest.all fun j => decide (j.serial ≠ i.serial) &&
      (decide (j.severity ≠ i.severity) || decide (i.listedAt < j.listedAt) ||
        (decide (i.listedAt = j.listedAt) && decide (i.serial < j.serial)))) && inTurn rest

/-- R82: the incident list is in turn, and every listing lies behind it: no listing time is ahead of the time base, and no
incident bears the place that the next listing takes. -/
def listedInTurn (s : State) : Bool :=
  inTurn s.incidents.list &&
    s.incidents.list.all fun i => decide (i.listedAt ≤ s.clock) && decide (i.serial < s.incidents.listings)

/-- The demand of the head plan and of every saved plan lies in its range (R142). -/
def demandInRange (s : State) : Bool :=
  decide (s.plan.demand ≤ 65535) &&
    s.incidents.list.all fun i => match i.saved with
      | none => true
      | some p => decide (p.demand ≤ 65535)

/-- A FAN COMMAND of the part waits in the insert queue. -/
def fanCommandWaits (s : State) : Bool := s.port.commands.any fun q => q.kind == kindFanCommand

/-- R146, R148, R171: a FAN COMMAND waits only in command and out of dry run, the Fan Sequencer is in command only in
AUTONOMOUS, and authority is AUTONOMOUS or RELEASED only while an incident is listed. -/
def commandUnderAuthority (s : State) : Bool :=
  (!fanCommandWaits s || (s.fans.inCommand && !s.auth.dryRun)) &&
    (!s.fans.inCommand || decide (s.auth.state = .autonomous)) &&
    (!(decide (s.auth.state = .autonomous) || decide (s.auth.state = .released)) || incidentListed s)

/-- R185, R186: the outputs follow their conditions. -/
def outputsFollow (s : State) : Bool := decide (s.outs = outputsOf s)

end Sys2Proof.Machine
end

