-- ==== Sys2Proof/Certificates/Slice0/Obligations.lean ====
section
/-!
DEFINITION. The statements for the provers. A next state is named by what it holds; the operations `offerReport`,
`offerCommand` (R11, R12), `takeEvent` (R71 to R75) and the record reads of Machine/Tables.lean are used as the model's
words for them. `serving s` says that the part takes dispatches and that no SOFT RESET or test frame waits.
-/

open Sys2Proof Sys2Proof.Machine

/-! ## The step -/

/-- A step takes the command at the front of the queue and runs it with the queue's rest. -/
def Obligations.StepTakesTheFront : Prop :=
  ∀ (c : Instr) (rest : List Instr) (s : State), s.pending = c :: rest → step s = exec c { s with pending := rest }

/-- Every command, in every state, ends in a next state, and leaves the queue to the step (log 1, log 26). -/
def Obligations.EveryCommandCompletes : Prop :=
  ∀ (c : Instr) (s : State), ∃ t, exec c s = .next t ∧ t.pending = s.pending

/-- An idle step (log 1). A dispatched frame that waits gives its command to the queue, the oldest first. Else the timed
events that have fallen due enter the queue together: the silence limit (R17), the strip-set time (R6), the age of a
status (R144) and of a train record (R59), a candidate's deadline (R76), the phase, lock and trim timers (R89, R110, R132),
the waits of the exchanges and the silence re-send (R151, R165), start spacing, dwell and start timers (R154, R159, R160),
the hold refresh (R181), the STORE's limit (R204), and the timers of the continuity test (R209); IN SILENT pauses the waits
and the start timers (R165). Their order in one step is log 2's. Else, no reset lasting, one millisecond passes: the time
base counts (R1; its wrap is log 23's), the silence timer, the strip-set time and the time in silence count (log 32), the
hold counts in AUTONOMOUS out of dry run, and each of the timers named, those of saved plans too, but for what IN SILENT
pauses. Nothing else changes. -/
def Obligations.IdleStepCountsOneMillisecond : Prop :=
  ∀ (s : State), s.pending = [] →
    let due := (timedEvents s).filterMap fun e => if e.1 = true then some e.2 else none
    (∀ d rest c, s.dispatched = d :: rest → d.command = some c → step s = .next { s with pending := [c] }) ∧
    (s.dispatched = [] → due ≠ [] → step s = .next { s with pending := due }) ∧
    (s.dispatched = [] → due = [] → s.chip.inReset = true → step s = .next s) ∧
    (s.dispatched = [] → due = [] → s.chip.inReset = false → ∃ t, step s = .next t ∧
      t.clock = (s.clock + 1) % 2 ^ 48 ∧
      t.port = { s.port with
        silence := min 500 (s.port.silence + 1)
        silentFor := if s.port.inSilent = true then s.port.silentFor + 1 else s.port.silentFor
        earlier := s.port.earlier.map fun e => (e.1, e.2 - 1) } ∧
      t.tables = { s.tables with store := match s.tables.store with
        | .idle => .idle
        | .running w left => .running w (left - 1) } ∧
      t.test = { s.test with
        offerIn := s.test.offerIn - 1
        outstanding := s.test.outstanding.map fun o => (o.1, o.2 - 1) } ∧
      t.auth = { s.auth with holdRemaining :=
        if s.auth.state = .autonomous ∧ s.auth.dryRun = false then s.auth.holdRemaining - 1
        else s.auth.holdRemaining } ∧
      t.plan = { s.plan with trim := s.plan.trim.map (· - 1) } ∧
      t.incidents.phaseTimer = s.incidents.phaseTimer.map (· - 1) ∧
      t.live = s.live.map (fun l => { l with lockTimer := l.lockTimer.map (· - 1) }) ∧
      (∀ (k : Nat) (i : Incident), s.incidents.list[k]? = some i →
        t.incidents.list[k]? = some { i with
          saved := i.saved.map fun p => { p with lockTimer := p.lockTimer.map (· - 1) } }) ∧
      t.fans.spacing = s.fans.spacing.map (· - 1) ∧
      (∀ (f : Nat) (r : FanRecord), s.fans.recs[f]? = some r →
        ∃ u, t.fans.recs[f]? = some u ∧
          u = { r with dwell := r.dwell.map (· - 1), start := u.start, exchange := u.exchange } ∧
          (s.port.inSilent = true → u.start = r.start ∧ u.exchange = r.exchange) ∧
          (s.port.inSilent = false → u.start = r.start.map (· - 1) ∧
            (r.exchange = .closed → u.exchange = .closed) ∧
            ∀ c n ms, (r.exchange = .opened c n (.ack ms) → u.exchange = .opened c n (.ack (ms - 1))) ∧
              (r.exchange = .opened c n (.resend ms) → u.exchange = .opened c n (.resend (ms - 1))))) ∧
      t = { s with
        clock := t.clock
        port := t.port
        incidents := { s.incidents with list := t.incidents.list, phaseTimer := t.incidents.phaseTimer }
        live := t.live
        plan := t.plan
        fans := { s.fans with recs := t.fans.recs, spacing := t.fans.spacing }
        auth := t.auth
        tables := t.tables
        test := t.test })

/-! ## What every step keeps -/

/-- The stored image's memory keeps its canonical form: addresses rising, within the 32 KiB of section 10.6, no byte
listed that reads as a blank one. -/
def Obligations.EepromKeepsItsForm : Prop :=
  ∀ (s t : State), Memory.wf s.eeprom.cells = true → step s = .next t → Memory.wf t.eeprom.cells = true

/-- R15: "Each counter's range holds at all times"; with it the capacities of the two queues (R9, R11) and the range of
the sequence counter (R10). -/
def Obligations.PortKeepsItsRanges : Prop :=
  ∀ (s t : State), portInRange s.port = true → step s = .next t → portInRange t.port = true

/-- R82: at most 4 incidents, severity falling along the list, no number twice, the first incident HEAD and every other
SUSPENDED; and within equal severity the incidents stand by listing time, earliest first, and of those listed at the same
reading the one listed first comes first. No listing time lies ahead of the time base, up to the reading where the time base
starts again (log 23). -/
def Obligations.IncidentListKeepsItsOrder : Prop :=
  ∀ (s t : State), listInOrder s.incidents.list = true → step s = .next t →
    listInOrder t.incidents.list = true ∧
    (listedInTurn s = true →
      inTurn t.incidents.list = true ∧ (s.clock + 1 < 2 ^ 48 → listedInTurn t = true))

/-- R146, R148, R171: a FAN COMMAND waits only in command and out of dry run, the Fan Sequencer is in command only in
AUTONOMOUS, and authority is AUTONOMOUS or RELEASED only while an incident is listed. -/
def Obligations.FanCommandsWaitOnlyUnderAuthority : Prop :=
  ∀ (s t : State), commandUnderAuthority s = true → step s = .next t → commandUnderAuthority t = true

/-- R142: D lies within 0..65,535 at all times, in the head plan and in every saved plan. -/
def Obligations.DemandKeepsItsRange : Prop :=
  ∀ (s t : State), demandInRange s = true → step s = .next t → demandInRange t = true

/-- R154: "The number of fans in sequencer state STARTING never exceeds S_max", while S_max stands. -/
def Obligations.StartSlotsKeepTheirBound : Prop :=
  ∀ (s t : State), startingCount s ≤ s.params.sMax → step s = .next t → t.params.sMax = s.params.sMax →
    startingCount t ≤ t.params.sMax

/-- R185, R186: after every step INCIDENT is asserted exactly while the incident list is not empty, AUTH while authority is
AUTONOMOUS with the dry-run flag off, and FAULT while authority is UNCONFIGURED, IN SILENT holds, a fan below the fan count
has a failed or lost mark, or the stored-image fault indication is set; none while a reset lasts. -/
def Obligations.OutputsFollowTheirConditions : Prop :=
  ∀ (s t : State), outputsFollow s = true → step s = .next t →
    outputsFollow t = true ∧
    (t.outs.incident = true ↔ t.chip.inReset = false ∧ t.incidents.list ≠ []) ∧
    (t.outs.auth = true ↔ t.chip.inReset = false ∧ t.auth.state = .autonomous ∧ t.auth.dryRun = false) ∧
    (t.outs.fault = true ↔ t.chip.inReset = false ∧
      (t.auth.state = .unconfigured ∨ t.port.inSilent = true ∨
        (∃ (f : Nat) (r : FanRecord), f < t.tables.fans.count ∧ t.fans.recs[f]? = some r ∧
          (r.failed = true ∨ r.lost = true)) ∨ t.tables.imageFault = true))

/-- R116: once the head is locked on a direction, it keeps direction, scenario and lock through every step after which it
is still the head, and on a scenario record its group list. -/
def Obligations.LockedHeadKeepsItsDirection : Prop :=
  ∀ (s t : State) (i j : Incident) (rest rest' : List Incident) (l : Live) (d : Dir),
    listInOrder s.incidents.list = true → s.incidents.list = i :: rest → s.live = some l → l.locked = true →
    l.dir = some d → l.scenario ≠ .none → step s = .next t → t.incidents.list = j :: rest' →
    j.number = i.number →
    ∃ m, t.live = some m ∧ m.dir = some d ∧ m.locked = true ∧ m.scenario = l.scenario ∧
      ∀ n, l.scenario = .record n → m.groups = l.groups

/-! ## Reset -/

/-- The state right after reset, with the values the manual states for it, and it meets what every step keeps. The
straps low and the blank EEPROM are the model's (log 7, log 9). -/
def Obligations.ResetLeavesTheStatedValues : Prop :=
  let s := State.reset
  (s.port.forward = [] ∧ s.port.commands = [] ∧ s.port.reports = [] ∧ s.port.out = none ∧ s.port.mark = .insert ∧
    s.port.sequence = 0 ∧ s.port.ownAddr = 0x7F00 ∧ s.port.earlier = none ∧
    s.port.counters = ⟨0, 0, 0, 0, 0, 0, 0, false⟩ ∧ s.port.silence = 0 ∧ s.port.inSilent = false) ∧
  s.clock = 0 ∧
  s.samples = List.replicate 64 ⟨none, .armed, false, none, false⟩ ∧
  s.trains = List.replicate 8 none ∧
  (s.incidents.candidates = List.replicate 8 none ∧ s.incidents.list = [] ∧ s.incidents.nextNumber = 1 ∧
    s.incidents.phaseTimer = none) ∧
  s.live = none ∧
  s.plan = ⟨0, false, [], 0, none⟩ ∧
  (s.fans.queue = [] ∧ s.fans.spacing = none ∧ s.fans.inCommand = false ∧ s.fans.recs.length = 48 ∧
    ∀ r ∈ s.fans.recs, r.state = .handsOff ∧ r.reported.drive = .unknown ∧ r.reported.takenAt = none ∧
      r.reported.number = 0 ∧ r.reported.injected = false ∧ r.wanted = .stop ∧ r.step = .full ∧ r.fullFails = 0 ∧
      r.halfFails = 0 ∧ r.failed = false ∧ r.lost = false ∧ r.lastIssued = 0 ∧ r.exchange = .closed ∧
      r.dwell = none ∧ r.start = none) ∧
  s.auth = ⟨.starting, 0, none, 0, false⟩ ∧
  (∀ id : TableId, (s.tables.get id).validity = .invalid ∧ (s.tables.get id).count = 0 ∧
    ∀ w ∈ (s.tables.get id).written, w = false) ∧
  s.tables.store = .idle ∧ s.tables.imageFault = false ∧ s.tables.port.mode = .reading ∧
  s.outs = ⟨false, false, false⟩ ∧
  s.pending = [] ∧
  Memory.wf s.eeprom.cells = true ∧ portInRange s.port = true ∧ listInOrder s.incidents.list = true ∧
  listedInTurn s = true ∧
  commandUnderAuthority s = true ∧ demandInRange s = true ∧ startingCount s ≤ s.params.sMax ∧ outputsFollow s = true

/-- Power-on, and the release of RESET_N, end in the post-reset state with ADDR sampled, the EEPROM and the queue kept;
the LOOP strap is sampled at power-on alone, and where it selected the continuity test the first test frame begins at
once (R7, R19, R208, R209). RESET_N asserted holds the part with its outputs deasserted (R19, R185). The straps are
operands of the commands (log 11). -/
def Obligations.ResetCommandsLeaveThePostResetState : Prop :=
  let after := fun (loop : Bool) (addr : BitVec 6) (s t : State) =>
    (loop = false → t = State.afterReset addr false s.pending s.eeprom s.draws) ∧
    (loop = true →
      ∃ bytes, t.port.out = some ⟨bytes, false⟩ ∧
        bytes = frameBytes (0x7F00 + addr.toNat) (0x7F00 + addr.toNat) 0x5A 0
          ([0, 0] ++ (List.range 30).map fun k => byte (k + 2)) ∧
        t.test = ⟨1, 0, 0, 0, [(0, 100)], 1, 10⟩ ∧
        t = { State.afterReset addr true s.pending s.eeprom s.draws with
          tables := { TableStore.reset with port := ⟨.idle, []⟩ }
          port := { Port.reset addr with out := t.port.out, sequence := 1 }
          test := t.test })
  ∀ (loop : Bool) (addr : BitVec 6) (s : State),
    (∃ t, exec (.powerOnReset loop addr) s = .next t ∧ after loop addr s t) ∧
    (s.chip.inReset = true → ∃ t, exec (.resetNRelease addr) s = .next t ∧ after s.chip.testMode addr s t) ∧
    (∃ t, exec .resetN s = .next t ∧
      t = { State.afterReset s.chip.strap s.chip.testMode s.pending s.eeprom s.draws with
        chip := { s.chip with inReset := true, softResetDue := false }
        tables := { TableStore.reset with port := ⟨.idle, []⟩ } } ∧
      t.outs = ⟨false, false, false⟩)

/-! ## The ring -/

/-- R4: a frame is bad by its own bytes alone: it has fewer than 9 of them, its length field exceeds 32, its byte count is not
9 plus its length field, its check differs from the CRC-16 over it, or its source is 0x0000 or lies in 0x8000..0xFFFF. A
bad frame is discarded: the bad-frame counter counts it, and nothing else changes. Every other frame is valid, and is not
counted as bad. -/
def Obligations.BadFrameIsOnlyCounted : Prop :=
  ∀ (bytes : List Byte) (s : State), onRing s = true → s.chip.softResetDue = false →
    let bad := bytes.length < 9 ∨ 32 < at8 bytes 6 ∨ bytes.length ≠ 9 + at8 bytes 6 ∨
      at16 bytes (7 + at8 bytes 6) ≠ crc16 (bytes.take (7 + at8 bytes 6)) ∨
      at16 bytes 2 = 0x0000 ∨ (0x8000 ≤ at16 bytes 2 ∧ at16 bytes 2 ≤ 0xFFFF)
    (bad → exec (.frameReceived bytes) s =
      .next (ended { s with port := { s.port with counters := { s.port.counters with
        bad := min 255 (s.port.counters.bad + 1) } } })) ∧
    (¬ bad → isBad bytes = false ∧ ∃ t, exec (.frameReceived bytes) s = .next t ∧
      (quiet s = true → t.port.counters.bad = s.port.counters.bad ∧ t.port.counters.activity = true ∧
        t.port.silence = 0))

/-- R4, R5, R15: a frame that is not bad is counted good, sets the activity flag, restarts the silence timer and ends IN
SILENT; whatever becomes of it, it touches nothing but the Ring Port, the dispatched frames, and the authority fields an
interception changes. -/
def Obligations.ValidFrameIsCountedAndTouchesTheRingAlone : Prop :=
  ∀ (bytes : List Byte) (s : State), onRing s = true → quiet s = true →
    ¬ (bytes.length < 9 ∨ 32 < at8 bytes 6 ∨ bytes.length ≠ 9 + at8 bytes 6 ∨
      at16 bytes (7 + at8 bytes 6) ≠ crc16 (bytes.take (7 + at8 bytes 6)) ∨
      at16 bytes 2 = 0x0000 ∨ (0x8000 ≤ at16 bytes 2 ∧ at16 bytes 2 ≤ 0xFFFF)) →
    ∃ t, exec (.frameReceived bytes) s = .next t ∧
      t.port.counters.good = (if s.port.counters.good < 9999 then s.port.counters.good + 1 else 0) ∧
      t.port.counters.activity = true ∧
      t.port.counters.bad = s.port.counters.bad ∧
      t.port.silence = 0 ∧ t.port.inSilent = false ∧
      t.port.ownAddr = s.port.ownAddr ∧
      t = { s with
        outs := t.outs
        dispatched := t.dispatched
        port := t.port
        auth := { s.auth with
          holdRemaining := t.auth.holdRemaining
          lastHold := t.auth.lastHold
          intercepted := t.auth.intercepted } }

/-- R6: a valid frame whose source is the own address, or the earlier own address still in the strip set, is stripped: it
is counted and, where it ends IN SILENT, brings a RING RESTORED notice (R18). The earlier address leaves the set when
its 1,000 ms end. -/
def Obligations.StripSetRemovesReturningFrames : Prop :=
  (∀ (bytes : List Byte) (s : State), onRing s = true → quiet s = true → isBad bytes = false →
    (at16 bytes 2 = s.port.ownAddr ∨ ∃ left, s.port.earlier = some (at16 bytes 2, left)) →
    (s.port.inSilent = false → exec (.frameReceived bytes) s = .next (ended (received s))) ∧
    (s.port.inSilent = true → exec (.frameReceived bytes) s =
      .next (ended (offerReport (report (noticeDest s) 0x49 [0x18, byte (headNumber s)]) (received s))))) ∧
  (∀ (s : State) (a : Nat), s.chip.softResetDue = false → s.port.earlier = some (a, 0) →
    exec .stripAddressExpiry s = .next (ended { s with port := { s.port with earlier := none } }))

/-- R8, R9, R13, R32, R33: in STARTING, and while the geometry set is not VALID, a frame that is neither stripped nor
consumed, one addressed to an earlier own address in the strip set among them, is forwarded unexamined: behind the
frames that wait while OUT is busy, dropped and counted when 8 wait, at once when OUT is idle; a frame consumed in
STARTING is removed. A forwarded frame that ends IN SILENT enters its queue together with the RING RESTORED notice,
and an idle OUT is then given to the queue not marked (R14, R18). -/
def Obligations.UnexaminedFramesAreForwarded : Prop :=
  (∀ (bytes : List Byte) (s : State), onRing s = true → quiet s = true → isBad bytes = false →
    s.port.inSilent = true → at16 bytes 2 ≠ s.port.ownAddr → (∀ e, s.port.earlier = some e → e.1 ≠ at16 bytes 2) →
    at16 bytes 0 ≠ s.port.ownAddr →
    s.auth.state = .starting ∨ s.tables.geometryValid = false →
    s.port.out = none → s.port.forward = [] → s.port.commands = [] → s.port.reports = [] →
    let restored := report (noticeDest s) 0x49 [0x18, byte (headNumber s)]
    (s.port.mark = .insert → exec (.frameReceived bytes) s =
      .next (ended { received s with port := { (received s).port with
        out := some ⟨bytes, false⟩
        mark := .forward
        reports := [restored] } })) ∧
    (s.port.mark = .forward → exec (.frameReceived bytes) s =
      .next (ended { received s with port := { (received s).port with
        out := some ⟨frameBytes restored.dest s.port.ownAddr restored.kind s.port.sequence restored.payload, false⟩
        mark := .insert
        sequence := (s.port.sequence + 1) % 256
        forward := [bytes] } }))) ∧
  ∀ (bytes : List Byte) (s : State), onRing s = true → quiet s = true → isBad bytes = false →
    s.port.inSilent = false → at16 bytes 2 ≠ s.port.ownAddr → (∀ e, s.port.earlier = some e → e.1 ≠ at16 bytes 2) →
    (at16 bytes 0 ≠ s.port.ownAddr → s.auth.state = .starting ∨ s.tables.geometryValid = false →
      (∀ x, s.port.out = some x → s.port.forward.length < 8 →
        exec (.frameReceived bytes) s = .next (ended { received s with port := { (received s).port with
          forward := s.port.forward ++ [bytes] } })) ∧
      (8 ≤ s.port.forward.length →
        exec (.frameReceived bytes) s = .next (ended { received s with port := { (received s).port with
          counters := { (received s).port.counters with
            forwardOverrun := min 255 (s.port.counters.forwardOverrun + 1) } } })) ∧
      (s.port.out = none → s.port.forward = [] → s.port.commands = [] → s.port.reports = [] →
        exec (.frameReceived bytes) s = .next (ended { received s with port := { (received s).port with
          out := some ⟨bytes, false⟩, mark := .forward } }))) ∧
    (at16 bytes 0 = s.port.ownAddr → s.auth.state = .starting →
      exec (.frameReceived bytes) s = .next (ended (received s)))

/-- R11, R12: a frame offered while the insert queue holds fewer than 16 enters at the tail of its class; a report
offered to a full queue is discarded and counted; a command offered to a full queue displaces the youngest report, which
is counted, or is itself discarded and counted where 16 commands wait. On an idle OUT with empty queues the frame's
transmission begins at once with the header R10 gives it. No counter is kept in the continuity test (R208). -/
def Obligations.InsertQueueTakesFramesByClass : Prop :=
  ∀ (q : QFrame) (s : State), q.softReset = false →
    let counted := fun (n : Nat) => if s.chip.testMode = true then n else min 255 (n + 1)
    (s.port.commands.length + s.port.reports.length < 16 → ∀ x, s.port.out = some x →
      offerReport q s = { s with port := { s.port with reports := s.port.reports ++ [q] } } ∧
      offerCommand q s = { s with port := { s.port with commands := s.port.commands ++ [q] } }) ∧
    (16 ≤ s.port.commands.length + s.port.reports.length →
      offerReport q s = { s with port := { s.port with counters := { s.port.counters with
        reportDrop := counted s.port.counters.reportDrop } } } ∧
      (∀ (rs : List QFrame) (y : QFrame) (x : TxFrame), s.port.reports = rs ++ [y] → y.softReset = false →
        s.port.out = some x →
        offerCommand q s = { s with port := { s.port with
          reports := rs
          commands := s.port.commands ++ [q]
          counters := { s.port.counters with reportDrop := counted s.port.counters.reportDrop } } }) ∧
      (s.port.reports = [] →
        offerCommand q s = { s with port := { s.port with counters := { s.port.counters with
          commandDrop := counted s.port.counters.commandDrop } } })) ∧
    (q.kind ≠ 0x5A → s.port.out = none → s.port.forward = [] → s.port.commands = [] → s.port.reports = [] →
      offerReport q s = { s with port := { s.port with
        out := some ⟨frameBytes q.dest s.port.ownAddr q.kind s.port.sequence q.payload, false⟩
        mark := .insert
        sequence := (s.port.sequence + 1) % 256 } } ∧
      offerCommand q s = offerReport q s)

/-- R13, R14: the end of a transmission frees OUT, and the arbiter serves the queue that holds frames, or where both do
the one not marked as served last; the insert queue gives its oldest command, else its oldest report (R11), with the
header of R10. After a reset the mark names the insert queue. -/
def Obligations.TransmissionEndServesAQueue : Prop :=
  State.reset.port.mark = .insert ∧
  ∀ (s : State) (x : TxFrame), quiet s = true → s.port.out = some x → x.softReset = false →
    (s.port.forward = [] → s.port.commands = [] → s.port.reports = [] →
      exec .transmissionEnd s = .next (ended { s with port := { s.port with out := none } })) ∧
    (∀ f fs, s.port.forward = f :: fs →
      s.port.mark = .insert ∨ (s.port.commands = [] ∧ s.port.reports = []) →
      exec .transmissionEnd s = .next (ended { s with port := { s.port with
        forward := fs, out := some ⟨f, false⟩, mark := .forward } })) ∧
    (s.port.mark = .forward ∨ s.port.forward = [] →
      (∀ q qs, s.port.commands = q :: qs →
        exec .transmissionEnd s = .next (ended { s with port := { s.port with
          commands := qs
          out := some ⟨frameBytes q.dest s.port.ownAddr q.kind s.port.sequence q.payload, false⟩
          mark := .insert
          sequence := (s.port.sequence + 1) % 256 } })) ∧
      (∀ q qs, s.port.commands = [] → s.port.reports = q :: qs →
        exec .transmissionEnd s = .next (ended { s with port := { s.port with
          reports := qs
          out := some ⟨frameBytes q.dest s.port.ownAddr q.kind s.port.sequence q.payload, false⟩
          mark := .insert
          sequence := (s.port.sequence + 1) % 256 } })))

/-- R17, R18: when the silence timer has reached 500 ms IN SILENT is raised, with a RING SILENT notice in service and
none in the continuity test (R208). -/
def Obligations.SilenceRaisesTheCondition : Prop :=
  ∀ (s : State), s.chip.inReset = false → quiet s = true → s.port.inSilent = false → 500 ≤ s.port.silence →
    let u : State := { s with port := { s.port with inSilent := true, silentFor := 0 } }
    (s.chip.testMode = false → exec .inSilentRaised s =
      .next (ended (offerReport (report (noticeDest s) 0x49 [0x17, byte (headNumber s)]) u))) ∧
    (s.chip.testMode = true → exec .inSilentRaised s = .next (ended u))

/-! ## Classification -/

/-- R27, R182: while authority is AUTONOMOUS and dry run is off, a FAN COMMAND from a CONTROL_CENTRE station to a drive of
the fan table is removed and counted, and brings a hold of Hh with the head's number when no hold was offered in the last
1,000 ms. Stated for a busy OUT, where nothing else leaves the queues. -/
def Obligations.ManualCommandIsIntercepted : Prop :=
  ∀ (bytes : List Byte) (s : State) (i f : Nat) (x : TxFrame), serving s = true → isBad bytes = false →
    s.auth.state = .autonomous → s.auth.dryRun = false → s.tables.geometryValid = true →
    s.port.inSilent = false → s.port.out = some x → (∀ e, s.port.earlier = some e → e.1 ≠ at16 bytes 2) →
    at16 bytes 2 ≠ s.port.ownAddr → at16 bytes 0 ≠ s.port.ownAddr →
    at8 bytes 4 = 0x30 → lookupSource s.tables (at16 bytes 2) = .station i .controlCentre →
    f < s.tables.fans.count → fanAddr s.tables f = at16 bytes 0 →
    ∃ t, exec (.frameReceived bytes) s = .next t ∧
      t.port.forward = s.port.forward ∧ t.dispatched = s.dispatched ∧
      t.auth.intercepted = min 255 (s.auth.intercepted + 1) ∧
      ((s.auth.lastHold = none ∨ ∃ h, s.auth.lastHold = some h ∧ h + 1000 ≤ s.clock) →
        t.auth.holdRemaining = s.params.holdTime * 1000 ∧ t.auth.lastHold = some s.clock ∧
        (s.port.commands.length + s.port.reports.length < 16 → t.port.commands = s.port.commands ++
          [report (noticeDest s) 0x48 [byte s.params.holdTime, byte (headNumber s)]])) ∧
      (∀ h, s.auth.lastHold = some h → s.clock < h + 1000 →
        t.auth.holdRemaining = s.auth.holdRemaining ∧ t.auth.lastHold = some h ∧
        t.port.commands = s.port.commands) ∧
      t = { s with outs := t.outs, port := t.port, auth := t.auth }

/-- R22 to R26, R28, R34: a frame of an observation kind. Its source is looked up: the enabled station entry below the
loaded count with its address, else the lowest fan entry with it, else unknown (an entry whose role byte is no listed
code gives unknown, log 42; a flag byte that is neither 0 nor 1 counts as clear, log 44). Its kind matches when it is
the use kind of the role, FAN STATUS for a drive. Its destination is accepted when it is the own address, broadcast,
or a group whose bin is set. The frame is counted as from an unknown source (pass-all on, or the source unknown),
counted as a role mismatch (a known source whose kind does not match, or a form that fails), passed uncounted
(destination not accepted), or dispatched to its block. One addressed to the part is removed; every other, one
addressed to an earlier own address (R8) among them, is forwarded, or counted where 8 wait (R9), stated for a busy
OUT. -/
def Obligations.ObservationIsUsedOrCounted : Prop :=
  ∀ (bytes : List Byte) (l : Lookup) (s : State), serving s = true → isBad bytes = false →
    s.tables.geometryValid = true → s.port.inSilent = false → (∀ e, s.port.earlier = some e → e.1 ≠ at16 bytes 2) →
    at16 bytes 2 ≠ s.port.ownAddr → at8 bytes 4 ∈ [0x10, 0x11, 0x12, 0x13, 0x20, 0x31] →
    at16 bytes 0 = s.port.ownAddr ∨ s.port.out ≠ none →
    let dest := at16 bytes 0
    let kind := at8 bytes 4
    let isStation := fun i => i < s.tables.stations.count ∧ at8 (s.tables.stations.fields i) 0 = 1 ∧
      stationAddr s.tables i = at16 bytes 2
    let isDrive := fun f => f < s.tables.fans.count ∧ fanAddr s.tables f = at16 bytes 2
    let useKinds : Role → Nat := fun r => match r with
      | .anemometer => 0x10 | .opacity => 0x11 | .temperature => 0x12 | .heatLine => 0x13 | .trainGateway => 0x20
      | .controlCentre => 0 | .terminal => 0
    (∃ i r, isStation i ∧ (∀ j < i, ¬ isStation j) ∧ stationRole s.tables i = some r ∧ l = .station i r) ∨
      (∃ i, isStation i ∧ (∀ j < i, ¬ isStation j) ∧ stationRole s.tables i = none ∧ l = .unknown) ∨
      ((∀ i, ¬ isStation i) ∧ ∃ f, isDrive f ∧ (∀ g < f, ¬ isDrive g) ∧ l = .drive f) ∨
      ((∀ i, ¬ isStation i) ∧ (∀ f, ¬ isDrive f) ∧ l = .unknown) →
    let use : Option Nat := match l with
      | .station i r => if useKinds r = kind then some i else none
      | .drive f => if kind = 0x31 then some f else none
      | .unknown => none
    let accepted := dest = s.port.ownAddr ∨ dest = 0xFFFF ∨ (0x8000 ≤ dest ∧ dest ≤ 0xFFFE ∧
      at8 (s.tables.hash.fields (crc16 [byte (dest / 256), byte dest] % 64)) 0 = 1)
    let payload := (frameOf bytes).payload
    lookupSource s.tables (at16 bytes 2) = l ∧
    ∃ t, exec (.frameReceived bytes) s = .next t ∧
      (dest = s.port.ownAddr → t.port.forward = s.port.forward ∧
        t.port.counters.forwardOverrun = s.port.counters.forwardOverrun) ∧
      (dest ≠ s.port.ownAddr → s.port.forward.length < 8 → t.port.forward = s.port.forward ++ [bytes] ∧
        t.port.counters.forwardOverrun = s.port.counters.forwardOverrun) ∧
      (dest ≠ s.port.ownAddr → 8 ≤ s.port.forward.length → t.port.forward = s.port.forward ∧
        t.port.counters.forwardOverrun = min 255 (s.port.counters.forwardOverrun + 1)) ∧
      (s.params.passAll = true ∨ l = .unknown →
        t.port.counters.unknownSource = min 255 (s.port.counters.unknownSource + 1) ∧
        t.port.counters.roleMismatch = s.port.counters.roleMismatch ∧ t.dispatched = s.dispatched) ∧
      (s.params.passAll = false → l ≠ .unknown →
        use = none ∨ (accepted ∧ ∃ i, use = some i ∧ observationCommand kind i payload = none) →
        t.port.counters.roleMismatch = min 255 (s.port.counters.roleMismatch + 1) ∧
        t.port.counters.unknownSource = s.port.counters.unknownSource ∧ t.dispatched = s.dispatched) ∧
      (s.params.passAll = false → ∀ i, use = some i → ¬ accepted →
        t.port.counters.roleMismatch = s.port.counters.roleMismatch ∧
        t.port.counters.unknownSource = s.port.counters.unknownSource ∧ t.dispatched = s.dispatched) ∧
      (s.params.passAll = false → ∀ i c, use = some i → accepted → observationCommand kind i payload = some c →
        t.port.counters.roleMismatch = s.port.counters.roleMismatch ∧
        t.port.counters.unknownSource = s.port.counters.unknownSource ∧
        t.dispatched = s.dispatched ++ [⟨frameOf bytes, l, some c⟩]) ∧
      t = { s with
        outs := t.outs
        dispatched := t.dispatched
        port := { (received s).port with
          forward := t.port.forward
          counters := { (received s).port.counters with
            forwardOverrun := t.port.counters.forwardOverrun
            unknownSource := t.port.counters.unknownSource
            roleMismatch := t.port.counters.roleMismatch } } }

/-- R29, R30, R33, R34, R191: with the geometry set VALID, a MANAGEMENT REQUEST addressed to the part is dispatched with its
source lookup, whatever its source; one shorter than 4 bytes is counted as a role mismatch and dispatched marked malformed. A
request so marked, or with a code 0 or above 11, is answered BAD_VALUE in its turn, or NOT_PERMITTED by its source (its
missing bytes read 0, log 5). A well formed frame of the four control-centre kinds is dispatched when it comes from a
CONTROL_CENTRE station, and counted once as a role mismatch otherwise. A frame of any other kind but the observation kinds
is removed, and counted as from an unknown source with pass-all on alone (R34; log 43). While the geometry set is not VALID
a request is dispatched with the lookup unknown, and every other frame addressed to the part is removed uncounted. A
dispatch carries the frame and the lookup. A frame addressed elsewhere, an earlier own address among them (R8), that is of no
observation kind and is not intercepted is forwarded or dropped for want of room, and counted with pass-all on but for the
control-centre kinds (log 43). -/
def Obligations.ConsumedFramesAreDispatched : Prop :=
  (∀ (f : Frame) (l : Lookup) (rest : List Dispatch) (s : State), serving s = true → s.pending = [] →
    s.dispatched = ⟨f, l, none⟩ :: rest →
    let code := at8 f.payload 0
    let table := if 1 ≤ code ∧ code ≤ 4 then at8 f.payload 1 else 0
    let index := if code = 2 ∨ code = 4 then at16 f.payload 2 else 0
    ∃ status, step s = .next (ended (offerReport
        (report f.source 0x51 ([byte f.sequence, byte code] ++ be16 status ++ [byte table] ++ be16 index))
        { s with dispatched := rest })) ∧
      (s.tables.geometryValid = true → (∀ i, l ≠ .station i .terminal) → status = 5) ∧
      (s.tables.geometryValid = false ∨ (∃ i, l = .station i .terminal) → status = 3)) ∧
  (∀ (bytes : List Byte) (x : TxFrame) (s : State), serving s = true → isBad bytes = false →
    s.port.inSilent = false → (∀ e, s.port.earlier = some e → e.1 ≠ at16 bytes 2) → at16 bytes 2 ≠ s.port.ownAddr →
    at16 bytes 0 ≠ s.port.ownAddr → s.tables.geometryValid = true → s.port.out = some x →
    let kind := at8 bytes 4
    let manual := kind = 0x30 ∧ s.auth.state = .autonomous ∧ s.auth.dryRun = false ∧
      (∃ i, lookupSource s.tables (at16 bytes 2) = .station i .controlCentre) ∧
      ∃ f < s.tables.fans.count, fanAddr s.tables f = at16 bytes 0
    let unknown := if s.params.passAll = true ∧ kind ∉ [0x40, 0x41, 0x42, 0x43]
      then min 255 (s.port.counters.unknownSource + 1) else s.port.counters.unknownSource
    kind ∉ [0x10, 0x11, 0x12, 0x13, 0x20, 0x31] → ¬ manual →
      (s.port.forward.length < 8 → exec (.frameReceived bytes) s = .next (ended { received s with
        port := { (received s).port with
          forward := s.port.forward ++ [bytes]
          counters := { (received s).port.counters with unknownSource := unknown } } })) ∧
      (8 ≤ s.port.forward.length → exec (.frameReceived bytes) s = .next (ended { received s with
        port := { (received s).port with
          counters := { (received s).port.counters with
            unknownSource := unknown
            forwardOverrun := min 255 (s.port.counters.forwardOverrun + 1) } } }))) ∧
  ∀ (bytes : List Byte) (s : State), serving s = true → isBad bytes = false →
    s.port.inSilent = false → (∀ e, s.port.earlier = some e → e.1 ≠ at16 bytes 2) → at16 bytes 2 ≠ s.port.ownAddr →
    at16 bytes 0 = s.port.ownAddr →
    let f := frameOf bytes
    let dispatches := fun (l : Lookup) (c : Option Instr) (n : Nat) =>
      exec (.frameReceived bytes) s = .next (ended { received s with
        dispatched := s.dispatched ++ [⟨f, l, c⟩]
        port := { (received s).port with counters := { (received s).port.counters with roleMismatch := n } } })
    let counts := fun (unknown mismatch : Nat) =>
      exec (.frameReceived bytes) s = .next (ended { received s with port := { (received s).port with
        counters := { (received s).port.counters with unknownSource := unknown, roleMismatch := mismatch } } })
    let unknowns := s.port.counters.unknownSource
    let mismatches := s.port.counters.roleMismatch
    let requests := fun (l : Lookup) =>
      (4 ≤ f.payload.length → dispatches l (requestCommand (at8 f.payload 0)
        ⟨f.source, l, f.sequence, at8 f.payload 1, at16 f.payload 2, f.payload.drop 4⟩) mismatches) ∧
      (f.payload.length < 4 → dispatches l none (min 255 (mismatches + 1)))
    (s.tables.geometryValid = true →
      let l := lookupSource s.tables f.source
      (f.kind = 0x50 → requests l) ∧
      (f.kind ∈ [0x40, 0x41, 0x42, 0x43] →
        (∀ i c, l = .station i .controlCentre → centreCommand f = some c → dispatches l (some c) mismatches) ∧
        ((∀ i, l ≠ .station i .controlCentre) ∨ centreCommand f = none → counts unknowns (min 255 (mismatches + 1)))) ∧
      (f.kind ∉ [0x50, 0x40, 0x41, 0x42, 0x43, 0x10, 0x11, 0x12, 0x13, 0x20, 0x31] →
        (s.params.passAll = false → counts unknowns mismatches) ∧
        (s.params.passAll = true → counts (min 255 (unknowns + 1)) mismatches))) ∧
    (s.tables.geometryValid = false →
      (f.kind = 0x50 → requests .unknown) ∧ (f.kind ≠ 0x50 → counts unknowns mismatches))

/-! ## Samples -/

/-- R38, R39, R52: a velocity sample of an ANEMOMETER station is clamped to -2,000..+2,000, with over-range set where the
clamp changes it, and stands in the station's record; a record that an injection marks stands as it is. -/
def Obligations.VelocitySampleIsTaken : Prop :=
  ∀ (i : Nat) (v : Int) (q : Quality) (r : StationRecord) (s : State), serving s = true →
    stationHasRole s.tables i .anemometer = true → s.samples[i]? = some r →
    let c := Instr.velocitySample i v q
    let x : Sample :=
      { value := some (max (-2000) (min 2000 v))
        quality := q
        overRange := decide (v < -2000 ∨ 2000 < v)
        takenAt := s.clock
        line := none
        alarm := none }
    (r.injected = false → exec c s = .next (ended { taken c s with
      samples := s.samples.set i { r with sample := some x } })) ∧
    (r.injected = true → exec c s = .next (ended (taken c s)))

/-- R38, R39, R41, R42: an opacity or temperature sample is clamped and stands in the record, and the threshold state moves
by the table: a GOOD value at or above the threshold T trips an ARMED station and raises a detector event at the
station's chainage (R46); a GOOD value below the re-arm level re-arms a TRIPPED one; SUSPECT moves nothing. A record that
an injection marks stands as it is (R52). -/
def Obligations.ThresholdSamplesAreTaken : Prop :=
  let next := fun (good : Bool) (old : Threshold) (level rearm x : Int) =>
    if good = false then old
    else match old with
      | .armed => if level ≤ x then Threshold.tripped else .armed
      | .tripped => if x < rearm then Threshold.armed else .tripped
  let result := fun (c : Instr) (kind : EventType) (i : Nat) (q : Quality) (x : Sample) (level rearm : Int)
      (r : StationRecord) (s : State) =>
    let v := x.value.getD 0
    let m : StationRecord := { r with
      sample := some x
      threshold := next (decide (q = .good)) r.threshold level rearm v }
    let u : State := { taken c s with samples := s.samples.set i m }
    if q = .good ∧ r.threshold = .armed ∧ level ≤ v then
      ended (takeEvent
        { kind := kind
          chainage := stationChainage s.tables i
          zone := stationZone s.tables i
          station := some i
          train := none
          stopped := false } u)
    else ended u
  ∀ (i e : Nat) (y : Int) (q : Quality) (r : StationRecord) (s : State), serving s = true →
    s.samples[i]? = some r →
    (r.injected = true →
      (stationHasRole s.tables i .opacity = true →
        exec (.opacitySample i e q) s = .next (ended (taken (.opacitySample i e q) s))) ∧
      (stationHasRole s.tables i .temperature = true →
        exec (.temperatureSample i y q) s = .next (ended (taken (.temperatureSample i y q) s)))) ∧
    (r.injected = false → stationHasRole s.tables i .opacity = true →
      exec (.opacitySample i e q) s = .next (result (.opacitySample i e q) .opacity i q
        ⟨some (min 20000 e), q, decide (20000 < e), s.clock, none, none⟩
        s.params.opacityThreshold
        (s.params.opacityThreshold - s.params.opacityThreshold * 10 / 100) r s)) ∧
    (r.injected = false → stationHasRole s.tables i .temperature = true →
      exec (.temperatureSample i y q) s = .next (result (.temperatureSample i y q) .temperature i q
        ⟨some (max (-40) (min 1200 y)), q, decide (y < -40 ∨ 1200 < y), s.clock, none, none⟩
        s.params.temperatureThreshold (s.params.temperatureThreshold - 5) r s))

/-- R39, R43, R44, R45: a heat-line report. FAULT sets the fault lock; NORMAL clears it and the last event chainage; ALARM
gives the alarm chainage as value, and raises an event there when the lock is clear and it lies 25 m or more from the
last event raised, or none was raised. A record that an injection marks stands as it is (R52). The alarm distance of a
report that is no ALARM is held clamped (log 28). -/
def Obligations.HeatLineReportIsTaken : Prop :=
  ∀ (i : Nat) (a : Option Nat) (r : StationRecord) (s : State), serving s = true →
    stationHasRole s.tables i .heatLine = true → s.samples[i]? = some r →
    (r.injected = true → ∀ line,
      exec (.heatLineReport i line a) s = .next (ended (taken (.heatLineReport i line a) s))) ∧
    (r.injected = false →
    let cable := stationCable s.tables i
    let held := a.map (min cable)
    let d : Int := ((a.map (min cable)).getD (cable / 2) : Nat)
    let x : Nat := (max 0 (min (s.params.L : Int) (stationChainage s.tables i + stationSign s.tables i * d))).toNat
    let cFault := Instr.heatLineReport i .fault a
    let cNormal := Instr.heatLineReport i .normal a
    let cAlarm := Instr.heatLineReport i .alarm a
    let beyond := match a with | none => false | some b => decide (cable < b)
    let holding := fun (c : Instr) (m : StationRecord) => { taken c s with samples := s.samples.set i m }
    exec cFault s = .next (ended (holding cFault
      { r with sample := some ⟨none, .good, false, s.clock, some .fault, held⟩, faultLock := true })) ∧
    exec cNormal s = .next (ended (holding cNormal
      { r with
        sample := some ⟨none, .good, false, s.clock, some .normal, held⟩
        faultLock := false
        lastEvent := none })) ∧
    (r.faultLock = true ∨ (∃ p, r.lastEvent = some p ∧ ((x : Int) - p).natAbs < 25) →
      exec cAlarm s = .next (ended (holding cAlarm
        { r with sample := some ⟨some x, .good, beyond, s.clock, some .alarm, held⟩ }))) ∧
    (r.faultLock = false → (∀ p, r.lastEvent = some p → 25 ≤ ((x : Int) - p).natAbs) →
      exec cAlarm s = .next (ended (takeEvent
        { kind := .heatLine
          chainage := x
          zone := zoneOf s.tables x
          station := some i
          train := none
          stopped := false } (holding cAlarm
        { r with
          sample := some ⟨some x, .good, beyond, s.clock, some .alarm, held⟩
          lastEvent := some x })))))

/-! ## Trains -/

/-- R56 to R58: a report that is no departure updates the slot that holds its train, or takes the lowest FREE slot, or
replaces the record with the earliest taken-at time, the lower slot on a tie; a departure report frees the slot of its
train and changes nothing for a train the table does not hold. A TRAIN_FIRE event at the fire position is raised when the
fire flag rises, or the stopped flag while the fire flag stays set (R60 to R62), and the table-change indication follows
(R65); neither touches another slot or another record. A report for a train whose record an injection marks is not taken
(R66). -/
def Obligations.TrainReportIsTaken : Prop :=
  ∀ (p : TrainReport) (s : State), serving s = true →
    let c := Instr.trainReport p
    (∀ (k : Nat) (r : Train), s.trains[k]? = some (some r) → r.id = p.id → r.injected = true →
      (∀ j < k, ∀ r' : Train, s.trains[j]? = some (some r') → r'.id ≠ p.id) →
      exec c s = .next (ended (taken c s))) ∧
    ((∀ r : Train, some r ∈ s.trains → r.id = p.id → r.injected = false) →
    let leaving := p.leftBore = true ∨ (s.params.L < p.head ∧ s.params.L < p.tail)
    let new : Train := ⟨p.id, p.head, p.tail, p.dir, min p.speed 5000, p.stopped, p.fire, p.offset, s.clock, false⟩
    let middle : Int := match p.offset with
      | some o => max (min p.head p.tail : Nat) (min (max p.head p.tail : Nat)
          ((p.head : Int) - (if p.dir = .towardB then 1 else -1) * (o : Int)))
      | none => ((p.head + p.tail) / 2 : Nat)
    let place := (max 0 (min (s.params.L : Int) middle)).toNat
    let event : Detection :=
      { kind := .trainFire
        chainage := place
        zone := zoneOf s.tables place
        station := none
        train := some p.id
        stopped := p.stopped }
    let becomes := fun (ts : List (Option Train)) (raised : Prop) =>
      (raised → exec c s = .next (ended (tableChanged (takeEvent event { taken c s with trains := ts })))) ∧
      (¬ raised → exec c s = .next (ended (tableChanged { taken c s with trains := ts }))) ∧
      ∃ t, exec c s = .next t ∧ t.trains = ts ∧ planningOnly { taken c s with trains := ts } t
    (¬ leaving → ∀ (k : Nat) (r : Train), s.trains[k]? = some (some r) → r.id = p.id →
      (∀ j < k, ∀ r' : Train, s.trains[j]? = some (some r') → r'.id ≠ p.id) →
      becomes (s.trains.set k (some new))
        (p.fire = true ∧ (r.fire = false ∨ (r.stopped = false ∧ p.stopped = true)))) ∧
    (¬ leaving → (∀ r : Train, some r ∈ s.trains → r.id ≠ p.id) → ∀ k : Nat, s.trains[k]? = some none →
      (∀ j < k, s.trains[j]? ≠ some none) → becomes (s.trains.set k (some new)) (p.fire = true)) ∧
    (¬ leaving → (∀ r : Train, some r ∈ s.trains → r.id ≠ p.id) → none ∉ s.trains →
      ∀ (k : Nat) (r : Train), s.trains[k]? = some (some r) →
      (∀ (j : Nat) (r' : Train), s.trains[j]? = some (some r') → r.takenAt < r'.takenAt ∨ (r.takenAt = r'.takenAt ∧ k ≤ j)) →
      becomes (s.trains.set k (some new)) (p.fire = true)) ∧
    (leaving → ∀ (k : Nat) (r : Train), s.trains[k]? = some (some r) → r.id = p.id →
      (∀ j < k, ∀ r' : Train, s.trains[j]? = some (some r') → r'.id ≠ p.id) →
      becomes (s.trains.set k none) False) ∧
    (leaving → (∀ r : Train, some r ∈ s.trains → r.id ≠ p.id) → exec c s = .next (ended (taken c s))))

/-- R59: a train record whose age reaches 300,001 ms is removed. R76: a candidate whose deadline the time base reaches is
removed with a CANDIDATE DISCARDED notice of cause EXPIRED. -/
def Obligations.OldRecordsAreRemoved : Prop :=
  (∀ (k : Nat) (r : Train) (s : State), quiet s = true → s.trains[k]? = some (some r) →
    r.takenAt + 300001 ≤ s.clock →
    ∃ t, exec (.trainRecordExpiry k) s = .next t ∧ t.trains = s.trains.set k none ∧
      planningOnly { s with trains := s.trains.set k none } t) ∧
  (∀ (k : Nat) (c : Candidate) (s : State), quiet s = true → s.incidents.candidates[k]? = some (some c) →
    c.deadline ≤ s.clock →
    exec (.candidateDeadline k) s = .next (ended (offerReport
      (report (noticeDest s) 0x49 ([0x03, 0x00, byte k] ++ be16 c.chainage ++ [0x01]))
      { s with incidents := { s.incidents with candidates := s.incidents.candidates.set k none } })))

/-- R64: the occupancy class around x lies within 0..3; its bit A is set exactly when a counted train reaches the A side of
x or spans it, and its bit B when one reaches the B side or spans it. The excluded train alone does not count. -/
def Obligations.OccupancyClassTellsTheSides : Prop :=
  ∀ (ts : List (Option Train)) (x : Nat) (excluded : Option Nat),
    let counted := fun (r : Train) => some r ∈ ts ∧ excluded ≠ some r.id
    occupancy ts x excluded ≤ 3 ∧
    (occupancy ts x excluded % 2 = 1 ↔
      ∃ r, counted r ∧ (max r.head r.tail < x ∨ (min r.head r.tail ≤ x ∧ x ≤ max r.head r.tail))) ∧
    (2 ≤ occupancy ts x excluded ↔
      ∃ r, counted r ∧ (x < min r.head r.tail ∨ (min r.head r.tail ≤ x ∧ x ≤ max r.head r.tail)))

/-! ## Incidents -/

/-- R71 to R75: an event within the merge distance of a listed incident corroborates the nearest, the earlier in list
order on a tie: it moves the fire chainage when it ranks higher, gives a train id, or raises an AUTO incident to
severity 3, with one INCIDENT MERGED notice when anything changed, and a raised severity brings the re-sort and the
head change (R85, R86). An event that corroborates none joins the nearest candidate, the lower slot on a tie, or opens
one in the lowest FREE slot, or in that of the earliest candidate, discarded, when none is FREE (R73). The candidate
is confirmed when its source set holds two types, or TRAIN_FIRE with stopped set. With auto-confirm off a CONFIRMED
candidate waits; with it on, one that an event confirms, or joins when CONFIRMED, leaves the table and merges into the
nearest incident within the merge distance of its chainage, or is listed, where the list takes it, or is refused (R75,
R83); the first listing brings authority (R174, R175). The order of handing on is log 40's; the saved plan's cause and
what its scenario was chosen under are log 29's. That INCIDENT MERGED comes ahead of what is handed on, and that
absorption comes last and in slot order, is log 16's; that the head is activated before the Authority Controller is
told is log 22's. The head change, its notices and the activation are those of `headChanges` (that a fresh head's
saturation flag starts clear: log 17). -/
def Obligations.EventJoinsOrOpensACandidate : Prop :=
  (∀ (e : Detection) (k : Nat) (i : Incident) (s : State), quiet s = true → listInOrder s.incidents.list = true →
    s.incidents.list[k]? = some i → isNearest s e.chainage (incidentPlace s) k →
    let moves := rank i.source < rank e.kind.source
    let n : Incident := { i with
      chainage := if moves then e.chainage else i.chainage
      source := if moves then e.kind.source else i.source
      zone := if moves then zoneOf s.tables e.chainage else i.zone
      train := if e.kind = .trainFire ∧ i.train = none then e.train else i.train
      severity := if e.kind = .trainFire ∧ e.stopped = true ∧ i.origin = .auto ∧ i.severity < 3 then 3
        else i.severity }
    let t := takeEvent e s
    (n = i → t = s) ∧
    (n ≠ i → t = afterMerge 0 i n s ∧ planningOnly s t ∧
      t.incidents.list.length = s.incidents.list.length ∧ t.incidents.candidates = s.incidents.candidates ∧
      (∃ j ∈ t.incidents.list, j.number = i.number ∧ j.chainage = n.chainage ∧ j.source = n.source ∧ j.zone = n.zone ∧
        j.train = n.train ∧ j.severity = n.severity ∧ j.origin = i.origin ∧ j.listedAt = i.listedAt) ∧
      suspendsHead s t i.number n.severity)) ∧
  ∀ (e : Detection) (k : Nat) (s : State), noneNear s e.chainage (incidentPlace s) →
    let keep := fun (c : Option Candidate) (u : State) => { u with incidents := { u.incidents with
      candidates := u.incidents.candidates.set k c } }
    let tell := fun (payload : List Byte) (u : State) => offerReport (report (noticeDest s) 0x49 payload) u
    let ends := fun (c : Candidate) (u v : State) =>
      let confirms := c.confirmedAt = none ∧ (2 ≤ c.set.size ∨ (c.set.trainFire = true ∧ c.stopped = true))
      let w := if confirms then
          tell ([0x02, 0x00, byte k] ++ be16 c.chainage ++ [byte (sourceSetCode c.set), byte (flagCode c.stopped)])
            (keep (some { c with confirmedAt := some s.clock }) u)
        else u
      (s.params.autoConfirm = false ∨ (c.confirmedAt = none ∧ ¬ confirms) → v = w) ∧
      (s.params.autoConfirm = true → c.confirmedAt ≠ none ∨ confirms →
        let g := keep none w
        let p : Proposal := ⟨c.chainage, c.source, if c.set.trainFire = true ∧ c.stopped = true then 3 else 2, .auto, c.train⟩
        (∀ (q : Nat) (i : Incident), listInOrder s.incidents.list = true → s.incidents.list[q]? = some i →
          isNearest s c.chainage (incidentPlace s) q →
          let moves := rank i.source < rank c.source
          let n : Incident := { i with
            chainage := if moves then c.chainage else i.chainage
            source := if moves then c.source else i.source
            zone := if moves then zoneOf s.tables c.chainage else i.zone
            train := i.train.or c.train
            severity := max i.severity p.severity }
          v = afterMerge 1 i n g ∧ (quiet s = true → suspendsHead s v i.number n.severity)) ∧
        (noneNear s c.chainage (incidentPlace s) →
          (s.incidents.list.length < 4 →
            (listInOrder s.incidents.list = true → listsNew p g v) ∧ ∃ j, newlyListed p g v j ∧
              firstListing j.number g (ended v) ∧
              (quiet s = true → listInOrder s.incidents.list = true → suspendsHead s v j.number j.severity)) ∧
          (∀ front last, s.incidents.list = front ++ [last] → 4 ≤ s.incidents.list.length →
            (p.severity ≤ last.severity → v = refusedBy p g) ∧
            (last.severity < p.severity → listInOrder s.incidents.list = true →
              listsNew p (dropped front last g) v ∧ ∃ j, newlyListed p (dropped front last g) v j))))
    let opened : Candidate :=
      { chainage := e.chainage
        source := e.kind.source
        set := .single e.kind
        train := if e.kind = .trainFire then e.train else none
        stopped := decide (e.kind = .trainFire) && e.stopped
        createdAt := s.clock
        deadline := s.clock + s.params.confirmWindow * 1000
        confirmedAt := none }
    let opens := fun (u : State) =>
      tell ([0x01, 0x00, byte k] ++ be16 e.chainage ++ [byte (eventCode e.kind)]) (keep (some opened) u)
    (quiet s = true → listInOrder s.incidents.list = true → planningOnly s (takeEvent e s)) ∧
    (∀ c : Candidate, s.incidents.candidates[k]? = some (some c) → isNearest s e.chainage (candidatePlace s) k →
      let moves := rank c.source < rank e.kind.source
      let c' : Candidate :=
        { c with
          set := c.set.insert e.kind
          chainage := if moves then e.chainage else c.chainage
          source := if moves then e.kind.source else c.source
          train := if e.kind = .trainFire then e.train else c.train
          stopped := c.stopped || (decide (e.kind = .trainFire) && e.stopped) }
      ends c' (keep (some c') s) (takeEvent e s)) ∧
    (noneNear s e.chainage (candidatePlace s) →
      (s.incidents.candidates[k]? = some none → (∀ j < k, s.incidents.candidates[j]? ≠ some none) →
        ends opened (opens s) (takeEvent e s)) ∧
      (∀ o : Candidate, none ∉ s.incidents.candidates → s.incidents.candidates[k]? = some (some o) →
        (∀ (j : Nat) (c : Candidate), s.incidents.candidates[j]? = some (some c) →
          o.createdAt < c.createdAt ∨ (o.createdAt = c.createdAt ∧ k ≤ j)) →
        ends opened (opens (tell ([0x03, 0x00, byte k] ++ be16 o.chainage ++ [0x00]) (keep none s))) (takeEvent e s)))

/-- R78, R80, R82, R83, R84: a declaration with a zone beyond the zone table, or without a position, is rejected with its
sequence. The position is its chainage, its zone's middle, the fire position of its train (R63), or the chainage of
the CONFIRMED candidate confirmed last, the first of these at hand; the last also gives its source and, to a
declaration that names no train, its train. One with no listed incident within the merge distance is listed with the
next free number while fewer than 4 are listed, the candidates near it are absorbed and INCIDENT is asserted (R185). The
first listing from MONITOR makes authority AUTONOMOUS (R174, R175): out of dry run AUTH is asserted, a hold of Hh with the
head's number is offered and its time counts from now, and the control centre's waiting fan commands leave the forward queue
(R31, R182); the part comes into command where a scenario is held. In UNCONFIGURED authority stays, with its notice. A
full list refuses one whose severity is not above the last incident's, and for one that is above drops the last, with
its notice, and keeps the others. One within the merge distance of a listed incident merges into the nearest, the
earlier on a tie (R79), and takes over its chainage when it carried one. An incident placed ahead of the head suspends
the head with its live plan saved (R86), and is activated by a fresh lookup (R87). Log 29 settles that the saved plan
keeps the cause and what the scenario was chosen under; the order in which the candidates are absorbed is log 16's,
that of handing on log 40's, and that the head is activated before the Authority Controller is told is log 22's. The
head change, its notices and the activation are those of `headChanges` (that a fresh head's saturation flag starts
clear: log 17). -/
def Obligations.DeclarationIsRejectedListedOrMerged : Prop :=
  ∀ (q : Nat) (d : Declaration) (s : State), serving s = true →
    let c := Instr.incidentDeclare q d
    let severity := if d.severity = 0 then 1 else min d.severity 3
    let place := fun (r : Train) =>
      let middle : Int := match r.offset with
        | some o => max (min r.head r.tail : Nat) (min (max r.head r.tail : Nat)
            ((r.head : Int) - (if r.dir = .towardB then 1 else -1) * (o : Int)))
        | none => ((r.head + r.tail) / 2 : Nat)
      (max 0 (min (s.params.L : Int) middle)).toNat
    (∀ z, d.zone = some z → s.tables.zones.count ≤ z →
      exec c s = .next (ended (offerReport (report (noticeDest s) 0x49 [0x08, 0x00, 0x01, byte q]) (taken c s)))) ∧
    (d.chainage = none → d.zone = none →
      (∀ n, d.train = some n → ∀ r : Train, some r ∈ s.trains → r.id ≠ n) →
      (∀ c' : Candidate, some c' ∈ s.incidents.candidates → c'.confirmedAt = none) →
      exec c s = .next (ended (offerReport (report (noticeDest s) 0x49 [0x08, 0x00, 0x00, byte q]) (taken c s)))) ∧
    (∀ (x : Nat) (source : ChSource) (train : Option Nat),
      (∀ z, d.zone = some z → z < s.tables.zones.count) →
      ((∃ y, d.chainage = some y ∧ x = min y s.params.L ∧ source = .centre ∧ train = none) ∨
        (d.chainage = none ∧ source = .centre ∧ train = none ∧
          ∃ z, d.zone = some z ∧ x = (zoneStart s.tables z + zoneEnd s.tables z) / 2) ∨
        (d.chainage = none ∧ d.zone = none ∧ source = .train ∧ train = none ∧
          ∃ (n k : Nat) (r : Train), d.train = some n ∧ s.trains[k]? = some (some r) ∧ r.id = n ∧
            (∀ j < k, ∀ r' : Train, s.trains[j]? = some (some r') → r'.id ≠ n) ∧ x = place r) ∨
        (d.chainage = none ∧ d.zone = none ∧
          (∀ n, d.train = some n → ∀ r : Train, some r ∈ s.trains → r.id ≠ n) ∧
          ∃ (k at_ : Nat) (b : Candidate), s.incidents.candidates[k]? = some (some b) ∧ b.confirmedAt = some at_ ∧
            (∀ (j u : Nat) (b' : Candidate), s.incidents.candidates[j]? = some (some b') → b'.confirmedAt = some u →
              u < at_ ∨ (u = at_ ∧ k ≤ j)) ∧
            x = b.chainage ∧ source = b.source ∧ train = b.train)) →
      let p : Proposal := ⟨x, source, severity, .centre, d.train.or train⟩
      (noneNear s x (incidentPlace s) →
        (s.incidents.list.length < 4 →
          (listInOrder s.incidents.list = true → ∃ v, listsNew p (taken c s) v ∧ exec c s = .next (ended v)) ∧
          ∃ t j, exec c s = .next t ∧ newlyListed p s t j ∧
            t.incidents.list.length = s.incidents.list.length + 1 ∧
            ((∀ i ∈ s.incidents.list, i.number ≠ s.incidents.nextNumber) → j.number = s.incidents.nextNumber) ∧
            t.outs.incident = true ∧ planningOnly (taken c s) t ∧ firstListing j.number s t ∧
            (listInOrder s.incidents.list = true → suspendsHead s t j.number severity ∧
              ∀ i rest, s.incidents.list = i :: rest → i.severity < severity → s.tables.geometryValid = true →
                ∃ m, t.live = some m ∧
                  m.locked = decide (s.params.lockTime = 0) ∧
                  m.lockTimer = (if s.params.lockTime = 0 then none else some (s.params.lockTime * 1000)) ∧
                  m.under = some (zoneOf s.tables x, occupancy s.trains x p.train) ∧
                  t.plan.demand = min 65535 ((s.params.R * m.vt ^ 2 + 9999) / 10000 + m.P))) ∧
        (∀ front last, s.incidents.list = front ++ [last] → 4 ≤ s.incidents.list.length →
          (severity ≤ last.severity → exec c s = .next (ended (refusedBy p (taken c s)))) ∧
          (last.severity < severity → listInOrder s.incidents.list = true →
            (∃ v, listsNew p (dropped front last (taken c s)) v ∧ exec c s = .next (ended v)) ∧
            ∃ t j, exec c s = .next t ∧ newlyListed p (dropped front last s) t j ∧
              t.incidents.list.length = s.incidents.list.length ∧ suspendsHead s t j.number severity ∧
              planningOnly (taken c s) t))) ∧
      (∀ (k : Nat) (i : Incident), listInOrder s.incidents.list = true → s.incidents.list[k]? = some i →
        isNearest s x (incidentPlace s) k →
        let n : Incident := { i with
          severity := max i.severity severity
          chainage := if d.chainage = none then i.chainage else x
          source := if d.chainage = none then i.source else .centre
          zone := if d.chainage = none then i.zone else zoneOf s.tables x
          train := i.train.or d.train }
        exec c s = .next (ended (absorb i.number n.chainage (afterMerge 2 i n (taken c s)))) ∧
        ∃ t j, exec c s = .next t ∧ j ∈ t.incidents.list ∧
          t.incidents.list.length = s.incidents.list.length ∧
          j.number = i.number ∧ j.severity = n.severity ∧ j.origin = i.origin ∧ j.listedAt = i.listedAt ∧
          j.chainage = n.chainage ∧ j.source = n.source ∧ j.zone = n.zone ∧ j.train = n.train ∧
          suspendsHead s t i.number n.severity ∧ planningOnly (taken c s) t))

/-- R91, R92: a clear of a number no incident holds, or of 0 with an empty list, is rejected with its number. A clear of a
suspended incident removes it alone. A clear of the head makes the next incident HEAD, the others keeping their order:
INCIDENT CLEARED comes first, then HEAD CHANGED with both numbers, then what the activation offers, PHASE behind the
walk and its hand-over (R86, R89, log 16). A locked plan saved with it is restored with its direction, its lock and
its demand (R87, R115); for a saved record that fails a check of R105, D as saved is log 29's. An unlocked one is
looked up again and keeps its demand unless the scenario differs; one on scenario none is looked up once the geometry
set is VALID (R109); one never head before is looked up afresh (its saturation flag starts clear: log 17). A clear
that empties the list offers its INCIDENT CLEARED notices and then HEAD CHANGED (0, last head), drops the plan, clears
the marks and failure counts of every fan, ends command, leaves the candidates and the next number, and settles
authority to MONITOR (R178). -/
def Obligations.ClearRemovesIncidents : Prop :=
  ∀ (n : Nat) (s : State), serving s = true →
    let c := Instr.incidentClear n
    let l := s.incidents.list
    ((n ≠ 0 ∧ ∀ i ∈ l, i.number ≠ n) ∨ (n = 0 ∧ l = []) →
      exec c s = .next (ended (offerReport (report (noticeDest s) 0x49 [0x09, 0x00, byte n]) (taken c s)))) ∧
    (∀ i rest, l = i :: rest → listInOrder l = true → n ≠ 0 → ∀ j ∈ rest, j.number = n →
      let rest' := rest.filter fun j => decide (j.number ≠ n)
      exec c s = .next (ended (offerReport
        (report (noticeDest s) 0x49 [0x0A, byte n, byte (rest'.length + 1)])
        { taken c s with incidents := { s.incidents with list := i :: rest' } }))) ∧
    (∀ i j rest, l = i :: j :: rest → listInOrder l = true → n ≠ 0 → i.number = n →
      exec c s = .next (ended (headChanges n (told [0x0A, byte n, byte (rest.length + 1)]
        { taken c s with incidents := { s.incidents with list := j :: rest } }))) ∧
      ∃ t, exec c s = .next t ∧ t.incidents.list.map Incident.number = (j :: rest).map Incident.number ∧
        headFirst t.incidents.list = true ∧ planningOnly (taken c s) t ∧
        (∀ h ∈ t.incidents.list.head?, h = { j with state := .head, saved := none, phase := h.phase }) ∧
        (∀ p, j.saved = some p → p.locked = true → p.scenario ≠ .none → ∃ m, t.live = some m ∧ m.dir = p.dir.or m.dir ∧
          m.locked = true ∧ m.lockTimer = p.lockTimer ∧ t.plan.demand = p.demand ∧ t.plan.saturated = p.saturated ∧
          (∀ k, p.scenario = .record k → checkRecord s.tables k = none →
            m.scenario = .record k ∧ m.vt = at16 (s.tables.scenarios.fields k) 1 ∧
            m.groups = scenGroups (s.tables.scenarios.fields k))) ∧
        (∀ p, j.saved = some p →
          let found := lookedUp { s with incidents := { s.incidents with list := j :: rest } }
          let keeps := t.plan.demand = p.demand ∧ t.plan.saturated = p.saturated
          ∃ m, t.live = some m ∧ m.locked = p.locked ∧ m.lockTimer = p.lockTimer ∧
            (p.scenario = .none → s.tables.geometryValid = false → m.scenario = .none ∧ keeps) ∧
            (p.scenario = .none ∨ (p.locked = false ∧ found.scenario ≠ p.scenario) → s.tables.geometryValid = true →
              m = Live.withLock found p.locked p.lockTimer ∧
              t.plan.demand = min 65535 ((s.params.R * m.vt ^ 2 + 9999) / 10000 + m.P)) ∧
            (p.scenario ≠ .none → p.locked = false → found.scenario = p.scenario → s.tables.geometryValid = true →
              m.scenario = p.scenario ∧ m.dir = p.dir.or m.dir ∧ m.under = found.under ∧ keeps)) ∧
        (j.saved = none → s.tables.geometryValid = true → ∃ m, t.live = some m ∧
          m.locked = decide (s.params.lockTime = 0) ∧
          m.under = some (zoneOf s.tables j.chainage, occupancy s.trains j.chainage j.train) ∧
          t.plan.demand = min 65535 ((s.params.R * m.vt ^ 2 + 9999) / 10000 + m.P))) ∧
    (l ≠ [] → n = 0 ∨ (n ≠ 0 ∧ ∀ i ∈ l, i.number = n) →
      ∃ t, exec c s = .next t ∧ t.incidents = { s.incidents with list := [], phaseTimer := none } ∧
        t.live = none ∧ t.plan = ⟨0, false, [], 0, none⟩ ∧ t.fans.inCommand = false ∧
        t.fans.recs.length = s.fans.recs.length ∧
        (∀ r ∈ t.fans.recs, r.failed = false ∧ r.lost = false ∧ r.step = .full ∧ r.fullFails = 0 ∧
          r.halfFails = 0 ∧ r.wanted = .stop) ∧
        (s.auth.state = .autonomous → t.auth.state = .monitor ∧ t.auth.holdRemaining = 0) ∧
        (s.auth.state = .released → t.auth.state = .monitor) ∧
        t.outs.incident = false ∧
        (∀ x, s.port.out = some x → s.port.commands.length + s.port.reports.length + l.length + 3 ≤ 16 →
          let notices := fun (bytes : List (List Byte)) => bytes.map (report (noticeDest s) 0x49)
          let cleared := if n = 0 then l.zipIdx.map fun e => [0x0A, byte e.1.number, byte (l.length - 1 - e.2)]
            else [[0x0A, byte n, 0]]
          let settled := if s.auth.state = .autonomous ∨ s.auth.state = .released
            then [[0x15, 0, 2, byte (authCode s.auth.state)]] else []
          t.port.reports = s.port.reports ++ notices (cleared ++ [[0x0B, 0, byte (headNumber s)]] ++ settled)) ∧
        planningOnly (taken c s) t)

/-- R89, R90: when the phase timer expires the head enters STAGING, and at once REGULATING when its selection is settled,
which starts the trim timer (R132). Stated exactly where no fan waits for a start test, with the PHASE notices, which stand
behind the reports that wait while OUT is busy and the queue has room. The phase test (R90), wherever it is made: a head in
STAGING with a settled selection enters REGULATING, one in REGULATING with an unsettled one enters STAGING, each with its
PHASE notice, and the trim starts or stops. -/
def Obligations.PhaseTimerEndsTheDelay : Prop :=
  (∀ (s : State) (i : Incident) (rest : List Incident), s.incidents.list = i :: rest →
    let settled := ∀ f ∈ s.plan.selection, (fanRec s f).state ∈ [.running, .failed, .lost, .unavailable]
    let enters := fun (p : Phase) (code : Byte) (trim : Option Nat) => told [0x0C, byte i.number, code] { s with
      incidents := { s.incidents with list := { i with phase := some p } :: rest }
      plan := { s.plan with trim := trim } }
    (i.phase = some .staging → settled → phaseTest s = enters .regulating 2 (some (s.params.trimInterval * 1000))) ∧
    (i.phase = some .regulating → ¬ settled → phaseTest s = enters .staging 1 none) ∧
    (i.phase = some .staging ∧ ¬ settled ∨ i.phase = some .regulating ∧ settled ∨ i.phase = some .delay →
      phaseTest s = s)) ∧
  ∀ (s : State) (i : Incident) (rest : List Incident), quiet s = true → s.incidents.phaseTimer = some 0 →
    s.incidents.list = i :: rest →
    let settled := ∀ f ∈ s.plan.selection, (fanRec s f).state ∈ [.running, .failed, .lost, .unavailable]
    ∃ t p, exec .phaseTimerExpiry s = .next t ∧
      t.incidents = { s.incidents with list := { i with phase := some p } :: rest, phaseTimer := none } ∧
      (p = .staging ∨ p = .regulating) ∧
      (s.fans.queue = [] ∨ s.fans.inCommand = false →
        (settled → p = .regulating ∧ t.plan = { s.plan with trim := some (s.params.trimInterval * 1000) }) ∧
        (¬ settled → p = .staging ∧ t.plan = s.plan) ∧ t.fans = s.fans ∧
        (∀ x, s.port.out = some x → s.port.commands.length + s.port.reports.length + 2 ≤ 16 →
          let codes : List Byte := if p = .regulating then [1, 2] else [1]
          let notices := codes.map fun code => report (noticeDest s) 0x49 [0x0C, byte i.number, code]
          t.port = { s.port with reports := s.port.reports ++ notices })) ∧
      planningOnly s t

/-! ## Scenario and plan -/

/-- R110: when the lock timer of the head, or of a suspended incident, expires, its locked flag is set, with a DIRECTION
LOCKED notice carrying its number and direction, and none for an incident on scenario none; nothing else changes. -/
def Obligations.LockTimerSetsTheLock : Prop :=
  ∀ (s : State) (i : Incident), quiet s = true → i ∈ s.incidents.list →
    numbersDiffer s.incidents.list = true →
    let c := Instr.lockTimerExpiry i.number
    let tell := fun (d : Dir) (u : State) =>
      offerReport (report (noticeDest s) 0x49 [0x0D, byte i.number, byte (dirCode d)]) u
    (∀ l, i.state = .head → s.live = some l → l.lockTimer = some 0 →
      let u : State := { s with live := some { l with locked := true, lockTimer := none } }
      (∀ d, l.scenario ≠ .none → l.dir = some d → exec c s = .next (ended (tell d u))) ∧
      (l.scenario = .none → exec c s = .next (ended u))) ∧
    (∀ p, i.state = .suspended → i.saved = some p → p.lockTimer = some 0 →
      let j : Incident := { i with saved := some { p with locked := true, lockTimer := none } }
      let u : State := { s with incidents := { s.incidents with
        list := s.incidents.list.map fun x => if x.number = i.number then j else x } }
      (∀ d, p.scenario ≠ .none → p.dir = some d → exec c s = .next (ended (tell d u))) ∧
      (p.scenario = .none → exec c s = .next (ended u)))

/-- R104, R105, R106: a lookup for the head takes the record of the zone of its fire chainage and the variant of the
occupancy class; the first check that fails brings the fallback scenario with its cause, in the direction of the
incident train where the table holds it, else the default direction. R107: its list holds every group once, upstream
groups nearest first, then downstream groups farthest first, equal ones by number. R113, R114: a table-change indication
that finds the class changed, and a scenario set that becomes VALID, bring a re-lookup of an unlocked head; one that gives
the live scenario again records zone and class (and the cause and list of the fallback), and another scenario becomes
live with the lock as it stands, a SCENARIO notice, D computed anew and a fresh walk. A fire chainage that changes
neither zone nor class brings the walk under hysteresis alone. -/
def Obligations.LookupFindsTheVariantOrFallsBack : Prop :=
  ∀ (s : State),
    let t := s.tables
    let z := zoneOf t (headChainage s)
    let k := occupancy s.trains (headChainage s) (headTrain s)
    let falls := fun (e : FallbackCause) =>
      ∃ d, lookedUp s =
          { scenario := .fallback, dir := some d, vt := s.params.fallbackVt, P := s.params.fallbackP,
            H := s.params.fallbackH, h := s.params.fallbackh, startDelay := 0,
            groups := fallbackGroups t d (headChainage s), cause := some e, under := some (z, k),
            locked := false, lockTimer := none } ∧
        ((∀ n r, headTrain s = some n → trainById s.trains n = some r → d = r.dir) ∧
          ((∀ n, headTrain s = some n → trainById s.trains n = none) → d = s.params.defaultDir))
    (t.scenarioValid = false → falls .setNotValid) ∧
    (t.scenarioValid = true → t.directory.count ≤ z → falls .noEntry) ∧
    (t.scenarioValid = true → z < t.directory.count →
      ∀ v, (dirVariants t z = 1 ∧ v = 0) ∨ (dirVariants t z = 2 ∧ v = (if k = 0 then 0 else 1)) ∨
        (dirVariants t z = 4 ∧ v = k) →
      let n := dirBase t z + v
      let r := t.scenarios.fields n
      (t.scenarios.count ≤ n → falls .outOfRange) ∧
      (n < t.scenarios.count → scenValid r = false → falls .recordInvalid) ∧
      (n < t.scenarios.count → scenValid r = true → (∃ g ∈ scenGroups r, t.groups.count ≤ g) → falls .badGroup) ∧
      (n < t.scenarios.count → scenValid r = true → (∀ g ∈ scenGroups r, g < t.groups.count) →
        lookedUp s =
          { scenario := .record n, dir := some (scenDir r), vt := at16 r 1, P := at16 r 3, H := at16 r 5,
            h := at8 r 7, startDelay := at8 r 8, groups := scenGroups r, cause := none, under := some (z, k),
            locked := false, lockTimer := none })) ∧
    (∀ (d : Dir) (x : Nat),
      let w := fun g : Nat => (if d = .towardB then (1 : Int) else -1) * ((groupChainage t g : Int) - x)
      (fallbackGroups t d x).Perm (List.range t.groups.count) ∧
      (fallbackGroups t d x).Pairwise fun a b =>
        (w a < 0 ∧ 0 ≤ w b) ∨ ((w a < 0 ↔ w b < 0) ∧ (w b < w a ∨ (w a = w b ∧ a < b)))) ∧
    (s.live = none → tableChanged s = s ∧ scenarioSetValid s = s) ∧
    (∀ l, s.live = some l →
      let n := lookedUp s
      let bars := l.locked = true ∨ l.scenario = .none ∨ t.geometryValid = false
      let looks := fun (u : State) =>
        (∀ m, l.scenario = .record m → n.scenario = .record m →
          u = { s with live := some { l with under := some (z, k) } }) ∧
        (∀ d, l.scenario = .fallback → n.scenario = .fallback → l.dir = some d →
          let m : Live := { l with
            cause := n.cause
            under := some (z, k)
            groups := fallbackGroups t d (headChainage s) }
          (m.groups = l.groups → u = { s with live := some m }) ∧
          (m.groups ≠ l.groups → u = freshRevision { s with live := some m })) ∧
        (l.scenario ≠ n.scenario → u = freshRevision (computeOpenLoop (offerReport
          (report (noticeDest s) 0x49 ([0x0E, byte (headNumber s),
            (match n.scenario with | .record m => byte m | _ => 255),
            (match n.dir with | some .towardB => 1 | _ => 0)] ++ be16 n.vt))
          { s with live := some { n with locked := l.locked, lockTimer := l.lockTimer } })))
      (bars ∨ (∀ u, l.under = some u → u.2 = k) → tableChanged s = s) ∧
      (¬ bars → ∀ u, l.under = some u → u.2 ≠ k → looks (tableChanged s)) ∧
      (bars → scenarioSetValid s = s) ∧ (¬ bars → looks (scenarioSetValid s)) ∧
      (∀ m, l.scenario = .record m → bars ∨ (∀ u, l.under = some u → u = (z, k)) →
        chainageChanged s = hysteresisRevision s))

/-- R121: D_open = ceil(R × vt² / 10,000) + P; above 65,535 D becomes 65,535 and the saturation flag is set, with a
SATURATED notice when it was clear; otherwise the flag is cleared. -/
def Obligations.OpenLoopDemandFollowsTheFormula : Prop :=
  ∀ (s : State) (l : Live), s.live = some l →
    let d := (s.params.R * l.vt ^ 2 + 9999) / 10000 + l.P
    let high : State := { s with plan := { s.plan with demand := 65535, saturated := true } }
    (d ≤ 65535 → computeOpenLoop s = { s with plan := { s.plan with demand := d, saturated := false } }) ∧
    (65535 < d → s.plan.saturated = true → computeOpenLoop s = high) ∧
    (65535 < d → s.plan.saturated = false →
      computeOpenLoop s = offerReport (report (noticeDest s) 0x49 [0x10, byte (headNumber s)]) high)

/-- R123, R124: the effective thrust of a fan is its full thrust in the drive direction that blows along the flow, a quarter
of it at HALF, and h percent of that where its group lies 0 to H downstream of the fire. R125: which fans are available.
R126: a fresh walk selects, in walk order, the shortest run of available fans of the listed groups that covers D, or all
of them. R129, R131: a walk under hysteresis keeps the selected fans that are available, appends the shortest run of
others where they fall short of D, and where it appends none drops the last fan if those ahead of it cover D + M. R127:
the shortfall is D − C, or 0 where C reaches D, and a change of it brings a SHORTFALL notice. R128: a selected fan is
wanted RUN in its drive direction at its step, every other STOP; the fans whose wanted state changes are handed over,
those wanted RUN in selection order (the place of those wanted STOP is log 18's). -/
def Obligations.FreshWalkCoversTheDemand : Prop :=
  ∀ (s : State),
    let t := s.tables
    let D := s.plan.demand
    let C := covered s
    let visits := (visited s).filter (available s)
    let walked := fun (sel : List Nat) (u : State) =>
      let v : State := { s with plan := { s.plan with selection := sel, shortfall := D - C sel } }
      (D - C sel = s.plan.shortfall → u = v) ∧
      (D - C sel ≠ s.plan.shortfall → u = offerReport
        (report (noticeDest s) 0x49 ([0x0F, byte (headNumber s)] ++ be16 (D - C sel))) v)
    let wanted := fun (f : Nat) (r : FanRecord) => match s.live.bind Live.dir with
      | some d => if f ∈ s.plan.selection then
          Wanted.run (if fanOrientation t f = d then .fwd else .rev) r.step else .stop
      | none => .stop
    (∀ (f : Nat) (l : Live) (d : Dir), s.live = some l → l.dir = some d →
      let base := if fanOrientation t f = d then fanFwd t f else fanRev t f
      let T := if (fanRec s f).step = .full then base else base / 4
      let w : Int := (if d = .towardB then 1 else -1) * ((groupChainage t (fanGroup t f) : Int) - headChainage s)
      effective s f = if 0 ≤ w ∧ w ≤ l.H then T * l.h / 100 else T) ∧
    (∀ sel, C sel = (sel.map (effective s)).sum) ∧
    (∀ f, available s f = true ↔ f < t.fans.count ∧ fanInService t f = true ∧
      (fanRec s f).state ∉ [.failed, .lost, .unavailable]) ∧
    (∀ l, s.live = some l → visited s = l.groups.flatMap fun g =>
      (List.range t.fans.count).filter fun f => decide (fanGroup t f = g)) ∧
    (∃ sel, walked sel (freshWalk s) ∧ (freshWalk s).plan.selection = sel ∧
      sel <+: visits ∧ (D ≤ C sel ∨ sel = visits) ∧ ∀ k < sel.length, C (sel.take k) < D) ∧
    (let kept := s.plan.selection.filter (available s)
     let others := visits.filter fun f => decide (f ∉ kept)
     ∃ sel, walked sel (hysteresisWalk s) ∧ (hysteresisWalk s).plan.selection = sel ∧
      (C kept < D → ∃ more, sel = kept ++ more ∧ more <+: others ∧ (D ≤ C sel ∨ more = others) ∧
        ∀ k < more.length, C (kept ++ more.take k) < D) ∧
      (D ≤ C kept → (kept ≠ [] ∧ D + s.params.M ≤ C kept.dropLast → sel = kept.dropLast) ∧
        (kept = [] ∨ C kept.dropLast < D + s.params.M → sel = kept))) ∧
    recordWanted s = { s with fans := { s.fans with recs := (recordWanted s).fans.recs } } ∧
    (∀ (f : Nat) (r : FanRecord), s.fans.recs[f]? = some r →
      (recordWanted s).fans.recs[f]? = some (if f < t.fans.count then { r with wanted := wanted f r } else r) ∧
      (f < t.fans.count → (f ∈ changedFans s ↔ r.wanted ≠ wanted f r))) ∧
    ((changedFans s).filter (fun f => decide (wanted f (fanRec s f) ≠ .stop)) =
      s.plan.selection.filter fun f => decide (f < t.fans.count ∧ wanted f (fanRec s f) ≠ .stop ∧
        (fanRec s f).wanted ≠ wanted f (fanRec s f)))

/-- R132 to R135: each expiry sets the trim timer again. No trim is made in IN SILENT, on scenario none, without v_m, or
within the dead band. Otherwise D moves by G × e / 16 truncated toward zero, e = vt − v_m clamped to ±500, is clamped to
0..65,535, and the saturation flag records an overrun. With G = 0, and at D = 0 with e negative, nothing moves (log 39).
The walk that follows may take the head out of REGULATING, which stops the timer. R47, R48: v_m is the sum of the axis
values of the selected stations along the flow, divided by their number, truncated toward zero. -/
def Obligations.TrimMovesTheDemand : Prop :=
  ∀ (s : State), quiet s = true → s.plan.trim = some 0 →
    let again : State := { s with plan := { s.plan with trim := some (s.params.trimInterval * 1000) } }
    let still := exec .trimTimerExpiry s = .next (ended again)
    (∀ (d : Dir) (sel : List Nat),
      let sign : Int := if d = .towardB then 1 else -1
      sel.Nodup →
      (∀ i, i ∈ sel ↔ stationHasRole s.tables i .anemometer = true ∧ stationMeasures s.tables i = true ∧
        sign * ((stationChainage s.tables i : Int) - headChainage s) ≤ -(s.params.clearDistance : Int) ∧
        ∃ m x, s.samples[i]? = some m ∧ m.sample = some x ∧ s.clock ≤ x.takenAt + 5000 ∧ x.quality = .good) →
      let axis := fun i => stationSign s.tables i * (((stationRec s i).sample.bind Sample.value).getD 0)
      measuredVelocity s d = if sel = [] then none else some ((sign * (sel.map axis).sum).tdiv sel.length)) ∧
    (s.port.inSilent = true ∨ s.live = none → still) ∧
    (∀ l, s.live = some l →
      (l.scenario = .none → still) ∧
      (∀ d, l.dir = some d → measuredVelocity s d = none → still) ∧
      (∀ d vm, s.port.inSilent = false → l.scenario ≠ .none → l.dir = some d → measuredVelocity s d = some vm →
        let e : Int := max (-500) (min 500 ((l.vt : Int) - vm))
        let new : Int := s.plan.demand + ((s.params.G : Int) * e).tdiv 16
        (e.natAbs ≤ s.params.deadBand ∨ s.params.G = 0 ∨ (s.plan.demand = 0 ∧ e < 0) → still) ∧
        (s.params.deadBand < e.natAbs → s.params.G ≠ 0 → ¬ (s.plan.demand = 0 ∧ e < 0) →
          ∃ t, exec .trimTimerExpiry s = .next t ∧
            (t.plan.demand : Int) = max 0 (min 65535 new) ∧
            t.plan.saturated = decide (65535 < new) ∧
            (t.plan.trim = again.plan.trim ∨ (headPhase t = some .staging ∧ t.plan.trim = none)) ∧
            (headPhase s = some .regulating → t.plan.trim =
              if headPhase t = some .regulating then again.plan.trim else none) ∧
            t.live = s.live ∧ t.auth = s.auth ∧ planningOnly s t)))

/-! ## Fans -/

/-- R144, R150, R166: a FAN STATUS in service. Its fields and the time base reading stand in the reported part, whatever the
sequencer state; an exchange whose number it carries with origin CHIP is closed. In dry run the reported part alone is
taken, and nothing for a fan with an injected mark. In service the status is then handled by the fan's state, with
`statusBody` as the model's word, and what it hands on follows with `fanEvent` (R168). A lost mark is cleared with a FAN
RECOVERED notice and, in command, the derivation of R145 (R152); HANDS_OFF takes nothing else; LOCAL makes a fan
UNAVAILABLE, and the first other status derives it (R161); STARTING and SETTLING become RUNNING, go on, or count a failed
attempt (R156, R163); RUNNING stands, counts a failed attempt, or is derived (R157); STOPPING enters DWELL, sends a new
STOP, or waits (R158); DWELL, STOPPED and QUEUED stand, or are derived out of the queue (R159); FAILED sends a new STOP for
a trip with its exchange closed (R162). `deriveFan` and `sendCommand` are stated by the statements on the resume and on new
commands; a derived fan joins the start queue where R153 allows. The flag of each pair says whether a recompute is asked
for. -/
def Obligations.FanStatusIsTaken : Prop :=
  ∀ (f : Nat) (st : FanStatus) (r : FanRecord) (s : State), serving s = true → f < s.tables.fans.count →
    s.fans.recs[f]? = some r →
    let c := Instr.fanStatus f st
    let reported : Reported := ⟨st.drive, st.dir, st.step, st.number, st.origin, st.seconds, st.temperature, st.trip,
      some s.clock, false⟩
    let acked := r.exchange = .closed ∨
      ∃ x n w, r.exchange = .opened x n w ∧ st.number = x.number ∧ st.origin = .chip
    let hold := fun (u : FanRecord) => { taken c s with fans := { s.fans with recs := s.fans.recs.set f u } }
    (s.auth.dryRun = true → r.reported.injected = true → exec c s = .next (ended (taken c s))) ∧
    (s.auth.dryRun = true → r.reported.injected = false →
      exec c s = .next (ended (hold { r with reported := reported }))) ∧
    (s.auth.dryRun = false → ∃ t u, exec c s = .next t ∧ t.fans.recs[f]? = some u ∧ u.reported = reported ∧
      (r.lost = true → u.lost = false) ∧
      (r.lost = false → r.state = .handsOff → s.fans.inCommand = false →
        (acked → t = ended (hold { r with reported := reported, exchange := .closed })) ∧
        (¬ acked → t = ended (hold { r with reported := reported }))) ∧
      (r.lost = false → f ∉ s.fans.queue → acked → r.state = .stopping → st.drive = .stopped → 0 < s.params.dwell →
        u = { r with
          reported := reported
          exchange := .closed
          state := .dwell
          dwell := some (s.params.dwell * 1000) }) ∧
      (r.lost = false → f ∉ s.fans.queue → acked → r.state = .starting → st.drive = .running →
        r.wanted = .run st.dir st.step →
        u = { r with reported := reported, exchange := .closed, state := .running, start := none }) ∧
      (r.lost = false → r.state ≠ .handsOff → r.state ≠ .unavailable → st.drive = .lockout →
        u.state = .unavailable ∧ u.exchange = .closed ∧ u.dwell = none ∧ u.start = none ∧ f ∉ t.fans.queue) ∧
      planningOnly (taken c s) t) ∧
    ∀ x : Exchange, (acked → x = .closed) → (¬ acked → x = r.exchange) →
      let b : FanRecord := { r with reported := reported, exchange := x }
      let s' := hold b
      let body := statusBody f (decide (r.reported.drive = .unknown))
      let v := body s'
      let stays := v = (s', false)
      let unqueued : State := { s' with fans := { s'.fans with queue := s.fans.queue.filter fun g => g != f } }
      let number := nextCommandNumber b
      let sends := fun (u : FanRecord) =>
        { sendCommand f .stop .fwd .full s' with fans := { s.fans with recs := s.fans.recs.set f { u with
          lastIssued := number
          exchange := .opened ⟨.stop, .fwd, .full, number⟩ 0 (.ack 250) } } }
      let tell := fun (payload : List Byte) (w : State) => offerReport (report (noticeDest s) 0x49 payload) w
      let asWanted := r.wanted = .run st.dir st.step
      let gone : FanRecord := { b with state := .stopping, start := none }
      let fails :=
        (r.step = .full → r.fullFails + 1 < s.params.fFull →
          v = (sends { gone with fullFails := r.fullFails + 1 }, false)) ∧
        (r.step = .full → s.params.fFull ≤ r.fullFails + 1 →
          v = (tell [0x11, byte (headNumber s), byte f]
            (sends { gone with fullFails := r.fullFails + 1, step := .half }), true)) ∧
        (r.step = .half → r.halfFails + 1 < s.params.fHalf →
          v = (sends { gone with halfFails := r.halfFails + 1 }, false)) ∧
        (r.step = .half → s.params.fHalf ≤ r.halfFails + 1 →
          v = (tell [0x12, byte (headNumber s), byte f, byte (tripCode st.trip)]
            (sends { gone with halfFails := r.halfFails + 1, failed := true, state := .failed }), true))
      let moves := st.drive ∈ [.accel, .running, .decel, .tripped]
      (s.auth.dryRun = false → exec c s = .next (ended (fanEvent f body s'))) ∧
      (∀ (w : State) (z : FanRecord), (deriveFan f w).fans.recs[f]? = some z →
        let d := deriveFan f w
        (d.fans.inCommand = true ∧ z.state = .stopped ∧ z.wanted ≠ .stop ∧ z.reported.drive = .stopped →
          deriveOne f w = { d with fans := { d.fans with
            recs := d.fans.recs.set f { z with state := .queued }
            queue := d.fans.queue ++ [f] } }) ∧
        (¬ (d.fans.inCommand = true ∧ z.state = .stopped ∧ z.wanted ≠ .stop ∧ z.reported.drive = .stopped) →
          deriveOne f w = d)) ∧
      (r.lost = true → v = (tell [0x14, byte (headNumber s), byte f, byte (driveStateCode st.drive)]
        (if s.fans.inCommand = true then deriveOne f (hold { b with lost := false }) else hold { b with lost := false }),
        s.fans.inCommand)) ∧
      (r.lost = false →
        (r.state = .handsOff → stays) ∧
        (st.drive = .lockout → (r.state = .unavailable → stays) ∧
          (r.state ≠ .handsOff → r.state ≠ .unavailable →
            v = ({ unqueued with fans := { unqueued.fans with recs := s.fans.recs.set f { b with
              state := .unavailable
              exchange := .closed
              dwell := none
              start := none } } }, true))) ∧
        (st.drive ≠ .lockout →
          (r.state = .starting → x ≠ .closed → (st.drive = .tripped → fails) ∧ (st.drive ≠ .tripped → stays)) ∧
          (r.state = .settling ∨ (r.state = .starting ∧ x = .closed) →
            (st.drive = .running → asWanted → v = (hold { b with state := .running, start := none }, false)) ∧
            (st.drive = .accel → asWanted → stays) ∧
            (moves ∨ st.drive = .stopped → ¬ (st.drive ∈ [.running, .accel] ∧ asWanted) → fails)) ∧
          (r.state = .running →
            (st.drive = .running → asWanted → stays) ∧
            (st.drive = .tripped → fails) ∧
            (st.drive ≠ .tripped → ¬ (st.drive = .running ∧ asWanted) → v = (deriveOne f s', false))) ∧
          (r.state = .stopping →
            (x = .closed → st.drive = .stopped →
              (0 < s.params.dwell →
                v = (hold { b with state := .dwell, dwell := some (s.params.dwell * 1000) }, false)) ∧
              (s.params.dwell = 0 → r.wanted = .stop ∨ s.fans.inCommand = false →
                v = (hold { b with state := .stopped, dwell := none }, false)) ∧
              (s.params.dwell = 0 → r.wanted ≠ .stop → s.fans.inCommand = true →
                v = ({ s' with fans := { s'.fans with
                  recs := s.fans.recs.set f { b with state := .queued, dwell := none }
                  queue := s.fans.queue ++ [f] } }, false))) ∧
            (x = .closed → st.drive ∈ [.tripped, .accel, .running] → v = (sends b, false)) ∧
            (x ≠ .closed ∨ st.drive = .decel → stays)) ∧
          (r.state ∈ [.dwell, .stopped, .queued] →
            (st.drive = .stopped → r.state = .stopped → r.reported.drive = .unknown → v = (deriveOne f s', false)) ∧
            (st.drive = .stopped → r.state ≠ .stopped ∨ r.reported.drive ≠ .unknown → stays) ∧
            (moves → v = (deriveOne f unqueued, false))) ∧
          (r.state = .failed →
            (st.drive = .tripped → x = .closed → v = (sends b, false)) ∧
            (st.drive ≠ .tripped ∨ x ≠ .closed → stays)) ∧
          (r.state = .unavailable → v = (deriveOne f s', true))))

/-- R144, R153: 6,000 ms after the taken-at time the reported drive state becomes UNKNOWN, the other reported fields
stand, and a QUEUED fan leaves the queue for STOPPED. -/
def Obligations.StatusAgesToUnknown : Prop :=
  ∀ (f : Nat) (r : FanRecord) (h : Nat) (s : State), quiet s = true → s.fans.recs[f]? = some r →
    r.reported.drive ≠ .unknown → r.reported.takenAt = some h → h + 6000 ≤ s.clock →
    ∃ t u, exec (.statusAgeUnknown f) s = .next t ∧ t.fans.recs[f]? = some u ∧
      u.reported = { r.reported with drive := .unknown } ∧
      (r.state = .queued → u.state = .stopped ∧ f ∉ t.fans.queue) ∧
      (r.state ≠ .queued → f ∉ s.fans.queue → u = { r with reported := u.reported }) ∧
      planningOnly s t

/-- R151, R152: a passed acknowledgement deadline draws a backoff of b slots of 10 ms, b from 0 to 2^k − 1 (the draw is
free, log 6), and sets the re-send time; the fourth retry's deadline makes the fan LOST, with its exchange closed and its
timers stopped, or, for a FAILED fan, closes the exchange alone. -/
def Obligations.AckDeadlineBacksOffOrLoses : Prop :=
  ∀ (f n : Nat) (x : FanCommand) (r : FanRecord) (s : State), quiet s = true → s.port.inSilent = false →
    s.fans.recs[f]? = some r → r.exchange = .opened x n (.ack 0) → f ∉ s.fans.queue → r.state ≠ .queued →
    (n < 4 → ∃ t b, exec (.ackDeadline f) s = .next t ∧ b < 2 ^ s.params.k ∧
      t.fans.recs[f]? = some { r with exchange := .opened x n (.resend (b * 10)) } ∧ planningOnly s t) ∧
    (4 ≤ n → r.state = .failed → ∃ t, exec (.ackDeadline f) s = .next t ∧
      t.fans.recs[f]? = some { r with exchange := .closed } ∧ planningOnly s t) ∧
    (4 ≤ n → r.state ≠ .failed → ∃ t u, exec (.ackDeadline f) s = .next t ∧ t.fans.recs[f]? = some u ∧
      u = { r with
        state := .lost
        lost := true
        exchange := .closed
        dwell := none
        start := none
        wanted := u.wanted } ∧
      t.outs.fault = (!s.chip.inReset && (decide (f < s.tables.fans.count) || t.outs.fault)) ∧ planningOnly s t)

/-- R151, R165, R207: at the re-send time the outstanding command is offered again with its number, retries used rises by
1 and a new deadline of 250 ms is set; during IN SILENT every second each open exchange offers its command again, in
index order (the order is log 32's), and the exchange stands. The offer is a FAN COMMAND in command, a DRY COMMAND
notice in dry run. -/
def Obligations.OutstandingCommandIsOfferedAgain : Prop :=
  let again := fun (f : Nat) (x : FanCommand) (s u : State) =>
    if s.auth.dryRun = true then
      offerReport (report (noticeDest s) 0x49 [0x19, byte (headNumber s), byte f, byte (actionCode x.action),
        byte (driveCode x.dir), byte (stepCode x.step), byte x.number]) u
    else if s.fans.inCommand = true ∧ s.auth.state = .autonomous then
      offerCommand (report (fanAddr s.tables f) 0x30 [byte (actionCode x.action), byte (driveCode x.dir),
        byte (stepCode x.step), byte x.number, 0x00]) u
    else u
  ∀ (f n : Nat) (x : FanCommand) (w : Wait) (r : FanRecord) (s : State), quiet s = true →
    s.fans.recs[f]? = some r → r.exchange = .opened x n w →
    (w = .resend 0 → s.port.inSilent = false → exec (.resendTime f) s =
      .next (ended (again f x s { s with fans := { s.fans with
        recs := s.fans.recs.set f { r with exchange := .opened x (n + 1) (.ack 250) } } }))) ∧
    (s.port.inSilent = true → 1000 ≤ s.port.silentFor →
      (∃ t, exec .silenceResend s = .next t ∧ t = { s with outs := t.outs, port := t.port }) ∧
      exec .silenceResend s = .next (ended ((List.range s.fans.recs.length).foldl
        (fun u g => match (s.fans.recs[g]?).map FanRecord.exchange with
          | some (.opened y _ _) => again g y s u
          | _ => u)
        { s with port := { s.port with silentFor := 0 } })))

/-- R154: when the start spacing has elapsed, the fan at the head of the start queue is started if the part is in command,
the head incident is not in DELAY and a start slot is free: RUN is sent with the wanted direction and the fan's step,
the fan is STARTING with its start timer set, and the spacing runs again. Otherwise the spacing counts as elapsed and
nothing is started; a fan wanted STOP that still waits is not started (log 18). -/
def Obligations.StartSpacingLetsTheNextFanStart : Prop :=
  ∀ (s : State), quiet s = true → s.fans.spacing = some 0 →
    (∀ f rest r d st, s.fans.queue = f :: rest → s.fans.recs[f]? = some r → r.wanted = .run d st →
      s.fans.inCommand = true → headPhase s ≠ some .delay → startingCount s < s.params.sMax →
      0 < s.params.startSpacing →
      ∃ t, exec .startSpacingExpiry s = .next t ∧
        t.fans.recs[f]? = some { r with
          state := .starting
          start := some (s.params.startLimit * 1000)
          lastIssued := nextCommandNumber r
          exchange := .opened ⟨.run, d, r.step, nextCommandNumber r⟩ 0 (.ack 250)
          lastRun := some (d, r.step) } ∧
        t.fans.queue = rest.filter (fun g => g != f) ∧
        t.fans.spacing = some (s.params.startSpacing * 1000) ∧
        (∀ g, g ≠ f → t.fans.recs[g]? = s.fans.recs[g]?) ∧
        planningOnly s t) ∧
    (s.fans.queue = [] ∨ s.fans.inCommand = false ∨ headPhase s = some .delay ∨
        s.params.sMax ≤ startingCount s ∨
        (∃ f rest, s.fans.queue = f :: rest ∧ (fanRec s f).wanted = .stop) →
      exec .startSpacingExpiry s = .next (ended { s with fans := { s.fans with spacing := none } }))

/-- R153, R159: a dwell that ends leaves the fan STOPPED, and at the tail of the start queue when it is wanted RUN, its
drive is reported STOPPED and the part is in command. It waits there in DELAY, while no start slot is free and while the
start spacing runs, and is started at once where none of these holds and no fan waits ahead of it (R154). R155: what a new
wanted state does in each sequencer state: a STOPPED fan joins the queue where R153 allows, a QUEUED one wanted STOP
leaves it, and a STARTING, SETTLING or RUNNING one wanted otherwise than it runs is sent a STOP and becomes STOPPING. -/
def Obligations.DwellEndsInStoppedOrQueued : Prop :=
  ∀ (f : Nat) (r : FanRecord) (s : State), s.fans.recs[f]? = some r →
    let hold := fun (u : FanRecord) (q : List Nat) => { s with fans := { s.fans with
      recs := s.fans.recs.set f u
      queue := q } }
    (quiet s = true → r.dwell = some 0 → f ∉ s.fans.queue →
      (r.wanted = .stop ∨ r.reported.drive ≠ .stopped ∨ s.fans.inCommand = false →
        ∃ t, exec (.dwellTimerExpiry f) s = .next t ∧
          t.fans.recs[f]? = some { r with state := .stopped, dwell := none } ∧ planningOnly s t) ∧
      (∀ d st, r.wanted = .run d st → r.reported.drive = .stopped → s.fans.inCommand = true →
        let joined := hold { r with state := .queued, dwell := none } (s.fans.queue ++ [f])
        (headPhase s = some .delay → exec (.dwellTimerExpiry f) s = .next (ended joined)) ∧
        (headPhase s ≠ some .delay → r.state = .dwell →
          (s.params.sMax ≤ startingCount s ∨ (∃ ms, s.fans.spacing = some ms ∧ ms ≠ 0) →
            ∃ t, exec (.dwellTimerExpiry f) s = .next t ∧ t.fans = joined.fans ∧ planningOnly s t) ∧
          (s.fans.queue = [] → startingCount s < s.params.sMax → (∀ ms, s.fans.spacing = some ms → ms = 0) →
            ∃ t, exec (.dwellTimerExpiry f) s = .next t ∧
              t.fans.recs[f]? = some { r with
                state := .starting
                dwell := none
                start := some (s.params.startLimit * 1000)
                lastIssued := nextCommandNumber r
                exchange := .opened ⟨.run, d, r.step, nextCommandNumber r⟩ 0 (.ack 250)
                lastRun := some (d, r.step) } ∧
              t.fans.queue = [] ∧
              t.fans.spacing = (if s.params.startSpacing = 0 then none else some (s.params.startSpacing * 1000)) ∧
              (∀ g, g ≠ f → t.fans.recs[g]? = s.fans.recs[g]?) ∧ planningOnly s t)))) ∧
    (let v := applyWanted f s
     let sent := sendCommand f .stop .fwd .full s
     let n := nextCommandNumber r
     let stops := v = { sent with fans := { s.fans with recs := s.fans.recs.set f { r with
       state := .stopping
       start := none
       lastIssued := n
       exchange := .opened ⟨.stop, .fwd, .full, n⟩ 0 (.ack 250) } } }
     (r.state ∈ [.handsOff, .stopping, .dwell, .failed, .lost, .unavailable] → v = s) ∧
     (r.state = .stopped →
       (r.wanted = .stop ∨ r.reported.drive ≠ .stopped ∨ s.fans.inCommand = false → v = s) ∧
       (r.wanted ≠ .stop → r.reported.drive = .stopped → s.fans.inCommand = true →
         v = hold { r with state := .queued } (s.fans.queue ++ [f]))) ∧
     (r.state = .queued →
       (r.wanted = .stop → v = hold { r with state := .stopped } (s.fans.queue.filter fun g => decide (g ≠ f))) ∧
       (r.wanted ≠ .stop → v = s)) ∧
     (r.state = .starting →
       ((∃ d st, r.wanted = .run d st ∧ r.lastRun = some (d, st)) → v = s) ∧
       ((∀ d st, r.wanted = .run d st → r.lastRun ≠ some (d, st)) → stops)) ∧
     (r.state = .settling ∨ r.state = .running →
       (r.wanted = .run r.reported.dir r.reported.step → v = s) ∧
       (r.wanted ≠ .run r.reported.dir r.reported.step → stops)))

/-- R160, R163: a start timer that expires counts a failed attempt: a STOP is sent and the timer stops. At FULL the
full-failure count rises, and at F_full the step becomes HALF; at HALF the half-failure count rises, and at F_half the
fan is FAILED with its failed mark set. -/
def Obligations.StartTimerCountsAFailedAttempt : Prop :=
  ∀ (f : Nat) (r : FanRecord) (s : State), quiet s = true → s.port.inSilent = false →
    s.fans.recs[f]? = some r → r.start = some 0 → f ∉ s.fans.queue →
    let number := nextCommandNumber r
    let stopped : FanRecord := { r with
      state := .stopping
      start := none
      lastIssued := number
      exchange := .opened ⟨.stop, .fwd, .full, number⟩ 0 (.ack 250) }
    ∃ t u, exec (.startTimerExpiry f) s = .next t ∧ t.fans.recs[f]? = some u ∧
      (r.step = .full → r.fullFails + 1 < s.params.fFull →
        u = { stopped with fullFails := r.fullFails + 1 }) ∧
      (r.step = .full → s.params.fFull ≤ r.fullFails + 1 →
        u = { stopped with fullFails := r.fullFails + 1, step := .half, wanted := u.wanted }) ∧
      (r.step = .half → r.halfFails + 1 < s.params.fHalf →
        u = { stopped with halfFails := r.halfFails + 1 }) ∧
      (r.step = .half → s.params.fHalf ≤ r.halfFails + 1 →
        u = { stopped with halfFails := r.halfFails + 1, failed := true, state := .failed, wanted := u.wanted }) ∧
      planningOnly s t

/-- R149: a new command takes the number after the last one issued, 1 after 255, once more advanced past a number the
drive reports with origin CHIP; it becomes the last number issued, and the exchange is opened with it outstanding, no
retry used and a deadline of 250 ms. The command is offered to the drive address in command out of dry run (R148). -/
def Obligations.NewCommandTakesANewNumber : Prop :=
  ∀ (f : Nat) (a : Action) (d : Drive) (st : SpeedStep) (r : FanRecord) (s : State), s.fans.recs[f]? = some r →
    let after := fun n : Nat => if n < 255 then n + 1 else 1
    let first := after r.lastIssued
    let number := if first = r.reported.number ∧ r.reported.origin = .chip then after first else first
    let u : State := { s with fans := { s.fans with recs := s.fans.recs.set f { r with
      lastIssued := number
      exchange := .opened ⟨a, d, st, number⟩ 0 (.ack 250)
      lastRun := if a = .run then some (d, st) else r.lastRun } } }
    1 ≤ number ∧ number ≤ 255 ∧ (r.reported.origin = .chip → number ≠ r.reported.number) ∧
    (s.auth.dryRun = false → s.fans.inCommand = true → s.auth.state = .autonomous →
      sendCommand f a d st s = offerCommand (report (fanAddr s.tables f) 0x30
        [byte (actionCode a), byte (driveCode d), byte (stepCode st), byte number, 0x00]) u) ∧
    (s.auth.dryRun = true →
      sendCommand f a d st s = offerReport (report (noticeDest s) 0x49 [0x19, byte (headNumber s), byte f,
        byte (actionCode a), byte (driveCode d), byte (stepCode st), byte number]) u) ∧
    (s.auth.dryRun = false → s.fans.inCommand = false ∨ s.auth.state ≠ .autonomous →
      sendCommand f a d st s = u)

/-! ## Authority -/

/-- R147, R176, R179, R180: a release that names the head or 0 in AUTONOMOUS moves authority to RELEASED, ends the hold,
deasserts AUTH, leaves every fan HANDS_OFF with its exchange closed and its timers stopped, empties the start queue and
takes the waiting FAN COMMANDs out of the insert queue; every other release brings an AUTHORITY notice with equal states
and nothing else. -/
def Obligations.ReleaseGivesUpTheFans : Prop :=
  ∀ (n : Nat) (s : State), serving s = true →
    let c := Instr.authorityRelease n
    (s.auth.state = .autonomous → n = 0 ∨ n = headNumber s →
      ∃ t, exec c s = .next t ∧ t.auth.state = .released ∧ t.auth.holdRemaining = 0 ∧ t.outs.auth = false ∧
        (s.auth.holdRemaining ≠ 0 → t.auth.lastHold = some s.clock) ∧
        t.fans.inCommand = false ∧
        (s.fans.inCommand = true → t.fans.queue = [] ∧ (∀ q ∈ t.port.commands, q.kind ≠ 0x30) ∧
          ∀ (f : Nat) (r : FanRecord), f < s.tables.fans.count → s.fans.recs[f]? = some r →
            t.fans.recs[f]? = some { r with
              state := .handsOff
              exchange := .closed
              dwell := none
              start := none }) ∧
        planningOnly (taken c s) t) ∧
    (s.auth.state ≠ .autonomous ∨ (n ≠ 0 ∧ n ≠ headNumber s) →
      exec c s = .next (ended (offerReport (report (noticeDest s) 0x49
        [0x15, byte (headNumber s), byte (authCode s.auth.state), byte (authCode s.auth.state)]) (taken c s))))

/-- R175, R177, R185: a resume in RELEASED moves authority to AUTONOMOUS; out of dry run AUTH is asserted, a hold of Hh
with the head's number is offered and its time counts from now (where OUT is busy the frame stands behind the commands that
wait, while fewer than 16 do), and each control-centre fan command waiting in the forward queue leaves it and is
counted (R31, R182); the part comes into command where a scenario is held (R146). In every other state it changes
nothing. R145: the derivation that the takeover makes for each fan, by the first line of its table that applies. -/
def Obligations.ResumeTakesAuthority : Prop :=
  ∀ (s : State), serving s = true →
    let c := Instr.authorityResume
    (s.auth.state = .released →
      ∃ t, exec c s = .next t ∧ authorityHeld s t ∧ holdFollows (headNumber s) s t ∧ planningOnly (taken c s) t ∧
        (planHeld s = true → t.fans.inCommand = true)) ∧
    (s.auth.state ≠ .released → exec c s = .next (ended (taken c s))) ∧
    ∀ (f : Nat) (r : FanRecord), s.fans.recs[f]? = some r →
      let v := deriveFan f s
      let drive := r.reported.drive
      let moving := drive ∈ [.accel, .running, .decel, .tripped]
      let asWanted := r.wanted = .run r.reported.dir r.reported.step
      let n := nextCommandNumber r
      let still : FanRecord := { r with dwell := none, start := none }
      let becomes := fun (u : FanRecord) => v = { s with fans := { s.fans with recs := s.fans.recs.set f u } }
      let stops := fun (u : FanRecord) =>
        v = { sendCommand f .stop .fwd .full s with fans := { s.fans with recs := s.fans.recs.set f { u with
          lastIssued := n
          exchange := .opened ⟨.stop, .fwd, .full, n⟩ 0 (.ack 250) } } }
      (r.failed = true → (moving → stops { still with state := .failed }) ∧
        (¬ moving → becomes { still with state := .failed })) ∧
      (r.failed = false → (r.lost = true → becomes { still with state := .lost }) ∧
        (r.lost = false →
          (drive = .lockout → becomes { still with state := .unavailable }) ∧
          (drive = .unknown → becomes { still with state := .stopped }) ∧
          (drive = .running → asWanted → becomes { still with state := .running }) ∧
          (drive = .accel → asWanted → becomes { still with
            state := .settling
            start := some (s.params.startLimit * 1000) }) ∧
          (moving → ¬ (drive ∈ [.running, .accel] ∧ asWanted) → stops { still with state := .stopping }) ∧
          (drive = .stopped → r.reported.seconds < s.params.dwell → becomes { still with
            state := .dwell
            dwell := some ((s.params.dwell - r.reported.seconds) * 1000) }) ∧
          (drive = .stopped → s.params.dwell ≤ r.reported.seconds → becomes { still with state := .stopped })))

/-- R181: when the hold remaining has reached the refresh threshold, a hold of Hh with the head's number is offered, the
hold remaining is set again and the last hold time becomes the present reading. -/
def Obligations.HoldIsRefreshed : Prop :=
  ∀ (s : State), quiet s = true → s.auth.state = .autonomous → s.auth.dryRun = false →
    s.auth.holdRemaining ≤ s.params.refresh * 1000 →
    exec .holdRefresh s = .next (ended { offerCommand
        (report (noticeDest s) 0x48 [byte s.params.holdTime, byte (headNumber s)]) s with
      auth := { s.auth with holdRemaining := s.params.holdTime * 1000, lastHold := some s.clock } })

/-! ## Management requests -/

/-- R191: the source is tested first, then the form. A request from a source that is not permitted is answered NOT_PERMITTED
(status 5); a permitted one that names a table by a code outside 1..8, or lacks a field byte its rule reads, is answered
BAD_VALUE (status 3); neither has another effect. The response carries the table code, and the index of WRITE RECORD and
READ RECORD; one whose request has no table code carries 0 in both (R20; log 14). -/
def Obligations.RequestsAreTestedForSourceAndForm : Prop :=
  ∀ (r : Request) (s : State), serving s = true →
    (¬ allowed s r → ∀ (c : Instr) (code table index : Nat),
      (c, code, table, index) ∈ [(Instr.openLoad r, 1, r.table, 0), (.writeRecord r, 2, r.table, r.index),
        (.closeLoad r, 3, r.table, 0), (.readRecord r, 4, r.table, r.index), (.readState r, 5, 0, 0),
        (.readFan r, 6, 0, 0), (.readCounters r, 7, 0, 0), (.storeTables r, 8, 0, 0), (.setTestMode r, 9, 0, 0),
        (.inject r, 10, 0, 0), (.softReset r, 11, 0, 0)] →
      exec c s = answered c (reply r code 5 table index []) s) ∧
    (allowed s r → ∀ (c : Instr) (code table index : Nat),
      (r.table = 0 ∨ 8 < r.table) ∧
        (c, code, table, index) ∈ [(Instr.openLoad r, 1, r.table, 0), (.writeRecord r, 2, r.table, r.index),
          (.closeLoad r, 3, r.table, 0), (.readRecord r, 4, r.table, r.index)] ∨
      (r.fields.length < 2 ∧ r.table ∈ [2, 3, 4, 5, 7, 8]) ∧ (c, code, table, index) = (.closeLoad r, 3, r.table, 0) ∨
      r.fields = [] ∧ (c, code, table, index) ∈ [(.setTestMode r, 9, 0, 0), (.inject r, 10, 0, 0)] →
      exec c s = answered c (reply r code 3 table index []) s)

/-- R192, R193: OPEN LOAD is refused while an incident is listed, answered IN_PROGRESS while the store engine runs, and
otherwise makes the table LOADING with count 0, every record cleared (the global record at its defaults) and no written
mark. A geometry table takes authority from MONITOR to UNCONFIGURED and empties the candidates; the stations empty the
sample records, the fans their reported parts (whole, log 36) and last numbers issued, the global record the own address,
with the earlier one in the strip set for 1,000 ms (R6, R7). -/
def Obligations.OpenLoadClearsTheTable : Prop :=
  ∀ (r : Request) (id : TableId) (s : State), serving s = true → allowed s r → tableOfCode r.table = some id →
    let c := Instr.openLoad r
    (s.incidents.list ≠ [] → exec c s = answered c (reply r 1 1 r.table 0 []) s) ∧
    (s.incidents.list = [] → s.tables.store ≠ .idle → exec c s = answered c (reply r 1 4 r.table 0 []) s) ∧
    (s.incidents.list = [] → s.tables.store = .idle →
      let cleared : Table :=
        { validity := .loading
          count := 0
          recs := if id = .global then [defaultPart0, defaultPart1]
            else List.replicate id.capacity (List.replicate id.recordSize 0)
          written := List.replicate id.capacity false }
      ∃ t, exec c s = .next t ∧ t.tables = s.tables.set id cleared ∧
        t.incidents.list = [] ∧
        (id.isGeometry = true →
          (∀ o ∈ t.incidents.candidates, o = none) ∧ (s.auth.state = .monitor → t.auth.state = .unconfigured)) ∧
        (id.isGeometry = false → t.incidents = s.incidents) ∧
        (id.isGeometry = false ∨ s.auth.state ≠ .monitor → t.auth = s.auth) ∧
        t.samples = (if id = .stations then s.samples.map fun _ => ⟨none, .armed, false, none, false⟩ else s.samples) ∧
        t.fans = (if id = .fans then
            { s.fans with recs := s.fans.recs.map fun u => { u with reported := .unknown, lastIssued := 0 } }
          else s.fans) ∧
        t.port.ownAddr = (if id = .global then 0x7F00 + s.chip.strap.toNat else s.port.ownAddr) ∧
        t.port.earlier =
          (if t.port.ownAddr = s.port.ownAddr then s.port.earlier else some (s.port.ownAddr, 1000)) ∧
        (∀ y, s.port.out = some y → s.port.commands.length + s.port.reports.length < 15 →
          ∃ more, t.port.reports = s.port.reports ++ [reply r 1 0 r.table 0 [],
            report (if id = .global then 0xFFFF else noticeDest s) 0x49 [0x16, 0, byte r.table, 1, 0, 0, 0]] ++ more) ∧
        t = { taken c s with
          outs := t.outs
          port := t.port
          samples := t.samples
          incidents := t.incidents
          fans := t.fans
          auth := t.auth
          tables := t.tables })

/-- R194: WRITE RECORD is taken by the first case that applies: REFUSED when the table is not LOADING, NO_SUCH for an index
at or above the capacity, BAD_VALUE with fewer field bytes than the layout or a field outside its range, and otherwise
DONE: the record takes the fields, without the bytes beyond its layout, and its written mark is set.
The ranges of each layout are those of R189 and R206, each field tested alone. -/
def Obligations.WriteRecordTakesTheFirstCase : Prop :=
  ∀ (r : Request) (id : TableId) (s : State), serving s = true → allowed s r → tableOfCode r.table = some id →
    let c := Instr.writeRecord r
    let x := s.tables.get id
    let fields := r.fields.take id.recordSize
    let gives := fun status => answered c (reply r 2 status r.table r.index []) s
    (x.validity ≠ .loading → exec c s = gives 1) ∧
    (x.validity = .loading → id.capacity ≤ r.index → exec c s = gives 2) ∧
    (x.validity = .loading → r.index < id.capacity →
      r.fields.length < id.recordSize ∨ ¬ fieldsInRange id r.index fields → exec c s = gives 3) ∧
    (x.validity = .loading → r.index < id.capacity → id.recordSize ≤ r.fields.length →
      fieldsInRange id r.index fields →
      exec c s = .next (ended (offerReport (reply r 2 0 r.table r.index []) { taken c s with
        tables := s.tables.set id { x with
          recs := x.recs.set r.index fields
          written := x.written.set r.index true } })))

/-- R195, R196, R197: a table closes when its count lies in its range, the table that must be VALID first is, and no check
fails; else the close names the lowest record that a check fails, or 0xFFFF where none of the closed table does. A CLOSE LOAD
of a table that is not LOADING is refused. When every check passes, the table becomes VALID with the count given (1 for the
global record, 64 for the group hash), answered DONE; when one fails it becomes INVALID with count 0, answered BAD_VALUE
with the first bad record index. The other tables stand. The own address follows the global record, and a change of it
enters the earlier one in the strip set (R6, R7). As the geometry set becomes VALID in UNCONFIGURED, authority becomes
MONITOR with no incident listed, and AUTONOMOUS with one (R173, R175); a head on scenario none is then looked up, and keeps
its lock, which is announced where the direction had locked (R109). The record count is read where R196 uses it, so that a
close of the global table or the group hash needs none (log 38). Which record a failed check names is log 15's, the index
echoed on a pass log 14's, and that the takeover comes ahead of the phase test log 48's. -/
def Obligations.CloseLoadSetsTheOutcome : Prop :=
  (∀ (t : TableStore) (id : TableId) (n : Nat),
    let bad := recordFails t id n
    (closeCheck t id n = none ↔ mayClose t id n ∧ (∀ i, ¬ bad i) ∧ ¬ otherFails t id n) ∧
    (mayClose t id n → ∀ i, bad i → (∀ j < i, ¬ bad j) → closeCheck t id n = some i) ∧
    (¬ mayClose t id n ∨ ((∀ i, ¬ bad i) ∧ otherFails t id n) → closeCheck t id n = some 0xFFFF)) ∧
  ∀ (r : Request) (id : TableId) (s : State), serving s = true → allowed s r → tableOfCode r.table = some id →
    (id = .global ∨ id = .hash ∨ 2 ≤ r.fields.length) →
    let c := Instr.closeLoad r
    let x := s.tables.get id
    let n := at16 r.fields 0
    let count := if id = .global then 1 else if id = .hash then 64 else n
    let state := fun (u : State) (v : Nat) (bad : Nat) =>
      report (noticeDest u) 0x49 ([0x16, byte (headNumber s), byte r.table, byte v, 1] ++ be16 bad)
    (x.validity ≠ .loading → exec c s = answered c (reply r 3 1 r.table 0 []) s) ∧
    let address := fun (u : State) =>
      u.port.ownAddr =
        (if u.tables.global.isValid = true then u.params.ownAddr else 0x7F00 + s.chip.strap.toNat) ∧
      u.port.earlier =
        (if u.port.ownAddr = s.port.ownAddr then s.port.earlier else some (s.port.ownAddr, 1000))
    (x.validity = .loading → ∀ i, closeCheck s.tables id n = some i →
      ∃ t, exec c s = .next t ∧
        t.tables = s.tables.set id { x with validity := .invalid, count := 0 } ∧
        address t ∧
        (∀ y, s.port.out = some y → s.port.commands.length + s.port.reports.length < 15 →
          t.port.reports = s.port.reports ++ [reply r 3 3 r.table i [], state t 0 i]) ∧
        t = { taken c s with outs := t.outs, port := t.port, tables := t.tables }) ∧
    (x.validity = .loading → closeCheck s.tables id n = none →
      ∃ t, exec c s = .next t ∧
        t.tables = { s.tables.set id { x with validity := .valid, count := count } with
          params := if t.tables.global.isValid = true then paramsOf t.tables.global else s.tables.params } ∧
        address t ∧
        (t.params.L = s.params.L → t.trains = s.trains) ∧
        (t.params.L ≠ s.params.L → t.trains = s.trains.map fun o => o.bind fun q =>
          if t.params.L < q.head ∧ t.params.L < q.tail then none else some q) ∧
        (s.incidents.list = [] → s.live = none →
          t.incidents = s.incidents ∧ t.live = none ∧ t.plan = s.plan ∧ t.fans = s.fans ∧
          t.auth = { s.auth with state :=
            if id.isGeometry = true ∧ s.auth.state = .unconfigured ∧ t.tables.geometryValid = true then .monitor
            else s.auth.state }) ∧
        (s.incidents.list = [] → s.live = none → ∀ y, s.port.out = some y →
          s.port.commands.length + s.port.reports.length < 15 →
          ∃ more, t.port.reports = s.port.reports ++ [reply r 3 0 r.table 0 [], state t 2 0] ++ more) ∧
        (s.incidents.list ≠ [] → id.isGeometry = true → t.tables.geometryValid = true →
          (s.auth.state = .unconfigured →
            authorityHeld s t ∧ (fansIdle s → holdFollows (headNumber s) s t)) ∧
          ∀ l, s.live = some l → l.scenario = .none →
            t.live = some { lookedUp t with locked := l.locked, lockTimer := l.lockTimer } ∧
            (∀ m, t.live = some m →
              t.plan.demand = min 65535 ((t.params.R * m.vt ^ 2 + 9999) / 10000 + m.P)) ∧
            (s.auth.state = .unconfigured → t.fans.inCommand = true)) ∧
        (let noted := offerReport (state t 2 0) (offerReport (reply r 3 0 r.table 0 []) { taken c s with
            tables := t.tables })
          let addressed := { noted with port := { noted.port with
            ownAddr := t.port.ownAddr
            earlier := t.port.earlier } }
          let u := if t.trains = s.trains then addressed else tableChanged { addressed with trains := t.trains }
          t = ended (if id.isGeometry = true then lateScenario (authorityAtClose u)
            else if t.tables.scenarioValid = true then scenarioSetValid u
            else u)) ∧
        planningOnly { taken c s with tables := t.tables, trains := t.trains } t)

/-- R198, R206: the read requests answer DONE with the record's field bytes, the 23 bytes of the fan record, or the bytes
of the page, and NO_SUCH for an index at or above the capacity, a fan index at or above 48, a page above 15, and a
page of a list position that holds no incident; they change nothing else. READ COUNTERS (R16) answers with the
counters, the activity flag and the intercepted-command counter, and sets each to 0 and the flag clear, ahead of the
offer of its response (log 37). Ages are rounded down (log 13), a closed exchange reads 0 (log 33), and a response
whose request has no table code carries index 0 (R20; log 14). -/
def Obligations.ReadsAnswerWithData : Prop :=
  ∀ (r : Request) (s : State), serving s = true → allowed s r →
    (∀ id, tableOfCode r.table = some id →
      (id.capacity ≤ r.index →
        exec (.readRecord r) s = answered (.readRecord r) (reply r 4 2 r.table r.index []) s) ∧
      (r.index < id.capacity → ∀ fields, (s.tables.get id).recs[r.index]? = some fields →
        exec (.readRecord r) s = answered (.readRecord r) (reply r 4 0 r.table r.index fields) s)) ∧
    (48 ≤ r.index → exec (.readFan r) s = answered (.readFan r) (reply r 6 2 0 0 []) s) ∧
    (r.index < 48 → ∀ u : FanRecord, s.fans.recs[r.index]? = some u →
      let p := u.reported
      let seconds := fun (x : Option Nat) => byte (((x.getD 0) + 999) / 1000)
      let age := match p.takenAt with | none => 255 | some h => min 254 ((s.clock - h) / 1000)
      let exchange : List Byte := match u.exchange with
        | .closed => [0, 0, 0, 0]
        | .opened x n w => [(match w with | .ack _ => 1 | .resend _ => 2), byte x.number,
            byte (actionCode x.action + 2 * driveCode x.dir + 4 * stepCode x.step), byte n]
      ∀ position, (r.index ∉ s.fans.queue → position = 0) →
        (r.index ∈ s.fans.queue → ∃ k, position = k + 1 ∧ s.fans.queue[k]? = some r.index ∧
          ∀ j < k, s.fans.queue[j]? ≠ some r.index) →
        exec (.readFan r) s = answered (.readFan r) (reply r 6 0 0 0
          ([byte (driveStateCode p.drive), byte (driveCode p.dir + 2 * stepCode p.step), byte p.number,
            byte (cmdOriginCode p.origin), byte p.seconds] ++ beS16 p.temperature ++
           [byte (tripCode p.trip), byte age, byte (fanStateCode u.state), byte (wantedCode u.wanted),
            byte (stepCode u.step), byte u.fullFails, byte u.halfFails,
            byte (bit u.failed 1 + bit u.lost 2 + bit p.injected 4), byte u.lastIssued] ++ exchange ++
           [seconds u.dwell, seconds u.start, byte position])) s) ∧
    (15 < r.index ∨ (1 ≤ r.index ∧ r.index ≤ 4 ∧ s.incidents.list.length < r.index) →
      exec (.readState r) s = answered (.readState r) (reply r 5 2 0 0 []) s) ∧
    (∀ page, statePage s r.index = some page →
      exec (.readState r) s = answered (.readState r) (reply r 5 0 0 0 page) s) ∧
    statePage s 0 = some ([0x64, 0x12, 0x01, byte (authCode s.auth.state), byte (flagCode s.auth.dryRun),
      byte (flagCode s.port.inSilent), (if s.tables.store = .idle then 0 else 1), byte (flagCode s.tables.imageFault),
      byte (validityCode s.tables.global.validity), byte (validityCode s.tables.zones.validity),
      byte (validityCode s.tables.stations.validity), byte (validityCode s.tables.fans.validity),
      byte (validityCode s.tables.groups.validity), byte (validityCode s.tables.hash.validity),
      byte (validityCode s.tables.directory.validity), byte (validityCode s.tables.scenarios.validity),
      byte s.incidents.list.length, byte (headNumber s), byte (s.incidents.candidates.countP Option.isSome),
      byte (s.trains.countP Option.isSome),
      byte (s.trains.countP fun o => o.any fun q => decide (q.takenAt + 10000 < s.clock)),
      byte (bit s.outs.incident 1 + bit s.outs.auth 2 + bit s.outs.fault 4)]) ∧
    (let up := fun (x : Option Nat) => be16 (((x.getD 0) + 999) / 1000)
    let train := fun (x : Option Nat) => match x with | none => [0, 0, 0] | some n => (1 : Byte) :: be16 n
    let scenario := fun (x : ScenarioRef) => match x with | .record n => byte n | .fallback => 255 | .none => 254
    let way := fun (x : Option Dir) => match x with | some .towardB => (1 : Byte) | _ => 0
    let phase := fun (x : Option Phase) => match x with
      | none => (255 : Byte) | some .delay => 0 | some .staging => 1 | some .regulating => 2
    let place := fun (k : Nat) => match s.plan.selection[k]? with | some f => byte f | none => 255
    (∀ (k : Nat) (i : Incident), k < 4 → s.incidents.list[k]? = some i → statePage s (k + 1) = some ([byte i.number] ++
      be16 i.chainage ++ [byte (chSourceCode i.source), byte i.zone, byte i.severity, byte (originCode i.origin)] ++
      train i.train ++ be16 (min 65535 ((s.clock - i.listedAt) / 1000)) ++
      (match i.state with | .head => [0, phase i.phase] | .suspended => [1, 255]) ++
      (match i.saved with
       | none => [0, 0, 0, 0, 0, 0, 0, 0, 0]
       | some p => [1, scenario p.scenario, way p.dir, byte (flagCode p.locked)] ++ up p.lockTimer ++ be16 p.demand ++
          [byte (flagCode p.saturated)]))) ∧
    statePage s 5 = some ((match s.live with
        | none => [254, 0, 0, 0, 0, 0, 0, 0]
        | some l => [scenario l.scenario, byte (causeCode l.cause), way l.dir, byte (flagCode l.locked)] ++ up l.lockTimer ++
          (match l.under with | none => [0, 0] | some u => [byte u.1, byte u.2])) ++
      be16 s.plan.demand ++ [byte (flagCode s.plan.saturated)] ++ be16 s.plan.shortfall ++
      [phase (headPhase s), byte s.plan.selection.length]) ∧
    statePage s 6 = some (byte s.plan.selection.length :: (List.range 24).map place) ∧
    statePage s 7 = some (byte s.plan.selection.length :: (List.range 24).map fun k => place (24 + k)) ∧
    (∀ k < 8,
      (∀ c : Candidate, s.incidents.candidates[k]? = some (some c) →
        statePage s (8 + k) = some ([if c.confirmedAt = none then 1 else 2] ++ be16 c.chainage ++
          [byte (chSourceCode c.source), byte (sourceSetCode c.set)] ++ train c.train ++ [byte (flagCode c.stopped)] ++
          be16 ((s.clock - c.createdAt) / 1000) ++ up (some (c.deadline - s.clock)))) ∧
      ((∀ c : Candidate, s.incidents.candidates[k]? ≠ some (some c)) →
        statePage s (8 + k) = some (List.replicate 13 0)))) ∧
    (let k := s.port.counters
    exec (.readCounters r) s = .next (ended (offerReport
      (reply r 7 0 0 0 (be16 k.good ++ [byte k.bad, byte k.forwardOverrun, byte k.reportDrop, byte k.commandDrop,
        byte k.unknownSource, byte k.roleMismatch, (if k.activity = true then 1 else 0), byte s.auth.intercepted]))
      { taken (.readCounters r) s with
        port := { s.port with counters := ⟨0, 0, 0, 0, 0, 0, 0, false⟩ }
        auth := { s.auth with intercepted := 0 } })))

/-! ## Stored image -/

/-- R204, R212: STORE TABLES is refused with a table LOADING, IN_PROGRESS with the engine running, and otherwise answered
DONE as address 0 is written with 0x00; each write that the ready status shows ready is followed by the next, pages 0 to
73 and address 0 with 0x5C, after which the STORE ends as done; a write not ready within 20 ms ends it as failed. No other
byte changes, nor any table. The transfers are those of R212: 0x06, then 0x02 with address and bytes, and 0x05 with a
status byte whose bit 0 shows busy and whose other bits are free (log 34). A device that does not answer takes nothing
and reads 0xFF, busy. When the signature lands is log 8's, the notice's index log 15's. -/
def Obligations.StoreWritesTheImage : Prop :=
  let written := fun (t : TableStore) (w : StoreWrite) => match w with
    | .clearSignature => (0, [0x00])
    | .page n => (64 * n, ((imageBytes t).drop (64 * n)).take 64)
    | .setSignature => (0, [(0x5C : Byte)])
  let transfers := fun (t : TableStore) (w : StoreWrite) =>
    let p := written t w
    [(⟨[0x06], []⟩ : Transfer), ⟨0x02 :: (be16 p.1 ++ p.2), []⟩]
  (∀ (r : Request) (s : State), serving s = true → allowed s r →
    let c := Instr.storeTables r
    let loading := ∃ id, (s.tables.get id).validity = .loading
    (loading → exec c s = answered c (reply r 8 1 0 0 []) s) ∧
    (¬ loading → s.tables.store ≠ .idle → exec c s = answered c (reply r 8 4 0 0 []) s) ∧
    (¬ loading → s.tables.store = .idle →
      exec c s = .next (ended { offerReport (reply r 8 0 0 0 []) (taken c s) with
        eeprom := { s.eeprom with cells := if s.eeprom.answers = true then memWrite s.eeprom.cells 0 0
          else s.eeprom.cells }
        tables := { s.tables with
          store := .running .clearSignature 20
          port := ⟨.writing, [⟨[0x06], []⟩, ⟨[0x02, 0, 0, 0], []⟩]⟩ } }))) ∧
  (∀ (s : State) (left : Nat), quiet s = true → Memory.wf s.eeprom.cells = true →
    let before := s.eeprom.cells
    let writes := fun (w : StoreWrite) (m : List Host.Cell) =>
      ∃ b : Byte, b.getLsbD 0 = false ∧ exec .storeWriteReady s = .next (ended { s with
        eeprom := { s.eeprom with cells := m }
        draws := s.draws + 1
        tables := { s.tables with
          store := .running w 20
          port := ⟨.writing, ⟨[0x05], [b]⟩ :: transfers s.tables w⟩ } })
    let page := fun (n : Nat) =>
      let bs := ((imageBytes s.tables).drop (64 * n)).take 64
      ∃ m, writes (.page n) m ∧
        ∀ a, memRead m a =
          if 64 * n ≤ a ∧ a < 64 * n + bs.length then bs.getD (a - 64 * n) 0 else memRead before a
    let ends := fun (w : StoreWrite) (failed : Bool) (b : Byte) (m : List Host.Cell) => { s with
      eeprom := { s.eeprom with cells := m }
      draws := s.draws + 1
      tables := { s.tables with
        store := .idle
        imageFault := failed
        port := ⟨.idle, transfers s.tables w ++ [⟨[0x05], [b]⟩]⟩ } }
    let tell := fun (v : Nat) => report (noticeDest s) 0x49 [0x16, byte (headNumber s), 0, byte v, 3, 0, 0]
    (s.eeprom.answers = true →
      (s.tables.store = .running .clearSignature left → page 0) ∧
      (∀ n < 73, s.tables.store = .running (.page n) left → page (n + 1)) ∧
      (s.tables.store = .running (.page 73) left → writes .setSignature before) ∧
      (s.tables.store = .running .setSignature left →
        ∃ b : Byte, b.getLsbD 0 = false ∧ exec .storeWriteReady s =
          .next (ended (offerReport (tell 2) (ends .setSignature false b (memWrite before 0 0x5C)))))) ∧
    (s.eeprom.answers = false → ∀ w, s.tables.store = .running w left →
      exec .storeWriteReady s = .next (ended { s with
        draws := s.draws + 1
        tables := { s.tables with port := { s.tables.port with
          transfers := transfers s.tables w ++ [⟨[0x05], [0xFF]⟩] } } })) ∧
    (∀ w, s.tables.store = .running w 0 →
      ∃ b : Byte, b.getLsbD 0 = true ∧ (s.eeprom.answers = false → b = 0xFF) ∧
        exec .storeWriteTimeout s = .next (ended (offerReport (tell 0) (ends w true b before)))))

/-- R203, R172, R183: at the end of the start-up load an image without its signature leaves every table as the reset left
it with the fault indication clear, one with a wrong CRC leaves them so with it set, and a good one is taken into RAM
record by record, every record below a stored count taken as written (the two parts of the global record, log 27). A
table it does not hold as VALID is INVALID with its stored count (log 15; a state byte other than 0 and 2, or a count
beyond the capacity: log 44); those it holds as VALID are closed in the order global, zones, groups, fans, stations,
hash, scenarios, directory, and a table becomes VALID exactly when the checks of R196 pass with the tables before it
in that order as they then stand. The reads are those of R212. Authority becomes MONITOR with the geometry set VALID,
else UNCONFIGURED; with the global record VALID its own address is taken (R6, R7) and a hold of 0 is offered. Whether
the device answers is the command's operand (log 7). -/
def Obligations.StartUpLoadTakesTheImage : Prop :=
  ∀ (answers : Bool) (s : State), s.chip.inReset = false → s.chip.testMode = false → quiet s = true →
    s.auth.state = .starting → s.live = none → (∀ o ∈ s.trains, o = none) →
    let c := Instr.startUpLoadEnd answers
    let read := fun a => if answers = true then memRead s.eeprom.cells a else 0xFF
    let body := (List.range 4700).map fun i => read (i + 1)
    let crcRight := at16 [read 4701, read 4702] 0 = crc16 (0x5C :: body)
    let start := fun (id : TableId) => match id with
      | .global => 1 | .zones => 47 | .stations => 177 | .fans => 883
      | .groups => 1317 | .hash => 1367 | .directory => 1433 | .scenarios => 1499
    let order : List TableId := [.global, .zones, .groups, .fans, .stations, .hash, .scenarios, .directory]
    ∃ t, exec c s = .next t ∧
      t = { s with
        outs := t.outs
        port := t.port
        auth := t.auth
        tables := t.tables
        eeprom := { s.eeprom with answers := answers } } ∧
      t.tables.imageFault = decide (read 0 = 0x5C ∧ ¬ crcRight) ∧ t.tables.store = s.tables.store ∧
      t.tables.port = ⟨.idle, ⟨[0x03, 0, 0], [read 0]⟩ ::
        (if read 0 = 0x5C then [⟨[0x03, 0, 1], (List.range 4702).map fun i => read (i + 1)⟩] else [])⟩ ∧
      (read 0 ≠ 0x5C ∨ ¬ crcRight →
        (∀ id, t.tables.get id = s.tables.get id) ∧ t.tables.params = s.tables.params) ∧
      (read 0 = 0x5C → crcRight →
        t.tables.params = (if t.tables.global.isValid = true then paramsOf t.tables.global else s.tables.params) ∧
        ∀ id,
          let n := (read (start id + 1)).toNat
          let then_ := (order.dropWhile fun j => decide (j ≠ id)).foldl
            (fun (u : TableStore) j => u.set j { u.get j with validity := .invalid }) t.tables
          (∀ i j, i < id.capacity → j < id.recordSize →
            (t.tables.get id).recs.length = id.capacity ∧
            ((t.tables.get id).fields i)[j]? = some (read (start id + 2 + i * id.recordSize + j))) ∧
          (t.tables.get id).written = (List.range id.capacity).map (fun i => decide (i < (if id = .global then 2 * n else n))) ∧
          ((read (start id)).toNat ≠ 2 → (t.tables.get id).validity = .invalid ∧ (t.tables.get id).count = n) ∧
          ((read (start id)).toNat = 2 →
            (closeCheck then_ id n = none → (t.tables.get id).validity = .valid ∧ (t.tables.get id).count =
              (if id = .global then 1 else if id = .hash then 64 else n)) ∧
            (closeCheck then_ id n ≠ none →
              (t.tables.get id).validity = .invalid ∧ (t.tables.get id).count = 0))) ∧
      t.auth = { s.auth with
        state := if t.tables.geometryValid = true then .monitor else .unconfigured
        lastHold := if t.tables.global.isValid = true then some s.clock else s.auth.lastHold } ∧
      t.port.ownAddr =
        (if t.tables.global.isValid = true then t.params.ownAddr else 0x7F00 + s.chip.strap.toNat) ∧
      t.port.earlier =
        (if t.port.ownAddr = s.port.ownAddr then s.port.earlier else some (s.port.ownAddr, 1000)) ∧
      (∀ x, t.tables.global.isValid = true → s.port.out = some x → s.port.commands.length < 16 →
        t.port.commands = s.port.commands ++ [report t.params.noticeGroup 0x48 [0, 0]])

/-! ## Commissioning -/

/-- R199, R184, R53, R66, R167: SET TEST MODE. On is refused while an incident is listed and sets the dry-run flag otherwise;
off with the flag on empties the list and the candidates, settles authority, clears the flag, makes the samples and the
reported parts with an injected mark absent and removes the trains with one; off with the flag off changes nothing; any
other setting is BAD_VALUE. The reported part is emptied whole (log 36). -/
def Obligations.TestModeTurnsDryRunOnAndOff : Prop :=
  ∀ (r : Request) (v : Byte) (rest : List Byte) (s : State), serving s = true → allowed s r → r.fields = v :: rest →
    let c := Instr.setTestMode r
    (1 < v.toNat → exec c s = answered c (reply r 9 3 0 0 []) s) ∧
    (v = 1 → s.incidents.list ≠ [] → exec c s = answered c (reply r 9 1 0 0 []) s) ∧
    (v = 1 → s.incidents.list = [] → exec c s = .next (ended (offerReport (reply r 9 0 0 0 [])
      { taken c s with auth := { s.auth with dryRun := true } }))) ∧
    (v = 0 → s.auth.dryRun = false → exec c s = answered c (reply r 9 0 0 0 []) s) ∧
    (v = 0 → s.auth.dryRun = true → ∃ t, exec c s = .next t ∧
      t.auth.dryRun = false ∧ t.incidents.list = [] ∧ (∀ o ∈ t.incidents.candidates, o = none) ∧
      t.outs.incident = false ∧ t.outs.auth = decide (t.auth.state = .autonomous) ∧
      (s.incidents.list ≠ [] → t.live = none ∧ t.plan = ⟨0, false, [], 0, none⟩ ∧ t.fans.inCommand = false ∧
        (s.auth.state = .autonomous ∨ s.auth.state = .released → t.auth.state = .monitor)) ∧
      t.samples = s.samples.map (fun m => if m.injected = true then ⟨none, .armed, false, none, false⟩ else m) ∧
      t.trains = s.trains.map (fun o => o.bind fun q => if q.injected = true then none else some q) ∧
      (∀ (f : Nat) (m : FanRecord), s.fans.recs[f]? = some m → ∃ u, t.fans.recs[f]? = some u ∧
        u.reported = (if m.reported.injected = true then .unknown else m.reported)) ∧
      planningOnly { taken c s with samples := t.samples, trains := t.trains } t)

/-- R200, R52, R66, R167: INJECT is refused out of dry run and BAD_VALUE for a kind outside the six or a malformed payload.
A sample is NO_SUCH for an entry not in use, BAD_VALUE for a role that does not use the kind, and otherwise taken with the
injected mark; a velocity sample is stated exactly, with its 16 data bytes. A train report stands with the mark in
the slot that R58 gives (`slotFor`: the slot that holds its train, else the lowest FREE one, else the earliest record's);
a departure of a train held frees its slot, and of one not held is NO_SUCH. A fan status is NO_SUCH at or above the fan
count, and else taken with the mark. No response carries an index: the request has no table code (R20; log 14). -/
def Obligations.InjectionTakesARecord : Prop :=
  ∀ (r : Request) (kind : Byte) (payload : List Byte) (s : State), serving s = true → allowed s r →
    r.fields = kind :: payload →
    let c := Instr.inject r
    let i := r.index
    let gives := fun status => answered c (reply r 10 status 0 0 []) s
    let parsed := observationCommand kind.toNat i payload
    (s.auth.dryRun = false → exec c s = gives 1) ∧
    (s.auth.dryRun = true →
      (parsed = none → exec c s = gives 3) ∧
      (kind.toNat ∈ [0x10, 0x11, 0x12, 0x13] → parsed ≠ none →
        (stationInUse s.tables i = false → exec c s = gives 2) ∧
        (stationInUse s.tables i = true →
          (∀ role, stationRole s.tables i = some role → useKind role ≠ some kind.toNat) → exec c s = gives 3) ∧
        (∀ role m, stationInUse s.tables i = true → stationRole s.tables i = some role →
          useKind role = some kind.toNat → s.samples[i]? = some m →
          ∃ t u x, exec c s = .next t ∧ t.samples = s.samples.set i u ∧ u.injected = true ∧ u.sample = some x ∧
            x.takenAt = s.clock ∧ planningOnly { taken c s with samples := t.samples } t)) ∧
      (∀ v q m, parsed = some (.velocitySample i v q) → stationHasRole s.tables i .anemometer = true →
        s.samples[i]? = some m →
        let w : Int := max (-2000) (min 2000 v)
        let beyond := decide (v < -2000 ∨ 2000 < v)
        exec c s = .next (ended (offerReport (reply r 10 0 0 0 (beS16 w ++
            [byte (qualityCode q), byte (flagCode beyond)] ++ be48 s.clock ++
            [0, 0, byte (1 + bit m.lastEvent.isSome 2), byte (flagCode m.faultLock)] ++ be16 (m.lastEvent.getD 0)))
          { taken c s with samples := s.samples.set i { m with
            sample := some ⟨some w, q, beyond, s.clock, none, none⟩
            injected := true } }))) ∧
      (∀ p, parsed = some (.trainReport p) →
        let leaving := p.leftBore = true ∨ (s.params.L < p.head ∧ s.params.L < p.tail)
        (leaving → (∀ q : Train, some q ∈ s.trains → q.id ≠ p.id) → exec c s = gives 2) ∧
        (leaving → ∀ (k : Nat) (q : Train), s.trains[k]? = some (some q) → q.id = p.id →
          (∀ j < k, ∀ q' : Train, s.trains[j]? = some (some q') → q'.id ≠ p.id) →
          ∃ t, exec c s = .next t ∧ t.trains = s.trains.set k none ∧
            planningOnly { taken c s with trains := t.trains } t) ∧
        (¬ leaving → s.trains ≠ [] → ∃ t, exec c s = .next t ∧
          t.trains = s.trains.set (slotFor s p.id).1 (some
            ⟨p.id, p.head, p.tail, p.dir, min p.speed 5000, p.stopped, p.fire, p.offset, s.clock, true⟩) ∧
          (slotFor s p.id).1 < s.trains.length ∧ planningOnly { taken c s with trains := t.trains } t)) ∧
      (∀ st, parsed = some (.fanStatus i st) →
        (s.tables.fans.count ≤ i → exec c s = gives 2) ∧
        (∀ m, i < s.tables.fans.count → s.fans.recs[i]? = some m → ∃ t u, exec c s = .next t ∧
          t.fans.recs[i]? = some u ∧
          u.reported = ⟨st.drive, st.dir, st.step, st.number, st.origin, st.seconds, st.temperature, st.trip,
            some s.clock, true⟩ ∧ planningOnly (taken c s) t)))

/-- R201: SOFT RESET is refused in AUTONOMOUS. Otherwise its DONE response enters the report class; the part resets as
RESET_N resets it when the response's transmission ends, or at once where a full queue discards the response, also
where a command offered later displaces it (R12), as the hold of 0 of a release can (R179), and not at all when
authority has become AUTONOMOUS (the moment of that test is log 20's). -/
def Obligations.SoftResetWaitsForItsResponse : Prop :=
  (∀ (r : Request) (s : State), serving s = true → allowed s r →
    let c := Instr.softReset r
    let q : QFrame := { reply r 11 0 0 0 [] with softReset := true }
    (s.auth.state = .autonomous → exec c s = answered c (reply r 11 1 0 0 []) s) ∧
    (s.auth.state ≠ .autonomous →
      (s.port.commands.length + s.port.reports.length < 16 → ∀ x, s.port.out = some x →
        exec c s = .next (ended { taken c s with port := { s.port with reports := s.port.reports ++ [q] } })) ∧
      (s.port.out = none → s.port.forward = [] → s.port.commands = [] → s.port.reports = [] →
        exec c s = .next (ended { taken c s with port := { s.port with
          out := some ⟨frameBytes q.dest s.port.ownAddr q.kind s.port.sequence q.payload, true⟩
          mark := .insert
          sequence := (s.port.sequence + 1) % 256 } })) ∧
      (16 ≤ s.port.commands.length + s.port.reports.length →
        exec c s = .next (State.afterReset s.chip.pinAddr false s.pending s.eeprom s.draws)))) ∧
  (∀ (q y : QFrame) (rs : List QFrame) (s : State), s.chip.testMode = false → s.chip.softResetDue = false →
    16 ≤ s.port.commands.length + s.port.reports.length → s.port.reports = rs ++ [y] → y.softReset = true →
    (s.auth.state ≠ .autonomous →
      finish (offerCommand q s) = .next (State.afterReset s.chip.pinAddr false s.pending s.eeprom s.draws)) ∧
    (s.auth.state = .autonomous → ∀ x, s.port.out = some x →
      offerCommand q s = { s with port := { s.port with
        reports := rs
        commands := s.port.commands ++ [q]
        counters := { s.port.counters with reportDrop := min 255 (s.port.counters.reportDrop + 1) } } }) ∧
    (inService s = true → s.auth.state = .autonomous → 0 < s.auth.holdRemaining →
      (∀ c ∈ s.port.commands, c.kind ≠ 0x30) →
      exec (.authorityRelease 0) s =
        .next (State.afterReset s.chip.pinAddr false s.pending s.eeprom s.draws))) ∧
  (∀ (s : State) (bytes : List Byte), s.chip.testMode = false → s.chip.softResetDue = false →
    s.port.out = some ⟨bytes, true⟩ →
    (s.auth.state ≠ .autonomous →
      exec .transmissionEnd s = .next (State.afterReset s.chip.pinAddr false s.pending s.eeprom s.draws)) ∧
    (s.auth.state = .autonomous → s.port.forward = [] → s.port.commands = [] → s.port.reports = [] →
      exec .transmissionEnd s = .next (ended { s with port := { s.port with out := none } })))

/-- R209, R210, R211: in the continuity test a test frame is offered every 10 ms, counts as sent and stands outstanding for
100 ms as its transmission begins, on an idle OUT at once and else when the end of a transmission lets the arbiter serve it,
and is lost at its deadline. A frame on IN is returned-bad when bad, returned-good when
it is an outstanding test frame and whole, returned-bad when it is another test frame of the part; READ COUNTERS is
answered with the nine bytes, whatever its source, and clears the four counters; any other valid frame is removed. That a
READ COUNTERS frame is answered in the step of TEST_FRAME_RECEIVED, and that TEST_READ_COUNTERS answers once more without
restarting the silence timer, is the model's choice (log 31). -/
def Obligations.ContinuityTestCountsItsFrames : Prop :=
  ∀ (s : State), s.chip.testMode = true → s.chip.inReset = false → s.chip.softResetDue = false →
    let own := 0x7F00 + s.chip.strap.toNat
    let pattern := fun n => be16 n ++ (List.range 30).map fun k => byte (n + (k + 2))
    let next : LoopTest := { s.test with number := (s.test.number + 1) % 65536, offerIn := 10 }
    let silent : Port := { s.port with silence := 0, inSilent := false, silentFor := 0 }
    let counters := fun (source sequence : Nat) (u : State) => ended (offerReport
      (report source 0x51 ([byte sequence, 7, 0, 0, 0, 0, 0] ++
        be16 s.test.sent ++ be16 s.test.good ++ be16 s.test.bad ++ be16 s.test.lost ++
        [byte s.test.outstanding.length]))
      { u with test := { s.test with sent := 0, good := 0, bad := 0, lost := 0 } })
    (s.test.offerIn = 0 →
      (∀ x, s.port.out = some x → s.port.commands.length + s.port.reports.length < 16 →
        exec .testFrameOffer s = .next (ended { s with
          port := { s.port with commands := s.port.commands ++ [report own 0x5A (pattern s.test.number)] }
          test := next })) ∧
      (s.port.out = none → s.port.forward = [] → s.port.commands = [] → s.port.reports = [] → s.test.number < 65536 →
        exec .testFrameOffer s = .next (ended { s with
          port := { s.port with
            out := some ⟨frameBytes own s.port.ownAddr 0x5A s.port.sequence (pattern s.test.number), false⟩
            mark := .insert
            sequence := (s.port.sequence + 1) % 256 }
          test := { next with
            sent := min 65535 (s.test.sent + 1)
            outstanding := s.test.outstanding ++ [(s.test.number, 100)] } }))) ∧
    (∀ (x : TxFrame) (n : Nat) (qs : List QFrame), s.port.out = some x → x.softReset = false → n < 65536 →
      s.port.commands = report own 0x5A (pattern n) :: qs → s.port.mark = .forward ∨ s.port.forward = [] →
      exec .transmissionEnd s = .next (ended { s with
        port := { s.port with
          commands := qs
          out := some ⟨frameBytes own s.port.ownAddr 0x5A s.port.sequence (pattern n), false⟩
          mark := .insert
          sequence := (s.port.sequence + 1) % 256 }
        test := { s.test with
          sent := min 65535 (s.test.sent + 1)
          outstanding := s.test.outstanding ++ [(n, 100)] } })) ∧
    (∀ n, (n, 0) ∈ s.test.outstanding → exec (.testFrameDeadline n) s = .next (ended { s with test := { s.test with
      lost := min 65535 (s.test.lost + 1)
      outstanding := s.test.outstanding.filter fun o => decide (o.1 ≠ n) } })) ∧
    (∀ bytes,
      let f := frameOf bytes
      let bad : LoopTest := { s.test with bad := min 65535 (s.test.bad + 1) }
      let n := at16 f.payload 0
      let whole := (∃ left, (n, left) ∈ s.test.outstanding) ∧ f.payload = pattern n
      (isBad bytes = true → exec (.testFrameReceived bytes) s = .next (ended { s with test := bad })) ∧
      (isBad bytes = false →
        (f.source = own → f.kind = 0x5A →
          (whole → exec (.testFrameReceived bytes) s = .next (ended { s with
            port := silent
            test := { s.test with
              good := min 65535 (s.test.good + 1)
              outstanding := s.test.outstanding.filter fun o => decide (o.1 ≠ n) } })) ∧
          (¬ whole → exec (.testFrameReceived bytes) s = .next (ended { s with port := silent, test := bad }))) ∧
        (¬ (f.source = own ∧ f.kind = 0x5A) →
          let reads := f.dest = own ∧ f.kind = 0x50 ∧ 4 ≤ f.payload.length ∧ at8 f.payload 0 = 7
          (reads → exec (.testFrameReceived bytes) s =
            .next (counters f.source f.sequence { s with port := silent })) ∧
          (¬ reads → exec (.testFrameReceived bytes) s = .next (ended { s with port := silent }))))) ∧
    (∀ source sequence, exec (.testReadCounters source sequence) s = .next (counters source sequence s))
end

