-- ==== Sys2Proof/Laws/State.lean ====
section
/-!
SUPPORT. One lemma per field per update of State.
-/

namespace Sys2Proof.Machine

@[simp] theorem State.setPending_pending (s : State) (x : List Instr) : (s.setPending x).pending = x := rfl
@[simp] theorem State.setPending_dispatched (s : State) (x : List Instr) : (s.setPending x).dispatched = s.dispatched := rfl
@[simp] theorem State.setPending_clock (s : State) (x : List Instr) : (s.setPending x).clock = s.clock := rfl
@[simp] theorem State.setPending_chip (s : State) (x : List Instr) : (s.setPending x).chip = s.chip := rfl
@[simp] theorem State.setPending_outs (s : State) (x : List Instr) : (s.setPending x).outs = s.outs := rfl
@[simp] theorem State.setPending_port (s : State) (x : List Instr) : (s.setPending x).port = s.port := rfl
@[simp] theorem State.setPending_samples (s : State) (x : List Instr) : (s.setPending x).samples = s.samples := rfl
@[simp] theorem State.setPending_trains (s : State) (x : List Instr) : (s.setPending x).trains = s.trains := rfl
@[simp] theorem State.setPending_incidents (s : State) (x : List Instr) : (s.setPending x).incidents = s.incidents := rfl
@[simp] theorem State.setPending_live (s : State) (x : List Instr) : (s.setPending x).live = s.live := rfl
@[simp] theorem State.setPending_plan (s : State) (x : List Instr) : (s.setPending x).plan = s.plan := rfl
@[simp] theorem State.setPending_fans (s : State) (x : List Instr) : (s.setPending x).fans = s.fans := rfl
@[simp] theorem State.setPending_auth (s : State) (x : List Instr) : (s.setPending x).auth = s.auth := rfl
@[simp] theorem State.setPending_tables (s : State) (x : List Instr) : (s.setPending x).tables = s.tables := rfl
@[simp] theorem State.setPending_eeprom (s : State) (x : List Instr) : (s.setPending x).eeprom = s.eeprom := rfl
@[simp] theorem State.setPending_test (s : State) (x : List Instr) : (s.setPending x).test = s.test := rfl
@[simp] theorem State.setPending_draws (s : State) (x : List Instr) : (s.setPending x).draws = s.draws := rfl
@[simp] theorem State.setDispatched_pending (s : State) (x : List Dispatch) : (s.setDispatched x).pending = s.pending := rfl
@[simp] theorem State.setDispatched_dispatched (s : State) (x : List Dispatch) : (s.setDispatched x).dispatched = x := rfl
@[simp] theorem State.setDispatched_clock (s : State) (x : List Dispatch) : (s.setDispatched x).clock = s.clock := rfl
@[simp] theorem State.setDispatched_chip (s : State) (x : List Dispatch) : (s.setDispatched x).chip = s.chip := rfl
@[simp] theorem State.setDispatched_outs (s : State) (x : List Dispatch) : (s.setDispatched x).outs = s.outs := rfl
@[simp] theorem State.setDispatched_port (s : State) (x : List Dispatch) : (s.setDispatched x).port = s.port := rfl
@[simp] theorem State.setDispatched_samples (s : State) (x : List Dispatch) : (s.setDispatched x).samples = s.samples := rfl
@[simp] theorem State.setDispatched_trains (s : State) (x : List Dispatch) : (s.setDispatched x).trains = s.trains := rfl
@[simp] theorem State.setDispatched_incidents (s : State) (x : List Dispatch) : (s.setDispatched x).incidents = s.incidents := rfl
@[simp] theorem State.setDispatched_live (s : State) (x : List Dispatch) : (s.setDispatched x).live = s.live := rfl
@[simp] theorem State.setDispatched_plan (s : State) (x : List Dispatch) : (s.setDispatched x).plan = s.plan := rfl
@[simp] theorem State.setDispatched_fans (s : State) (x : List Dispatch) : (s.setDispatched x).fans = s.fans := rfl
@[simp] theorem State.setDispatched_auth (s : State) (x : List Dispatch) : (s.setDispatched x).auth = s.auth := rfl
@[simp] theorem State.setDispatched_tables (s : State) (x : List Dispatch) : (s.setDispatched x).tables = s.tables := rfl
@[simp] theorem State.setDispatched_eeprom (s : State) (x : List Dispatch) : (s.setDispatched x).eeprom = s.eeprom := rfl
@[simp] theorem State.setDispatched_test (s : State) (x : List Dispatch) : (s.setDispatched x).test = s.test := rfl
@[simp] theorem State.setDispatched_draws (s : State) (x : List Dispatch) : (s.setDispatched x).draws = s.draws := rfl
@[simp] theorem State.setClock_pending (s : State) (x : Nat) : (s.setClock x).pending = s.pending := rfl
@[simp] theorem State.setClock_dispatched (s : State) (x : Nat) : (s.setClock x).dispatched = s.dispatched := rfl
@[simp] theorem State.setClock_clock (s : State) (x : Nat) : (s.setClock x).clock = x := rfl
@[simp] theorem State.setClock_chip (s : State) (x : Nat) : (s.setClock x).chip = s.chip := rfl
@[simp] theorem State.setClock_outs (s : State) (x : Nat) : (s.setClock x).outs = s.outs := rfl
@[simp] theorem State.setClock_port (s : State) (x : Nat) : (s.setClock x).port = s.port := rfl
@[simp] theorem State.setClock_samples (s : State) (x : Nat) : (s.setClock x).samples = s.samples := rfl
@[simp] theorem State.setClock_trains (s : State) (x : Nat) : (s.setClock x).trains = s.trains := rfl
@[simp] theorem State.setClock_incidents (s : State) (x : Nat) : (s.setClock x).incidents = s.incidents := rfl
@[simp] theorem State.setClock_live (s : State) (x : Nat) : (s.setClock x).live = s.live := rfl
@[simp] theorem State.setClock_plan (s : State) (x : Nat) : (s.setClock x).plan = s.plan := rfl
@[simp] theorem State.setClock_fans (s : State) (x : Nat) : (s.setClock x).fans = s.fans := rfl
@[simp] theorem State.setClock_auth (s : State) (x : Nat) : (s.setClock x).auth = s.auth := rfl
@[simp] theorem State.setClock_tables (s : State) (x : Nat) : (s.setClock x).tables = s.tables := rfl
@[simp] theorem State.setClock_eeprom (s : State) (x : Nat) : (s.setClock x).eeprom = s.eeprom := rfl
@[simp] theorem State.setClock_test (s : State) (x : Nat) : (s.setClock x).test = s.test := rfl
@[simp] theorem State.setClock_draws (s : State) (x : Nat) : (s.setClock x).draws = s.draws := rfl
@[simp] theorem State.setChip_pending (s : State) (x : Chip) : (s.setChip x).pending = s.pending := rfl
@[simp] theorem State.setChip_dispatched (s : State) (x : Chip) : (s.setChip x).dispatched = s.dispatched := rfl
@[simp] theorem State.setChip_clock (s : State) (x : Chip) : (s.setChip x).clock = s.clock := rfl
@[simp] theorem State.setChip_chip (s : State) (x : Chip) : (s.setChip x).chip = x := rfl
@[simp] theorem State.setChip_outs (s : State) (x : Chip) : (s.setChip x).outs = s.outs := rfl
@[simp] theorem State.setChip_port (s : State) (x : Chip) : (s.setChip x).port = s.port := rfl
@[simp] theorem State.setChip_samples (s : State) (x : Chip) : (s.setChip x).samples = s.samples := rfl
@[simp] theorem State.setChip_trains (s : State) (x : Chip) : (s.setChip x).trains = s.trains := rfl
@[simp] theorem State.setChip_incidents (s : State) (x : Chip) : (s.setChip x).incidents = s.incidents := rfl
@[simp] theorem State.setChip_live (s : State) (x : Chip) : (s.setChip x).live = s.live := rfl
@[simp] theorem State.setChip_plan (s : State) (x : Chip) : (s.setChip x).plan = s.plan := rfl
@[simp] theorem State.setChip_fans (s : State) (x : Chip) : (s.setChip x).fans = s.fans := rfl
@[simp] theorem State.setChip_auth (s : State) (x : Chip) : (s.setChip x).auth = s.auth := rfl
@[simp] theorem State.setChip_tables (s : State) (x : Chip) : (s.setChip x).tables = s.tables := rfl
@[simp] theorem State.setChip_eeprom (s : State) (x : Chip) : (s.setChip x).eeprom = s.eeprom := rfl
@[simp] theorem State.setChip_test (s : State) (x : Chip) : (s.setChip x).test = s.test := rfl
@[simp] theorem State.setChip_draws (s : State) (x : Chip) : (s.setChip x).draws = s.draws := rfl
@[simp] theorem State.setOuts_pending (s : State) (x : Outputs) : (s.setOuts x).pending = s.pending := rfl
@[simp] theorem State.setOuts_dispatched (s : State) (x : Outputs) : (s.setOuts x).dispatched = s.dispatched := rfl
@[simp] theorem State.setOuts_clock (s : State) (x : Outputs) : (s.setOuts x).clock = s.clock := rfl
@[simp] theorem State.setOuts_chip (s : State) (x : Outputs) : (s.setOuts x).chip = s.chip := rfl
@[simp] theorem State.setOuts_outs (s : State) (x : Outputs) : (s.setOuts x).outs = x := rfl
@[simp] theorem State.setOuts_port (s : State) (x : Outputs) : (s.setOuts x).port = s.port := rfl
@[simp] theorem State.setOuts_samples (s : State) (x : Outputs) : (s.setOuts x).samples = s.samples := rfl
@[simp] theorem State.setOuts_trains (s : State) (x : Outputs) : (s.setOuts x).trains = s.trains := rfl
@[simp] theorem State.setOuts_incidents (s : State) (x : Outputs) : (s.setOuts x).incidents = s.incidents := rfl
@[simp] theorem State.setOuts_live (s : State) (x : Outputs) : (s.setOuts x).live = s.live := rfl
@[simp] theorem State.setOuts_plan (s : State) (x : Outputs) : (s.setOuts x).plan = s.plan := rfl
@[simp] theorem State.setOuts_fans (s : State) (x : Outputs) : (s.setOuts x).fans = s.fans := rfl
@[simp] theorem State.setOuts_auth (s : State) (x : Outputs) : (s.setOuts x).auth = s.auth := rfl
@[simp] theorem State.setOuts_tables (s : State) (x : Outputs) : (s.setOuts x).tables = s.tables := rfl
@[simp] theorem State.setOuts_eeprom (s : State) (x : Outputs) : (s.setOuts x).eeprom = s.eeprom := rfl
@[simp] theorem State.setOuts_test (s : State) (x : Outputs) : (s.setOuts x).test = s.test := rfl
@[simp] theorem State.setOuts_draws (s : State) (x : Outputs) : (s.setOuts x).draws = s.draws := rfl
@[simp] theorem State.setPort_pending (s : State) (x : Port) : (s.setPort x).pending = s.pending := rfl
@[simp] theorem State.setPort_dispatched (s : State) (x : Port) : (s.setPort x).dispatched = s.dispatched := rfl
@[simp] theorem State.setPort_clock (s : State) (x : Port) : (s.setPort x).clock = s.clock := rfl
@[simp] theorem State.setPort_chip (s : State) (x : Port) : (s.setPort x).chip = s.chip := rfl
@[simp] theorem State.setPort_outs (s : State) (x : Port) : (s.setPort x).outs = s.outs := rfl
@[simp] theorem State.setPort_port (s : State) (x : Port) : (s.setPort x).port = x := rfl
@[simp] theorem State.setPort_samples (s : State) (x : Port) : (s.setPort x).samples = s.samples := rfl
@[simp] theorem State.setPort_trains (s : State) (x : Port) : (s.setPort x).trains = s.trains := rfl
@[simp] theorem State.setPort_incidents (s : State) (x : Port) : (s.setPort x).incidents = s.incidents := rfl
@[simp] theorem State.setPort_live (s : State) (x : Port) : (s.setPort x).live = s.live := rfl
@[simp] theorem State.setPort_plan (s : State) (x : Port) : (s.setPort x).plan = s.plan := rfl
@[simp] theorem State.setPort_fans (s : State) (x : Port) : (s.setPort x).fans = s.fans := rfl
@[simp] theorem State.setPort_auth (s : State) (x : Port) : (s.setPort x).auth = s.auth := rfl
@[simp] theorem State.setPort_tables (s : State) (x : Port) : (s.setPort x).tables = s.tables := rfl
@[simp] theorem State.setPort_eeprom (s : State) (x : Port) : (s.setPort x).eeprom = s.eeprom := rfl
@[simp] theorem State.setPort_test (s : State) (x : Port) : (s.setPort x).test = s.test := rfl
@[simp] theorem State.setPort_draws (s : State) (x : Port) : (s.setPort x).draws = s.draws := rfl
@[simp] theorem State.setSamples_pending (s : State) (x : List StationRecord) : (s.setSamples x).pending = s.pending := rfl
@[simp] theorem State.setSamples_dispatched (s : State) (x : List StationRecord) : (s.setSamples x).dispatched = s.dispatched := rfl
@[simp] theorem State.setSamples_clock (s : State) (x : List StationRecord) : (s.setSamples x).clock = s.clock := rfl
@[simp] theorem State.setSamples_chip (s : State) (x : List StationRecord) : (s.setSamples x).chip = s.chip := rfl
@[simp] theorem State.setSamples_outs (s : State) (x : List StationRecord) : (s.setSamples x).outs = s.outs := rfl
@[simp] theorem State.setSamples_port (s : State) (x : List StationRecord) : (s.setSamples x).port = s.port := rfl
@[simp] theorem State.setSamples_samples (s : State) (x : List StationRecord) : (s.setSamples x).samples = x := rfl
@[simp] theorem State.setSamples_trains (s : State) (x : List StationRecord) : (s.setSamples x).trains = s.trains := rfl
@[simp] theorem State.setSamples_incidents (s : State) (x : List StationRecord) : (s.setSamples x).incidents = s.incidents := rfl
@[simp] theorem State.setSamples_live (s : State) (x : List StationRecord) : (s.setSamples x).live = s.live := rfl
@[simp] theorem State.setSamples_plan (s : State) (x : List StationRecord) : (s.setSamples x).plan = s.plan := rfl
@[simp] theorem State.setSamples_fans (s : State) (x : List StationRecord) : (s.setSamples x).fans = s.fans := rfl
@[simp] theorem State.setSamples_auth (s : State) (x : List StationRecord) : (s.setSamples x).auth = s.auth := rfl
@[simp] theorem State.setSamples_tables (s : State) (x : List StationRecord) : (s.setSamples x).tables = s.tables := rfl
@[simp] theorem State.setSamples_eeprom (s : State) (x : List StationRecord) : (s.setSamples x).eeprom = s.eeprom := rfl
@[simp] theorem State.setSamples_test (s : State) (x : List StationRecord) : (s.setSamples x).test = s.test := rfl
@[simp] theorem State.setSamples_draws (s : State) (x : List StationRecord) : (s.setSamples x).draws = s.draws := rfl
@[simp] theorem State.setTrains_pending (s : State) (x : List (Option Train)) : (s.setTrains x).pending = s.pending := rfl
@[simp] theorem State.setTrains_dispatched (s : State) (x : List (Option Train)) : (s.setTrains x).dispatched = s.dispatched := rfl
@[simp] theorem State.setTrains_clock (s : State) (x : List (Option Train)) : (s.setTrains x).clock = s.clock := rfl
@[simp] theorem State.setTrains_chip (s : State) (x : List (Option Train)) : (s.setTrains x).chip = s.chip := rfl
@[simp] theorem State.setTrains_outs (s : State) (x : List (Option Train)) : (s.setTrains x).outs = s.outs := rfl
@[simp] theorem State.setTrains_port (s : State) (x : List (Option Train)) : (s.setTrains x).port = s.port := rfl
@[simp] theorem State.setTrains_samples (s : State) (x : List (Option Train)) : (s.setTrains x).samples = s.samples := rfl
@[simp] theorem State.setTrains_trains (s : State) (x : List (Option Train)) : (s.setTrains x).trains = x := rfl
@[simp] theorem State.setTrains_incidents (s : State) (x : List (Option Train)) : (s.setTrains x).incidents = s.incidents := rfl
@[simp] theorem State.setTrains_live (s : State) (x : List (Option Train)) : (s.setTrains x).live = s.live := rfl
@[simp] theorem State.setTrains_plan (s : State) (x : List (Option Train)) : (s.setTrains x).plan = s.plan := rfl
@[simp] theorem State.setTrains_fans (s : State) (x : List (Option Train)) : (s.setTrains x).fans = s.fans := rfl
@[simp] theorem State.setTrains_auth (s : State) (x : List (Option Train)) : (s.setTrains x).auth = s.auth := rfl
@[simp] theorem State.setTrains_tables (s : State) (x : List (Option Train)) : (s.setTrains x).tables = s.tables := rfl
@[simp] theorem State.setTrains_eeprom (s : State) (x : List (Option Train)) : (s.setTrains x).eeprom = s.eeprom := rfl
@[simp] theorem State.setTrains_test (s : State) (x : List (Option Train)) : (s.setTrains x).test = s.test := rfl
@[simp] theorem State.setTrains_draws (s : State) (x : List (Option Train)) : (s.setTrains x).draws = s.draws := rfl
@[simp] theorem State.setIncidents_pending (s : State) (x : IncidentManager) : (s.setIncidents x).pending = s.pending := rfl
@[simp] theorem State.setIncidents_dispatched (s : State) (x : IncidentManager) : (s.setIncidents x).dispatched = s.dispatched := rfl
@[simp] theorem State.setIncidents_clock (s : State) (x : IncidentManager) : (s.setIncidents x).clock = s.clock := rfl
@[simp] theorem State.setIncidents_chip (s : State) (x : IncidentManager) : (s.setIncidents x).chip = s.chip := rfl
@[simp] theorem State.setIncidents_outs (s : State) (x : IncidentManager) : (s.setIncidents x).outs = s.outs := rfl
@[simp] theorem State.setIncidents_port (s : State) (x : IncidentManager) : (s.setIncidents x).port = s.port := rfl
@[simp] theorem State.setIncidents_samples (s : State) (x : IncidentManager) : (s.setIncidents x).samples = s.samples := rfl
@[simp] theorem State.setIncidents_trains (s : State) (x : IncidentManager) : (s.setIncidents x).trains = s.trains := rfl
@[simp] theorem State.setIncidents_incidents (s : State) (x : IncidentManager) : (s.setIncidents x).incidents = x := rfl
@[simp] theorem State.setIncidents_live (s : State) (x : IncidentManager) : (s.setIncidents x).live = s.live := rfl
@[simp] theorem State.setIncidents_plan (s : State) (x : IncidentManager) : (s.setIncidents x).plan = s.plan := rfl
@[simp] theorem State.setIncidents_fans (s : State) (x : IncidentManager) : (s.setIncidents x).fans = s.fans := rfl
@[simp] theorem State.setIncidents_auth (s : State) (x : IncidentManager) : (s.setIncidents x).auth = s.auth := rfl
@[simp] theorem State.setIncidents_tables (s : State) (x : IncidentManager) : (s.setIncidents x).tables = s.tables := rfl
@[simp] theorem State.setIncidents_eeprom (s : State) (x : IncidentManager) : (s.setIncidents x).eeprom = s.eeprom := rfl
@[simp] theorem State.setIncidents_test (s : State) (x : IncidentManager) : (s.setIncidents x).test = s.test := rfl
@[simp] theorem State.setIncidents_draws (s : State) (x : IncidentManager) : (s.setIncidents x).draws = s.draws := rfl
@[simp] theorem State.setLive_pending (s : State) (x : Option Live) : (s.setLive x).pending = s.pending := rfl
@[simp] theorem State.setLive_dispatched (s : State) (x : Option Live) : (s.setLive x).dispatched = s.dispatched := rfl
@[simp] theorem State.setLive_clock (s : State) (x : Option Live) : (s.setLive x).clock = s.clock := rfl
@[simp] theorem State.setLive_chip (s : State) (x : Option Live) : (s.setLive x).chip = s.chip := rfl
@[simp] theorem State.setLive_outs (s : State) (x : Option Live) : (s.setLive x).outs = s.outs := rfl
@[simp] theorem State.setLive_port (s : State) (x : Option Live) : (s.setLive x).port = s.port := rfl
@[simp] theorem State.setLive_samples (s : State) (x : Option Live) : (s.setLive x).samples = s.samples := rfl
@[simp] theorem State.setLive_trains (s : State) (x : Option Live) : (s.setLive x).trains = s.trains := rfl
@[simp] theorem State.setLive_incidents (s : State) (x : Option Live) : (s.setLive x).incidents = s.incidents := rfl
@[simp] theorem State.setLive_live (s : State) (x : Option Live) : (s.setLive x).live = x := rfl
@[simp] theorem State.setLive_plan (s : State) (x : Option Live) : (s.setLive x).plan = s.plan := rfl
@[simp] theorem State.setLive_fans (s : State) (x : Option Live) : (s.setLive x).fans = s.fans := rfl
@[simp] theorem State.setLive_auth (s : State) (x : Option Live) : (s.setLive x).auth = s.auth := rfl
@[simp] theorem State.setLive_tables (s : State) (x : Option Live) : (s.setLive x).tables = s.tables := rfl
@[simp] theorem State.setLive_eeprom (s : State) (x : Option Live) : (s.setLive x).eeprom = s.eeprom := rfl
@[simp] theorem State.setLive_test (s : State) (x : Option Live) : (s.setLive x).test = s.test := rfl
@[simp] theorem State.setLive_draws (s : State) (x : Option Live) : (s.setLive x).draws = s.draws := rfl
@[simp] theorem State.setPlan_pending (s : State) (x : Plan) : (s.setPlan x).pending = s.pending := rfl
@[simp] theorem State.setPlan_dispatched (s : State) (x : Plan) : (s.setPlan x).dispatched = s.dispatched := rfl
@[simp] theorem State.setPlan_clock (s : State) (x : Plan) : (s.setPlan x).clock = s.clock := rfl
@[simp] theorem State.setPlan_chip (s : State) (x : Plan) : (s.setPlan x).chip = s.chip := rfl
@[simp] theorem State.setPlan_outs (s : State) (x : Plan) : (s.setPlan x).outs = s.outs := rfl
@[simp] theorem State.setPlan_port (s : State) (x : Plan) : (s.setPlan x).port = s.port := rfl
@[simp] theorem State.setPlan_samples (s : State) (x : Plan) : (s.setPlan x).samples = s.samples := rfl
@[simp] theorem State.setPlan_trains (s : State) (x : Plan) : (s.setPlan x).trains = s.trains := rfl
@[simp] theorem State.setPlan_incidents (s : State) (x : Plan) : (s.setPlan x).incidents = s.incidents := rfl
@[simp] theorem State.setPlan_live (s : State) (x : Plan) : (s.setPlan x).live = s.live := rfl
@[simp] theorem State.setPlan_plan (s : State) (x : Plan) : (s.setPlan x).plan = x := rfl
@[simp] theorem State.setPlan_fans (s : State) (x : Plan) : (s.setPlan x).fans = s.fans := rfl
@[simp] theorem State.setPlan_auth (s : State) (x : Plan) : (s.setPlan x).auth = s.auth := rfl
@[simp] theorem State.setPlan_tables (s : State) (x : Plan) : (s.setPlan x).tables = s.tables := rfl
@[simp] theorem State.setPlan_eeprom (s : State) (x : Plan) : (s.setPlan x).eeprom = s.eeprom := rfl
@[simp] theorem State.setPlan_test (s : State) (x : Plan) : (s.setPlan x).test = s.test := rfl
@[simp] theorem State.setPlan_draws (s : State) (x : Plan) : (s.setPlan x).draws = s.draws := rfl
@[simp] theorem State.setFans_pending (s : State) (x : Sequencer) : (s.setFans x).pending = s.pending := rfl
@[simp] theorem State.setFans_dispatched (s : State) (x : Sequencer) : (s.setFans x).dispatched = s.dispatched := rfl
@[simp] theorem State.setFans_clock (s : State) (x : Sequencer) : (s.setFans x).clock = s.clock := rfl
@[simp] theorem State.setFans_chip (s : State) (x : Sequencer) : (s.setFans x).chip = s.chip := rfl
@[simp] theorem State.setFans_outs (s : State) (x : Sequencer) : (s.setFans x).outs = s.outs := rfl
@[simp] theorem State.setFans_port (s : State) (x : Sequencer) : (s.setFans x).port = s.port := rfl
@[simp] theorem State.setFans_samples (s : State) (x : Sequencer) : (s.setFans x).samples = s.samples := rfl
@[simp] theorem State.setFans_trains (s : State) (x : Sequencer) : (s.setFans x).trains = s.trains := rfl
@[simp] theorem State.setFans_incidents (s : State) (x : Sequencer) : (s.setFans x).incidents = s.incidents := rfl
@[simp] theorem State.setFans_live (s : State) (x : Sequencer) : (s.setFans x).live = s.live := rfl
@[simp] theorem State.setFans_plan (s : State) (x : Sequencer) : (s.setFans x).plan = s.plan := rfl
@[simp] theorem State.setFans_fans (s : State) (x : Sequencer) : (s.setFans x).fans = x := rfl
@[simp] theorem State.setFans_auth (s : State) (x : Sequencer) : (s.setFans x).auth = s.auth := rfl
@[simp] theorem State.setFans_tables (s : State) (x : Sequencer) : (s.setFans x).tables = s.tables := rfl
@[simp] theorem State.setFans_eeprom (s : State) (x : Sequencer) : (s.setFans x).eeprom = s.eeprom := rfl
@[simp] theorem State.setFans_test (s : State) (x : Sequencer) : (s.setFans x).test = s.test := rfl
@[simp] theorem State.setFans_draws (s : State) (x : Sequencer) : (s.setFans x).draws = s.draws := rfl
@[simp] theorem State.setAuth_pending (s : State) (x : Authority) : (s.setAuth x).pending = s.pending := rfl
@[simp] theorem State.setAuth_dispatched (s : State) (x : Authority) : (s.setAuth x).dispatched = s.dispatched := rfl
@[simp] theorem State.setAuth_clock (s : State) (x : Authority) : (s.setAuth x).clock = s.clock := rfl
@[simp] theorem State.setAuth_chip (s : State) (x : Authority) : (s.setAuth x).chip = s.chip := rfl
@[simp] theorem State.setAuth_outs (s : State) (x : Authority) : (s.setAuth x).outs = s.outs := rfl
@[simp] theorem State.setAuth_port (s : State) (x : Authority) : (s.setAuth x).port = s.port := rfl
@[simp] theorem State.setAuth_samples (s : State) (x : Authority) : (s.setAuth x).samples = s.samples := rfl
@[simp] theorem State.setAuth_trains (s : State) (x : Authority) : (s.setAuth x).trains = s.trains := rfl
@[simp] theorem State.setAuth_incidents (s : State) (x : Authority) : (s.setAuth x).incidents = s.incidents := rfl
@[simp] theorem State.setAuth_live (s : State) (x : Authority) : (s.setAuth x).live = s.live := rfl
@[simp] theorem State.setAuth_plan (s : State) (x : Authority) : (s.setAuth x).plan = s.plan := rfl
@[simp] theorem State.setAuth_fans (s : State) (x : Authority) : (s.setAuth x).fans = s.fans := rfl
@[simp] theorem State.setAuth_auth (s : State) (x : Authority) : (s.setAuth x).auth = x := rfl
@[simp] theorem State.setAuth_tables (s : State) (x : Authority) : (s.setAuth x).tables = s.tables := rfl
@[simp] theorem State.setAuth_eeprom (s : State) (x : Authority) : (s.setAuth x).eeprom = s.eeprom := rfl
@[simp] theorem State.setAuth_test (s : State) (x : Authority) : (s.setAuth x).test = s.test := rfl
@[simp] theorem State.setAuth_draws (s : State) (x : Authority) : (s.setAuth x).draws = s.draws := rfl
@[simp] theorem State.setTables_pending (s : State) (x : TableStore) : (s.setTables x).pending = s.pending := rfl
@[simp] theorem State.setTables_dispatched (s : State) (x : TableStore) : (s.setTables x).dispatched = s.dispatched := rfl
@[simp] theorem State.setTables_clock (s : State) (x : TableStore) : (s.setTables x).clock = s.clock := rfl
@[simp] theorem State.setTables_chip (s : State) (x : TableStore) : (s.setTables x).chip = s.chip := rfl
@[simp] theorem State.setTables_outs (s : State) (x : TableStore) : (s.setTables x).outs = s.outs := rfl
@[simp] theorem State.setTables_port (s : State) (x : TableStore) : (s.setTables x).port = s.port := rfl
@[simp] theorem State.setTables_samples (s : State) (x : TableStore) : (s.setTables x).samples = s.samples := rfl
@[simp] theorem State.setTables_trains (s : State) (x : TableStore) : (s.setTables x).trains = s.trains := rfl
@[simp] theorem State.setTables_incidents (s : State) (x : TableStore) : (s.setTables x).incidents = s.incidents := rfl
@[simp] theorem State.setTables_live (s : State) (x : TableStore) : (s.setTables x).live = s.live := rfl
@[simp] theorem State.setTables_plan (s : State) (x : TableStore) : (s.setTables x).plan = s.plan := rfl
@[simp] theorem State.setTables_fans (s : State) (x : TableStore) : (s.setTables x).fans = s.fans := rfl
@[simp] theorem State.setTables_auth (s : State) (x : TableStore) : (s.setTables x).auth = s.auth := rfl
@[simp] theorem State.setTables_tables (s : State) (x : TableStore) : (s.setTables x).tables = x := rfl
@[simp] theorem State.setTables_eeprom (s : State) (x : TableStore) : (s.setTables x).eeprom = s.eeprom := rfl
@[simp] theorem State.setTables_test (s : State) (x : TableStore) : (s.setTables x).test = s.test := rfl
@[simp] theorem State.setTables_draws (s : State) (x : TableStore) : (s.setTables x).draws = s.draws := rfl
@[simp] theorem State.setEeprom_pending (s : State) (x : Eeprom) : (s.setEeprom x).pending = s.pending := rfl
@[simp] theorem State.setEeprom_dispatched (s : State) (x : Eeprom) : (s.setEeprom x).dispatched = s.dispatched := rfl
@[simp] theorem State.setEeprom_clock (s : State) (x : Eeprom) : (s.setEeprom x).clock = s.clock := rfl
@[simp] theorem State.setEeprom_chip (s : State) (x : Eeprom) : (s.setEeprom x).chip = s.chip := rfl
@[simp] theorem State.setEeprom_outs (s : State) (x : Eeprom) : (s.setEeprom x).outs = s.outs := rfl
@[simp] theorem State.setEeprom_port (s : State) (x : Eeprom) : (s.setEeprom x).port = s.port := rfl
@[simp] theorem State.setEeprom_samples (s : State) (x : Eeprom) : (s.setEeprom x).samples = s.samples := rfl
@[simp] theorem State.setEeprom_trains (s : State) (x : Eeprom) : (s.setEeprom x).trains = s.trains := rfl
@[simp] theorem State.setEeprom_incidents (s : State) (x : Eeprom) : (s.setEeprom x).incidents = s.incidents := rfl
@[simp] theorem State.setEeprom_live (s : State) (x : Eeprom) : (s.setEeprom x).live = s.live := rfl
@[simp] theorem State.setEeprom_plan (s : State) (x : Eeprom) : (s.setEeprom x).plan = s.plan := rfl
@[simp] theorem State.setEeprom_fans (s : State) (x : Eeprom) : (s.setEeprom x).fans = s.fans := rfl
@[simp] theorem State.setEeprom_auth (s : State) (x : Eeprom) : (s.setEeprom x).auth = s.auth := rfl
@[simp] theorem State.setEeprom_tables (s : State) (x : Eeprom) : (s.setEeprom x).tables = s.tables := rfl
@[simp] theorem State.setEeprom_eeprom (s : State) (x : Eeprom) : (s.setEeprom x).eeprom = x := rfl
@[simp] theorem State.setEeprom_test (s : State) (x : Eeprom) : (s.setEeprom x).test = s.test := rfl
@[simp] theorem State.setEeprom_draws (s : State) (x : Eeprom) : (s.setEeprom x).draws = s.draws := rfl
@[simp] theorem State.setTest_pending (s : State) (x : LoopTest) : (s.setTest x).pending = s.pending := rfl
@[simp] theorem State.setTest_dispatched (s : State) (x : LoopTest) : (s.setTest x).dispatched = s.dispatched := rfl
@[simp] theorem State.setTest_clock (s : State) (x : LoopTest) : (s.setTest x).clock = s.clock := rfl
@[simp] theorem State.setTest_chip (s : State) (x : LoopTest) : (s.setTest x).chip = s.chip := rfl
@[simp] theorem State.setTest_outs (s : State) (x : LoopTest) : (s.setTest x).outs = s.outs := rfl
@[simp] theorem State.setTest_port (s : State) (x : LoopTest) : (s.setTest x).port = s.port := rfl
@[simp] theorem State.setTest_samples (s : State) (x : LoopTest) : (s.setTest x).samples = s.samples := rfl
@[simp] theorem State.setTest_trains (s : State) (x : LoopTest) : (s.setTest x).trains = s.trains := rfl
@[simp] theorem State.setTest_incidents (s : State) (x : LoopTest) : (s.setTest x).incidents = s.incidents := rfl
@[simp] theorem State.setTest_live (s : State) (x : LoopTest) : (s.setTest x).live = s.live := rfl
@[simp] theorem State.setTest_plan (s : State) (x : LoopTest) : (s.setTest x).plan = s.plan := rfl
@[simp] theorem State.setTest_fans (s : State) (x : LoopTest) : (s.setTest x).fans = s.fans := rfl
@[simp] theorem State.setTest_auth (s : State) (x : LoopTest) : (s.setTest x).auth = s.auth := rfl
@[simp] theorem State.setTest_tables (s : State) (x : LoopTest) : (s.setTest x).tables = s.tables := rfl
@[simp] theorem State.setTest_eeprom (s : State) (x : LoopTest) : (s.setTest x).eeprom = s.eeprom := rfl
@[simp] theorem State.setTest_test (s : State) (x : LoopTest) : (s.setTest x).test = x := rfl
@[simp] theorem State.setTest_draws (s : State) (x : LoopTest) : (s.setTest x).draws = s.draws := rfl
@[simp] theorem State.setDraws_pending (s : State) (x : Nat) : (s.setDraws x).pending = s.pending := rfl
@[simp] theorem State.setDraws_dispatched (s : State) (x : Nat) : (s.setDraws x).dispatched = s.dispatched := rfl
@[simp] theorem State.setDraws_clock (s : State) (x : Nat) : (s.setDraws x).clock = s.clock := rfl
@[simp] theorem State.setDraws_chip (s : State) (x : Nat) : (s.setDraws x).chip = s.chip := rfl
@[simp] theorem State.setDraws_outs (s : State) (x : Nat) : (s.setDraws x).outs = s.outs := rfl
@[simp] theorem State.setDraws_port (s : State) (x : Nat) : (s.setDraws x).port = s.port := rfl
@[simp] theorem State.setDraws_samples (s : State) (x : Nat) : (s.setDraws x).samples = s.samples := rfl
@[simp] theorem State.setDraws_trains (s : State) (x : Nat) : (s.setDraws x).trains = s.trains := rfl
@[simp] theorem State.setDraws_incidents (s : State) (x : Nat) : (s.setDraws x).incidents = s.incidents := rfl
@[simp] theorem State.setDraws_live (s : State) (x : Nat) : (s.setDraws x).live = s.live := rfl
@[simp] theorem State.setDraws_plan (s : State) (x : Nat) : (s.setDraws x).plan = s.plan := rfl
@[simp] theorem State.setDraws_fans (s : State) (x : Nat) : (s.setDraws x).fans = s.fans := rfl
@[simp] theorem State.setDraws_auth (s : State) (x : Nat) : (s.setDraws x).auth = s.auth := rfl
@[simp] theorem State.setDraws_tables (s : State) (x : Nat) : (s.setDraws x).tables = s.tables := rfl
@[simp] theorem State.setDraws_eeprom (s : State) (x : Nat) : (s.setDraws x).eeprom = s.eeprom := rfl
@[simp] theorem State.setDraws_test (s : State) (x : Nat) : (s.setDraws x).test = s.test := rfl
@[simp] theorem State.setDraws_draws (s : State) (x : Nat) : (s.setDraws x).draws = x := rfl

end Sys2Proof.Machine
end

