-- ==== Sys2Proof/Laws/Offer.lean ====
section
/-!
SUPPORT. What an offer to a queue of ring OUT can do (R9, R11, R12), and what the arbiter does next (R14).
-/

namespace Sys2Proof.Machine

open Sys2Proof

/-- R11: a report enters a queue with room, behind the reports that wait. -/
theorem offerReport_of_room {s : State} (q : QFrame) (h : insertCount s.port < Config.insertCapacity) :
    offerReport q s = serve (s.setPort { s.port with reports := s.port.reports ++ [q] }) := by
  simp [offerReport, h]

/-- R12: a report offered to a full queue is dropped. -/
theorem offerReport_of_full {s : State} (q : QFrame) (h : ¬insertCount s.port < Config.insertCapacity) :
    offerReport q s = dropReport q s := by
  simp [offerReport, h]

/-- R11: a command enters a queue with room, behind the commands that wait. -/
theorem offerCommand_of_room {s : State} (q : QFrame) (h : insertCount s.port < Config.insertCapacity) :
    offerCommand q s = serve (s.setPort { s.port with commands := s.port.commands ++ [q] }) := by
  simp [offerCommand, h]

/-- R12: a command offered to a full queue takes the place of the newest report. -/
theorem offerCommand_of_report {s : State} (q r : QFrame) (h : ¬insertCount s.port < Config.insertCapacity)
    (hr : s.port.reports.getLast? = some r) :
    offerCommand q s =
      serve (dropReport r
        (s.setPort { s.port with
          reports := s.port.reports.dropLast
          commands := s.port.commands ++ [q] })) := by
  simp [offerCommand, h, hr]

/-- R12: a command offered to a queue full of commands is dropped and counted. -/
theorem offerCommand_of_full {s : State} (q : QFrame) (h : ¬insertCount s.port < Config.insertCapacity)
    (hr : s.port.reports.getLast? = none) :
    offerCommand q s = s.count fun c => { c with commandDrop := satCount 255 c.commandDrop } := by
  simp [offerCommand, h, hr]

/-- R9: a forwarded frame enters a queue with room. -/
theorem offerForward_of_room {s : State} (bs : List Byte) (h : s.port.forward.length < Config.forwardCapacity) :
    offerForward bs s = serve (s.setPort { s.port with forward := s.port.forward ++ [bs] }) := by
  simp [offerForward, h]

/-- R9: a forwarded frame offered to a full queue is dropped and counted. -/
theorem offerForward_of_full {s : State} (bs : List Byte) (h : ¬s.port.forward.length < Config.forwardCapacity) :
    offerForward bs s = s.count fun c => { c with forwardOverrun := satCount 255 c.forwardOverrun } := by
  simp [offerForward, h]

/-- R14: while a frame is on OUT the arbiter waits. -/
theorem serve_of_busy {s : State} {f : TxFrame} (h : s.port.out = some f) : serve s = s := by
  simp [serve, h]

/-- R14: while both queues are empty the arbiter serves neither. -/
theorem serve_of_empty {s : State} (h : nextQueue s.port = none) : serve s = s := by
  unfold serve; split <;> simp_all

/-- A step ends: the outputs take their conditions where no SOFT RESET is due (R185, R186, R201). -/
theorem settle_of_none_due {s : State} (h : s.chip.softResetDue = false) : settle s = s.setOuts (outputsOf s) := by
  simp [settle, h]

/-- Every meaning that ends in `finish` answers a next state. -/
theorem finish_eq (s : State) : finish s = .next (settle s) := rfl

end Sys2Proof.Machine
end

