-- ==== Sys2Proof/Laws/Fans.lean ====
section
/-!
SUPPORT. What the Fan Sequencer's sends do: an offer to the insert queue neither reads nor writes the fan records, so a
send is the offer of its frame beside the new record of its fan (R148, R149, R155).
-/

namespace Sys2Proof.Machine

open Sys2Proof

/-- The record of a fan that stands in the list. -/
theorem fanRec_of_some {s : State} {f : Nat} {r : FanRecord} (h : s.fans.recs[f]? = some r) : fanRec s f = r := by
  simp [fanRec, List.getD, h]

/-- A record that has been set stands in the list. -/
theorem recs_set_self {l : List FanRecord} {f : Nat} {r : FanRecord} (u : FanRecord) (h : l[f]? = some r) :
    (l.set f u)[f]? = some u := by
  simp [(List.getElem?_eq_some_iff.1 h).1]

/-! ## Offers and the fan records -/

theorem serve_setFans (s : State) (x : Sequencer) : serve (s.setFans x) = (serve s).setFans x := by
  rcases h1 : s.port.out with _ | o
  · rcases h2 : nextQueue s.port with _ | m
    · simp [serve, h1, h2]
    · cases m
      · rcases h3 : s.port.forward with _ | ⟨a, b⟩ <;> simp only [serve, State.setFans_port, h1, h2, h3] <;> rfl
      · rcases h3 : s.port.commands with _ | ⟨a, b⟩
        · rcases h4 : s.port.reports with _ | ⟨a, b⟩ <;>
            simp only [serve, State.setFans_port, h1, h2, h3, h4] <;> rfl
        · simp only [serve, State.setFans_port, h1, h2, h3]; rfl
  · simp [serve, h1]

theorem count_setFans (s : State) (f : Counters → Counters) (x : Sequencer) :
    (s.setFans x).count f = (s.count f).setFans x := by
  unfold State.count
  by_cases h : s.chip.testMode = true <;> simp [h] <;> rfl

theorem responseGone_setFans (q : QFrame) (s : State) (x : Sequencer) :
    responseGone q (s.setFans x) = (responseGone q s).setFans x := by
  unfold responseGone
  show (if (q.softReset && decide (s.auth.state ≠ .autonomous)) = true then _ else _) = _
  generalize (q.softReset && decide (s.auth.state ≠ .autonomous)) = b
  cases b <;> rfl

theorem dropReport_setFans (q : QFrame) (s : State) (x : Sequencer) :
    dropReport q (s.setFans x) = (dropReport q s).setFans x := by
  unfold dropReport
  rw [count_setFans, responseGone_setFans]

theorem offerReport_setFans (q : QFrame) (s : State) (x : Sequencer) :
    offerReport q (s.setFans x) = (offerReport q s).setFans x := by
  by_cases h : insertCount s.port < Config.insertCapacity
  · rw [offerReport_of_room q h, offerReport_of_room (s := s.setFans x) q h]
    exact serve_setFans (s.setPort { s.port with reports := s.port.reports ++ [q] }) x
  · rw [offerReport_of_full q h, offerReport_of_full (s := s.setFans x) q h]
    exact dropReport_setFans q s x

theorem offerCommand_setFans (q : QFrame) (s : State) (x : Sequencer) :
    offerCommand q (s.setFans x) = (offerCommand q s).setFans x := by
  by_cases h : insertCount s.port < Config.insertCapacity
  · rw [offerCommand_of_room q h, offerCommand_of_room (s := s.setFans x) q h]
    exact serve_setFans (s.setPort { s.port with commands := s.port.commands ++ [q] }) x
  · rcases hr : s.port.reports.getLast? with _ | r
    · rw [offerCommand_of_full q h hr, offerCommand_of_full (s := s.setFans x) q h hr]
      exact count_setFans _ _ _
    · rw [offerCommand_of_report q r h hr, offerCommand_of_report (s := s.setFans x) q r h hr, ← serve_setFans,
        ← dropReport_setFans]
      rfl

theorem offerFanCommand_setFans (f : Nat) (c : FanCommand) (s : State) (x : Sequencer)
    (h : x.inCommand = s.fans.inCommand) :
    offerFanCommand f c (s.setFans x) = (offerFanCommand f c s).setFans x := by
  have e : ((s.setFans x).fans.inCommand && decide ((s.setFans x).auth.state = .autonomous)) =
      (s.fans.inCommand && decide (s.auth.state = .autonomous)) := by
    show (x.inCommand && _) = _
    rw [h]; rfl
  unfold offerFanCommand
  rw [e]
  by_cases h1 : s.auth.dryRun = true
  · rw [if_pos h1, if_pos (show (s.setFans x).auth.dryRun = true from h1)]
    exact offerReport_setFans _ s x
  · rw [if_neg h1, if_neg (show ¬ (s.setFans x).auth.dryRun = true from h1)]
    by_cases h2 : (s.fans.inCommand && decide (s.auth.state = .autonomous)) = true
    · rw [if_pos h2, if_pos h2]
      exact offerCommand_setFans _ s x
    · rw [if_neg h2, if_neg h2]

/-! ## What a send does -/

/-- A change of one record. -/
theorem modFan_eq {s : State} {f : Nat} {r : FanRecord} (g : FanRecord → FanRecord) (h : s.fans.recs[f]? = some r) :
    modFan f g s = s.setFans { s.fans with recs := s.fans.recs.set f (g r) } := by
  unfold modFan
  rw [fanRec_of_some h]; rfl

/-- R149: a send is the offer of the command beside the fan's record with its number and its exchange opened. -/
theorem sendCommand_eq {s : State} {f : Nat} {r : FanRecord} (a : Action) (d : Drive) (st : SpeedStep)
    (h : s.fans.recs[f]? = some r) :
    sendCommand f a d st s = (offerFanCommand f ⟨a, d, st, nextCommandNumber r⟩ s).setFans
      { s.fans with recs := s.fans.recs.set f ({ r with
          lastIssued := nextCommandNumber r
          exchange := .opened ⟨a, d, st, nextCommandNumber r⟩ 0 (.ack Config.ackTimeout)
          lastRun := (match a with | .stop => r.lastRun | .run => some (d, st)) } : FanRecord) } := by
  unfold sendCommand
  simp only [fanRec_of_some h]
  exact offerFanCommand_setFans _ _ s _ rfl

/-- R155, R163: a fan that is stopped: the STOP is offered and the fan is STOPPING, its start timer stopped. -/
theorem stopFan_eq {s : State} {f : Nat} {r : FanRecord} (h : s.fans.recs[f]? = some r) :
    stopFan f s = (offerFanCommand f ⟨.stop, .fwd, .full, nextCommandNumber r⟩ s).setFans
      { s.fans with recs := s.fans.recs.set f ({ r with
          state := .stopping
          start := none
          lastIssued := nextCommandNumber r
          exchange := .opened ⟨.stop, .fwd, .full, nextCommandNumber r⟩ 0 (.ack Config.ackTimeout) } : FanRecord) } := by
  unfold stopFan sendStop
  rw [sendCommand_eq _ _ _ h, modFan_eq _ (recs_set_self _ h)]
  simp only [State.setFans, List.set_set]

end Sys2Proof.Machine
end

