-- ==== Sys2Proof/Laws/Kept.lean ====
section
/-!
SUPPORT. What no operation of the planning blocks touches: the queue, the dispatched frames, the time base, the sample and
train records, the tables, the EEPROM, the pins, and, where no SOFT RESET and no test frame waits, the continuity test.
One lemma per operation; a proof cites it instead of unfolding the operation.
-/

namespace Sys2Proof.Machine

open Sys2Proof

/-- What it says that the Ring Port lies in its ranges. -/
theorem portInRange_iff (p : Port) : portInRange p = true ↔
    p.forward.length ≤ 8 ∧ p.commands.length + p.reports.length ≤ 16 ∧ p.sequence ≤ 255 ∧
      p.counters.good ≤ 9999 ∧ p.counters.bad ≤ 255 ∧ p.counters.forwardOverrun ≤ 255 ∧
      p.counters.reportDrop ≤ 255 ∧ p.counters.commandDrop ≤ 255 ∧ p.counters.unknownSource ≤ 255 ∧
      p.counters.roleMismatch ≤ 255 := by
  simp only [portInRange, Bool.and_eq_true, decide_eq_true_eq, and_assoc]
  exact Iff.rfl

/-- The state `t` differs from `s` in the Ring Port, the incident, plan, fan and authority state alone. -/
structure Kept (s t : State) : Prop where
  pending : t.pending = s.pending
  dispatched : t.dispatched = s.dispatched
  clock : t.clock = s.clock
  samples : t.samples = s.samples
  trains : t.trains = s.trains
  tables : t.tables = s.tables
  eeprom : t.eeprom = s.eeprom
  outs : t.outs = s.outs
  pins : t.chip = { s.chip with softResetDue := t.chip.softResetDue }
  quiet : quiet s = true → Machine.quiet t = true
  test : Machine.quiet s = true → t.test = s.test
  ranges : portInRange s.port = true → portInRange t.port = true

theorem Kept.refl (s : State) : Kept s s := ⟨rfl, rfl, rfl, rfl, rfl, rfl, rfl, rfl, rfl, id, fun _ => rfl, id⟩

theorem Kept.trans {s t u : State} (a : Kept s t) (b : Kept t u) : Kept s u where
  pending := b.pending.trans a.pending
  dispatched := b.dispatched.trans a.dispatched
  clock := b.clock.trans a.clock
  samples := b.samples.trans a.samples
  trains := b.trains.trans a.trains
  tables := b.tables.trans a.tables
  eeprom := b.eeprom.trans a.eeprom
  outs := b.outs.trans a.outs
  pins := by rw [b.pins, a.pins]
  quiet := fun h => b.quiet (a.quiet h)
  test := fun h => (b.test (a.quiet h)).trans (a.test h)
  ranges := fun h => b.ranges (a.ranges h)

/-- A conditional keeps what both its branches keep. -/
theorem Kept.ite {s t u : State} {c : Prop} [Decidable c] (a : Kept s t) (b : Kept s u) :
    Kept s (if c then t else u) := by split <;> assumption

/-- Where no SOFT RESET waits none is due. -/
theorem quiet_due {s : State} (h : quiet s = true) : s.chip.softResetDue = false := by
  simp only [quiet, Bool.and_eq_true, Bool.not_eq_true'] at h; exact h.1

/-- In a quiet state the pins and the reset state are kept whole. -/
theorem Kept.chip {s t : State} (k : Kept s t) (h : Machine.quiet s = true) : t.chip = s.chip := by
  have e := k.pins
  rw [quiet_due (k.quiet h)] at e
  rw [e, ← quiet_due h]

/-- Updates of the blocks that plan and command keep the rest. -/
theorem kept_setIncidents (s : State) (x : IncidentManager) : Kept s (s.setIncidents x) :=
  ⟨rfl, rfl, rfl, rfl, rfl, rfl, rfl, rfl, rfl, id, fun _ => rfl, id⟩
theorem kept_setLive (s : State) (x : Option Live) : Kept s (s.setLive x) :=
  ⟨rfl, rfl, rfl, rfl, rfl, rfl, rfl, rfl, rfl, id, fun _ => rfl, id⟩
theorem kept_setPlan (s : State) (x : Plan) : Kept s (s.setPlan x) :=
  ⟨rfl, rfl, rfl, rfl, rfl, rfl, rfl, rfl, rfl, id, fun _ => rfl, id⟩
theorem kept_setFans (s : State) (x : Sequencer) : Kept s (s.setFans x) :=
  ⟨rfl, rfl, rfl, rfl, rfl, rfl, rfl, rfl, rfl, id, fun _ => rfl, id⟩
theorem kept_setAuth (s : State) (x : Authority) : Kept s (s.setAuth x) :=
  ⟨rfl, rfl, rfl, rfl, rfl, rfl, rfl, rfl, rfl, id, fun _ => rfl, id⟩
theorem kept_setDraws (s : State) (x : Nat) : Kept s (s.setDraws x) :=
  ⟨rfl, rfl, rfl, rfl, rfl, rfl, rfl, rfl, rfl, id, fun _ => rfl, id⟩

/-- An update of the Ring Port keeps the rest when each frame it leaves waiting waited before or is plain. -/
theorem kept_setPort (s : State) (p : Port)
    (h : ∀ q ∈ p.commands ++ p.reports,
      q ∈ s.port.commands ++ s.port.reports ∨ (q.softReset = false ∧ q.kind ≠ kindTest))
    (k : portInRange s.port = true → portInRange p = true) :
    Kept s (s.setPort p) where
  pending := rfl
  dispatched := rfl
  clock := rfl
  samples := rfl
  trains := rfl
  tables := rfl
  eeprom := rfl
  outs := rfl
  pins := rfl
  quiet := by
    simp only [Machine.quiet, Bool.and_eq_true, List.all_eq_true, State.setPort_chip, State.setPort_port]
    rintro ⟨a, b⟩
    refine ⟨a, fun q hq => ?_⟩
    rcases h q hq with m | ⟨e, k⟩
    · exact b q m
    · simp [e, k]
  test := fun _ => rfl
  ranges := k

/-- A saturating counter stays at or below its bound. -/
theorem satCount_le (b n : Nat) : satCount b n ≤ b := by unfold satCount; split <;> omega

/-! ## Ring OUT and the insert queue -/

theorem kept_count (s : State) (f : Counters → Counters)
    (k : portInRange s.port = true → portInRange { s.port with counters := f s.port.counters } = true) :
    Kept s (s.count f) := by
  unfold State.count
  split
  · exact .refl s
  · exact kept_setPort _ _ (fun _ hq => .inl hq) k

/-- A counter that counts touches the Ring Port alone, and not its queues. -/
@[simp] theorem State.count_chip (s : State) (f : Counters → Counters) : (s.count f).chip = s.chip := by
  unfold State.count; split <;> rfl
@[simp] theorem State.count_auth (s : State) (f : Counters → Counters) : (s.count f).auth = s.auth := by
  unfold State.count; split <;> rfl

/-- A waiting frame leaves the queue and its transmission begins. -/
theorem kept_transmit (c : QFrame) (s : State) (p : Port) (hc : c ∈ s.port.commands ++ s.port.reports)
    (h : ∀ q ∈ p.commands ++ p.reports, q ∈ s.port.commands ++ s.port.reports)
    (k : portInRange s.port = true → portInRange p = true) :
    Kept s (transmit c (s.setPort p)) where
  pending := rfl
  dispatched := rfl
  clock := rfl
  samples := rfl
  trains := rfl
  tables := rfl
  eeprom := rfl
  outs := rfl
  pins := rfl
  quiet := by
    simp only [Machine.quiet, Bool.and_eq_true, List.all_eq_true]
    exact fun a => ⟨a.1, fun q hq => a.2 q (h q hq)⟩
  test := by
    simp only [Machine.quiet, Bool.and_eq_true, List.all_eq_true, bne_iff_ne, ne_eq]
    intro a
    simp [transmit, noteTestFrame, (a.2 c hc).2]
  ranges := fun e => by
    have e := k e
    simp only [portInRange_iff, transmit, State.setTest_port, State.setPort_port] at e ⊢
    omega

theorem kept_serve (s : State) : Kept s (serve s) := by
  unfold serve
  split
  · exact .refl s
  · split
    · exact .refl s
    · split
      · exact .refl s
      · rename_i hf
        refine kept_setPort _ _ (fun _ hq => .inl hq) ?_
        simp only [portInRange_iff, hf, List.length_cons]
        omega
    · split
      · rename_i c rest hc
        refine kept_transmit c s _ (by simp [hc]) (fun q hq => ?_) ?_
        · simp only [hc, List.cons_append, List.mem_cons]; exact .inr hq
        · simp only [portInRange_iff, hc, List.length_cons]
          omega
      · rename_i hc
        split
        · exact .refl s
        · rename_i r rest hr
          refine kept_transmit r s _ (by simp [hr]) (fun q hq => ?_) ?_
          · simp only [hc, List.nil_append, hr, List.mem_cons] at hq ⊢; exact .inr hq
          · simp only [portInRange_iff, hr, List.length_cons]
            omega

theorem kept_responseGone (q : QFrame) (s : State) (h : Machine.quiet s = true → q.softReset = false) :
    Kept s (responseGone q s) := by
  unfold responseGone
  split
  · rename_i c
    refine ⟨rfl, rfl, rfl, rfl, rfl, rfl, rfl, rfl, rfl, fun a => ?_, fun _ => rfl, id⟩
    rw [h a] at c; simp at c
  · exact .refl s

theorem kept_dropReport (q : QFrame) (s : State) (h : Machine.quiet s = true → q.softReset = false) :
    Kept s (dropReport q s) :=
  (kept_count s _ fun e => by
    have := satCount_le 255 s.port.counters.reportDrop
    simp only [portInRange_iff] at e ⊢
    omega).trans (kept_responseGone q _ fun e => h (by
      simpa [Machine.quiet, State.count, apply_ite] using e))

/-- A plain frame offered to the report class changes the Ring Port alone. -/
theorem kept_offerReport (q : QFrame) (s : State) (h : q.softReset = false) (k : q.kind ≠ kindTest) :
    Kept s (offerReport q s) := by
  unfold offerReport
  split
  · rename_i hn
    refine (kept_setPort s _ (fun x hx => ?_) fun e => ?_).trans (kept_serve _)
    · simp only [List.mem_append, List.mem_singleton] at hx ⊢
      rcases hx with a | a | a
      · exact .inl (.inl a)
      · exact .inl (.inr a)
      · exact .inr (a ▸ ⟨h, k⟩)
    · simp only [portInRange_iff, insertCount, Config.insertCapacity, List.length_append, List.length_singleton] at e hn ⊢
      omega
  · exact kept_dropReport q s fun _ => h

/-- A plain frame offered to the command class changes the Ring Port alone. -/
theorem kept_offerCommand (q : QFrame) (s : State) (h : q.softReset = false) (k : q.kind ≠ kindTest) :
    Kept s (offerCommand q s) := by
  unfold offerCommand
  split
  · rename_i hn
    refine (kept_setPort s _ (fun x hx => ?_) fun e => ?_).trans (kept_serve _)
    · simp only [List.mem_append, List.mem_singleton] at hx ⊢
      rcases hx with (a | a) | a
      · exact .inl (.inl a)
      · exact .inr (a ▸ ⟨h, k⟩)
      · exact .inl (.inr a)
    · simp only [portInRange_iff, insertCount, Config.insertCapacity, List.length_append, List.length_singleton] at e hn ⊢
      omega
  · split
    · rename_i r hr
      have hmem : r ∈ s.port.reports := List.mem_of_getLast? hr
      refine Kept.trans ?_ (kept_serve _)
      have a : Kept s (s.setPort { s.port with
          reports := s.port.reports.dropLast
          commands := s.port.commands ++ [q] }) := kept_setPort s _ (fun x hx => by
        simp only [List.mem_append, List.mem_singleton] at hx ⊢
        rcases hx with (a | a) | a
        · exact .inl (.inl a)
        · exact .inr (a ▸ ⟨h, k⟩)
        · exact .inl (.inr (List.mem_of_mem_dropLast a))) fun e => by
        have := List.length_pos_of_mem hmem
        simp only [portInRange_iff, List.length_append, List.length_singleton, List.length_dropLast] at e ⊢
        omega
      have plain : Machine.quiet s = true → r.softReset = false := fun e => by
        simp only [Machine.quiet, Bool.and_eq_true, List.all_eq_true] at e
        simpa using (e.2 r (by simp [hmem])).1
      refine ⟨?_, ?_, ?_, ?_, ?_, ?_, ?_, ?_, ?_, ?_, ?_, ?_⟩
      all_goals
        first
        | (intro e
           have b := a.trans (kept_dropReport r _ fun _ => plain e)
           first | exact b.quiet e | exact b.test e)
        | (intro e
           have f := a.ranges e
           have := satCount_le 255 s.port.counters.reportDrop
           unfold dropReport responseGone State.count
           rw [portInRange_iff] at f
           repeat' split
           all_goals (rw [portInRange_iff]; simp only [State.setPort_port, State.setChip_port] at f ⊢; omega))
        | (unfold dropReport responseGone State.count; repeat' split
           all_goals rfl)
    · exact kept_count s _ fun e => by
        have := satCount_le 255 s.port.counters.commandDrop
        simp only [portInRange_iff] at e ⊢
        omega

theorem kept_offerForward (b : List Byte) (s : State) : Kept s (offerForward b s) := by
  unfold offerForward
  split
  · rename_i hn
    refine Kept.trans (kept_setPort s _ (fun _ hq => ?_) fun e => ?_) (kept_serve _)
    · exact .inl hq
    · simp only [portInRange_iff, Config.forwardCapacity, List.length_append, List.length_singleton] at e hn ⊢
      omega
  · exact kept_count s _ fun e => by
      have := satCount_le 255 s.port.counters.forwardOverrun
      simp only [portInRange_iff] at e ⊢
      omega

/-! ## Notices, responses, holds -/

theorem kept_notice (c n : Nat) (f : List Byte) (s : State) : Kept s (notice c n f s) :=
  kept_offerReport _ s rfl (by simp [noticeFrame, kindNotice, kindTest])
theorem kept_headNotice (c : Nat) (f : List Byte) (s : State) : Kept s (headNotice c f s) := kept_notice _ _ _ s
theorem kept_authorityNotice (a b : AuthState) (s : State) : Kept s (authorityNotice a b s) := kept_headNotice _ _ s
theorem kept_tableNotice (c : Nat) (v : Validity) (x b : Nat) (s : State) : Kept s (tableNotice c v x b s) :=
  kept_headNotice _ _ s
theorem kept_respond (r : Request) (c : Nat) (st : Status) (t i : Nat) (d : List Byte) (s : State) :
    Kept s (respond r c st t i d s) := kept_offerReport _ s rfl (by simp [kindResponse, kindTest])
theorem kept_offerHold (x n : Nat) (s : State) : Kept s (offerHold x n s) :=
  (kept_offerCommand _ s rfl (by simp [kindHold, kindTest])).trans (kept_setAuth _ _)
theorem kept_claimHold (s : State) : Kept s (claimHold s) := (kept_offerHold _ _ s).trans (kept_setAuth _ _)

/-! ## The end of a step -/

/-- In a state in which no SOFT RESET is due a step ends with the outputs set. -/
theorem finish_of_quiet {s : State} (h : Machine.quiet s = true) : finish s = .next (s.setOuts (outputsOf s)) := by
  simp [finish, settle, quiet_due h]

/-- A command that keeps the rest of a quiet state ends with the outputs set. -/
theorem finish_of_kept {s t : State} (k : Kept s t) (h : Machine.quiet s = true) :
    finish t = .next (t.setOuts (outputsOf t)) := finish_of_quiet (k.quiet h)

end Sys2Proof.Machine
end

