-- ==== Sys2Proof/Laws/Frame.lean ====
section
/-!
SUPPORT. Each operation of the Thrust Planner, Fan Sequencer, Authority Controller, Scenario Lookup and Incident Manager
keeps what Laws/Kept.lean names.
-/

namespace Sys2Proof.Machine

open Sys2Proof

/-- What an answered state keeps, read off the pair. -/
theorem Kept.fst {α : Type} {s t : State} {a : α} (k : Kept s t) : Kept s (t, a).1 := k

/-! ## Thrust Planner -/

theorem kept_setFan (s : State) (f : Nat) (r : FanRecord) : Kept s (s.setFan f r) := kept_setFans _ _

theorem kept_setDemand (x : Int) (s : State) : Kept s (setDemand x s) := by
  unfold setDemand
  simp only []
  split
  · exact (kept_setPlan _ _).trans (kept_headNotice _ _ _)
  · exact kept_setPlan _ _

theorem kept_computeOpenLoop (s : State) : Kept s (computeOpenLoop s) := by
  unfold computeOpenLoop; split
  · exact .refl _
  · exact kept_setDemand _ _

theorem kept_takeSelection (sel : List Nat) (s : State) : Kept s (takeSelection sel s) := by
  unfold takeSelection
  simp only []
  split
  · exact kept_setPlan _ _
  · exact (kept_setPlan _ _).trans (kept_headNotice _ _ _)

theorem kept_freshWalk (s : State) : Kept s (freshWalk s) := kept_takeSelection _ _
theorem kept_hysteresisWalk (s : State) : Kept s (hysteresisWalk s) := kept_takeSelection _ _
theorem kept_recordWanted (s : State) : Kept s (recordWanted s) := kept_setFans _ _
theorem kept_setPhase (p : Phase) (s : State) : Kept s (setPhase p s) := kept_setIncidents _ _
theorem kept_phaseNotice (p : Phase) (s : State) : Kept s (phaseNotice p s) := kept_headNotice _ _ _
theorem kept_setTrim (x : Option Nat) (s : State) : Kept s (setTrim x s) := kept_setPlan _ _

theorem kept_phaseTest (s : State) : Kept s (phaseTest s) := by
  unfold phaseTest; split
  · exact ((kept_setPhase _ _).trans (kept_phaseNotice _ _)).trans (kept_setTrim _ _)
  · exact ((kept_setPhase _ _).trans (kept_phaseNotice _ _)).trans (kept_setTrim _ _)
  · exact .refl _

/-! ## Fan Sequencer -/

theorem kept_modFan (f : Nat) (g : FanRecord → FanRecord) (s : State) : Kept s (modFan f g s) := kept_setFans _ _
theorem kept_setFanState (f : Nat) (st : FanState) (s : State) : Kept s (setFanState f st s) := kept_setFans _ _
theorem kept_stopTimers (f : Nat) (s : State) : Kept s (stopTimers f s) := kept_setFans _ _
theorem kept_setQueue (q : List Nat) (s : State) : Kept s (setQueue q s) := kept_setFans _ _
theorem kept_leaveQueue (f : Nat) (s : State) : Kept s (leaveQueue f s) := kept_setFans _ _
theorem kept_closeExchange (f : Nat) (s : State) : Kept s (closeExchange f s) := kept_setFans _ _

theorem kept_offerFanCommand (f : Nat) (c : FanCommand) (s : State) : Kept s (offerFanCommand f c s) := by
  unfold offerFanCommand; split
  · exact kept_headNotice _ _ _
  · split
    · exact kept_offerCommand _ _ rfl (by simp [kindFanCommand, kindTest])
    · exact .refl _

theorem kept_sendCommand (f : Nat) (a : Action) (d : Drive) (st : SpeedStep) (s : State) :
    Kept s (sendCommand f a d st s) := (kept_setFan _ _ _).trans (kept_offerFanCommand _ _ _)
theorem kept_sendStop (f : Nat) (s : State) : Kept s (sendStop f s) := kept_sendCommand _ _ _ _ _
theorem kept_stopFan (f : Nat) (s : State) : Kept s (stopFan f s) := (kept_sendStop _ _).trans (kept_modFan _ _ _)

theorem kept_joinQueue (f : Nat) (s : State) : Kept s (joinQueue f s) := by
  unfold joinQueue
  simp only []
  split
  · exact (kept_setQueue _ _).trans (kept_setFanState _ _ _)
  · exact .refl _

theorem kept_dwellEnd (f : Nat) (s : State) : Kept s (dwellEnd f s) :=
  (kept_modFan _ _ _).trans (kept_joinQueue _ _)

theorem kept_enterDwell (f ms : Nat) (s : State) : Kept s (enterDwell f ms s) := by
  unfold enterDwell; split
  · exact kept_dwellEnd _ _
  · exact kept_modFan _ _ _

theorem kept_deriveFan (f : Nat) (s : State) : Kept s (deriveFan f s) := by
  refine (kept_stopTimers f s).trans ?_
  unfold deriveFan
  simp only []
  split
  · split <;> first
      | exact (kept_setFanState _ _ _).trans (kept_sendStop _ _)
      | exact kept_setFanState _ _ _
  · split
    · exact kept_setFanState _ _ _
    · split
      · exact kept_setFanState _ _ _
      · exact kept_setFanState _ _ _
      · exact .ite (kept_setFanState _ _ _) (kept_stopFan _ _)
      · exact .ite (kept_modFan _ _ _) (kept_stopFan _ _)
      · exact kept_stopFan _ _
      · exact kept_stopFan _ _
      · exact .ite (kept_modFan _ _ _) (kept_setFanState _ _ _)

theorem kept_deriveOne (f : Nat) (s : State) : Kept s (deriveOne f s) :=
  (kept_deriveFan _ _).trans (kept_joinQueue _ _)

theorem kept_notifyChange (f : Nat) (old : FanState) (s : State) : Kept s (notifyChange f old s) :=
  .ite (kept_phaseTest _) (.refl _)

theorem kept_startFan (f : Nat) (s : State) : Kept s (startFan f s) := by
  unfold startFan; split
  · exact .refl _
  · exact ((((kept_leaveQueue _ _).trans (kept_sendCommand _ _ _ _ _)).trans (kept_modFan _ _ _)).trans
      (kept_setFans _ _)).trans (kept_notifyChange _ _ _)

theorem kept_startLoop (n : Nat) (s : State) : Kept s (startLoop n s) := by
  induction n generalizing s with
  | zero => exact .refl _
  | succ n ih =>
    unfold startLoop; split
    · exact .refl _
    · exact .ite ((kept_startFan _ _).trans (ih _)) (.refl _)

theorem kept_startTests (s : State) : Kept s (startTests s) := kept_startLoop _ _

theorem kept_applyWanted (f : Nat) (s : State) : Kept s (applyWanted f s) := by
  unfold applyWanted
  simp only []
  split
  · exact kept_joinQueue _ _
  · exact .ite (.refl _) ((kept_leaveQueue _ _).trans (kept_setFanState _ _ _))
  · split
    · exact .ite (.refl _) (kept_stopFan _ _)
    · exact kept_stopFan _ _
  · exact .ite (.refl _) (kept_stopFan _ _)
  · exact .ite (.refl _) (kept_stopFan _ _)
  · exact .refl _

theorem kept_takeWanted (s : State) (f : Nat) : Kept s (takeWanted s f) :=
  ((kept_applyWanted _ _).trans (kept_notifyChange _ _ _)).trans (kept_startTests _)

theorem kept_takeWanteds (fs : List Nat) (s : State) : Kept s (takeWanteds fs s) := by
  unfold takeWanteds
  induction fs generalizing s with
  | nil => exact .refl _
  | cons f fs ih => exact (kept_takeWanted _ _).trans (ih _)

theorem kept_handWanted (s : State) : Kept s (handWanted s) := (kept_recordWanted _).trans (kept_takeWanteds _ _)
theorem kept_rebuilt (s : State) : Kept s (rebuilt s) :=
  ((kept_handWanted _).trans (kept_phaseTest _)).trans (kept_startTests _)
theorem kept_freshRevision (s : State) : Kept s (freshRevision s) := (kept_freshWalk _).trans (kept_rebuilt _)
theorem kept_hysteresisRevision (s : State) : Kept s (hysteresisRevision s) :=
  (kept_hysteresisWalk _).trans (kept_rebuilt _)

theorem kept_recompute (s : State) : Kept s (recompute s).1 := by
  unfold recompute; split
  · exact ((kept_hysteresisWalk _).trans (kept_recordWanted _)).trans (kept_phaseTest _)
  · exact .refl _

/-- An event of one fan keeps what its own effect keeps. -/
theorem kept_fanEvent (f : Nat) (body : State → State × Bool) (s : State) (h : Kept s (body s).1) :
    Kept s (fanEvent f body s) := by
  unfold fanEvent
  refine h.trans ?_
  simp only []
  split
  · exact (((kept_recompute _).trans (kept_notifyChange _ _ _)).trans (kept_startTests _)).trans
      (kept_takeWanteds _ _)
  · exact ((kept_notifyChange _ _ _).trans (kept_startTests _)).trans (kept_takeWanteds _ _)

theorem kept_failedAttempt (f : Nat) (s : State) : Kept s (failedAttempt f s).1 := by
  unfold failedAttempt
  refine (kept_stopFan f s).trans ?_
  simp only []
  split
  · split
    · exact (kept_setFan _ _ _).trans (kept_headNotice _ _ _)
    · exact kept_setFan _ _ _
  · split
    · exact (kept_setFan _ _ _).trans (kept_headNotice _ _ _)
    · exact kept_setFan _ _ _

theorem kept_becomeUnavailable (f : Nat) (s : State) : Kept s (becomeUnavailable f s).1 := by
  unfold becomeUnavailable
  exact ((kept_leaveQueue f s).trans (kept_modFan f _ _)).fst
theorem kept_becomeLost (f n : Nat) (s : State) : Kept s (becomeLost f n s).1 := by
  unfold becomeLost
  exact (kept_modFan f _ s).trans (kept_headNotice _ _ _)

theorem kept_recoverFan (f : Nat) (s : State) : Kept s (recoverFan f s).1 := by
  unfold recoverFan
  simp only []
  split
  · exact ((kept_modFan f _ s).trans (kept_deriveOne _ _)).trans (kept_headNotice _ _ _)
  · exact (kept_modFan f _ s).trans (kept_headNotice _ _ _)

theorem kept_statusStarting (f : Nat) (s : State) : Kept s (statusStarting f s).1 := by
  unfold statusStarting
  simp only []
  split
  · split
    · split
      · exact (kept_modFan f _ s).fst
      · exact kept_failedAttempt _ _
    · split
      · exact .refl _
      · exact kept_failedAttempt _ _
    all_goals first | exact kept_failedAttempt _ _ | exact .refl _
  · split <;> first | exact kept_failedAttempt _ _ | exact .refl _

theorem kept_statusRunning (f : Nat) (s : State) : Kept s (statusRunning f s).1 := by
  unfold statusRunning
  simp only []
  split
  · split
    · exact .refl _
    · exact kept_deriveOne _ _
  · exact kept_failedAttempt _ _
  · exact kept_deriveOne _ _

theorem kept_statusStopping (f : Nat) (s : State) : Kept s (statusStopping f s).1 := by
  unfold statusStopping
  simp only []
  split
  · split <;> first | exact kept_enterDwell _ _ _ | exact kept_sendStop _ _ | exact .refl _
  · exact .refl _

theorem kept_statusStanding (f : Nat) (b : Bool) (s : State) : Kept s (statusStanding f b s).1 := by
  unfold statusStanding
  simp only []
  split
  · split
    · exact kept_deriveOne _ _
    · exact .refl _
  · exact .refl _
  · exact (kept_leaveQueue _ _).trans (kept_deriveOne _ _)

theorem kept_statusFailed (f : Nat) (s : State) : Kept s (statusFailed f s).1 := by
  unfold statusFailed
  simp only []
  split
  · exact kept_sendStop _ _
  · exact .refl _

theorem kept_statusBody (f : Nat) (b : Bool) (s : State) : Kept s (statusBody f b s).1 := by
  unfold statusBody
  simp only []
  split
  · exact kept_recoverFan _ _
  · split
    · split
      · exact .refl _
      · exact kept_becomeUnavailable _ _
    · split
      all_goals first
        | exact .refl _
        | exact kept_statusStarting _ _
        | exact kept_statusRunning _ _
        | exact kept_statusStopping _ _
        | exact kept_statusStanding _ _ _
        | exact kept_statusFailed _ _
        | exact kept_deriveOne _ _

theorem kept_takeStatus (f : Nat) (st : FanStatus) (b : Bool) (s : State) : Kept s (takeStatus f st b s) :=
  (kept_modFan _ _ _).trans (kept_fanEvent _ _ _ (kept_statusBody _ _ _))

theorem kept_dryReport (f : Nat) (st : FanStatus) (s : State) : Kept s (dryReport f st s) :=
  .ite (.refl _) (kept_modFan _ _ _)

theorem kept_recomputeFor (fs : List Nat) (p : State × List Nat) : Kept p.1 (recomputeFor fs p).1 := by
  induction fs generalizing p with
  | nil => exact .refl _
  | cons f fs ih =>
    obtain ⟨s, acc⟩ := p
    exact (kept_recompute s).trans (ih ((recompute s).1, acc ++ (recompute s).2))

theorem kept_foldl (g : State → Nat → State) (h : ∀ s f, Kept s (g s f)) (fs : List Nat) (s : State) :
    Kept s (fs.foldl g s) := by
  induction fs generalizing s with
  | nil => exact .refl _
  | cons f fs ih => exact (h _ _).trans (ih _)

theorem kept_takeover (s : State) : Kept s (takeover s) := by
  unfold takeover
  exact (((((kept_setFans _ _).trans (kept_foldl _ (fun u f => kept_deriveFan f u) _ _)).trans
    (kept_foldl _ (fun v f => kept_joinQueue f v) _ _)).trans (kept_recomputeFor _ (_, []))).trans
    ((kept_phaseTest _).trans (kept_startTests _))).trans (kept_takeWanteds _ _)

theorem kept_comeIntoCommand (s : State) : Kept s (comeIntoCommand s) := .ite (kept_takeover _) (.refl _)

theorem kept_removeFanCommands (s : State) : Kept s (removeFanCommands s) :=
  kept_setPort _ _ (fun q hq => .inl (by
    simp only [List.mem_append, List.mem_filter] at hq ⊢
    exact hq.imp And.left id)) fun e => by
    have := List.length_filter_le (fun q : QFrame => q.kind != kindFanCommand) s.port.commands
    simp only [portInRange_iff] at e ⊢
    omega

theorem kept_leaveCommand (s : State) : Kept s (leaveCommand s) :=
  .ite (((kept_setFans _ _).trans (kept_removeFanCommands _)).trans (kept_phaseTest _)) (.refl _)

theorem kept_clearMarks (s : State) : Kept s (clearMarks s) := kept_setFans _ _

theorem kept_ageUnknown (f : Nat) (s : State) : Kept s (ageUnknown f s).1 := by
  unfold ageUnknown
  simp only []
  split
  · exact ((kept_modFan f _ s).trans (kept_leaveQueue _ _)).trans (kept_setFanState _ _ _)
  · exact (kept_modFan f _ s).fst

theorem kept_ackPasses (f : Nat) (s : State) : Kept s (ackPasses f s).1 := by
  unfold ackPasses
  split
  · exact .refl _
  · split
    · exact (kept_modFan _ _ _).trans (kept_setDraws _ _)
    · split
      · exact kept_closeExchange _ _
      · exact kept_becomeLost _ _ _

theorem kept_resendNow (f : Nat) (s : State) : Kept s (resendNow f s) := by
  unfold resendNow; split
  · exact .refl _
  · exact (kept_modFan _ _ _).trans (kept_offerFanCommand _ _ _)

theorem kept_silenceOffer (s : State) (f : Nat) : Kept s (silenceOffer s f) := by
  unfold silenceOffer; split
  · exact .refl _
  · exact kept_offerFanCommand _ _ _

theorem kept_silenceResendAll (s : State) : Kept s (silenceResendAll s) := by
  unfold silenceResendAll
  refine Kept.trans (kept_setPort s _ (fun _ hq => ?_) ?_) (kept_foldl _ kept_silenceOffer _ _)
  · exact .inl hq
  · exact id

/-! ## Authority Controller -/

theorem kept_setAuthState (a : AuthState) (s : State) : Kept s (setAuthState a s) := kept_setAuth _ _
theorem kept_moveAuth (a : AuthState) (s : State) : Kept s (moveAuth a s) :=
  (kept_setAuthState _ _).trans (kept_authorityNotice _ _ _)

theorem kept_interception (s : State) : Kept s (interception s) := by
  unfold interception
  exact (kept_setAuth _ _).trans (.ite (kept_claimHold _) (.refl _))

theorem kept_interceptions (n : Nat) (s : State) : Kept s (interceptions n s) := by
  induction n generalizing s with
  | zero => exact .refl _
  | succ n ih => exact (kept_interception _).trans (ih _)

theorem kept_purgeForward (s : State) : Kept s (purgeForward s) := by
  unfold purgeForward
  refine Kept.trans (kept_setPort s _ (fun _ hq => ?_) fun e => ?_) (kept_interceptions _ _)
  · exact .inl hq
  · have := List.length_filter_le (fun b => !intercepts s (frameOf b)) s.port.forward
    simp only [portInRange_iff] at e ⊢
    omega

theorem kept_enterAutonomous (s : State) : Kept s (enterAutonomous s) := by
  unfold enterAutonomous
  exact (((kept_setAuthState _ _).trans
    (.ite (.refl _) ((kept_claimHold _).trans (kept_purgeForward _)))).trans (kept_authorityNotice _ _ _)).trans
    (kept_comeIntoCommand _)

theorem kept_endHold (s : State) : Kept s (endHold s) := by
  unfold endHold
  exact Kept.trans (.ite (kept_offerHold _ _ _) (.refl _)) (kept_setAuth _ _)

theorem kept_exitAutonomous (a : AuthState) (s : State) : Kept s (exitAutonomous a s) :=
  (((kept_setAuthState _ _).trans (kept_leaveCommand _)).trans (kept_endHold _)).trans (kept_authorityNotice _ _ _)

theorem kept_listNotEmpty (s : State) : Kept s (listNotEmpty s) := by
  unfold listNotEmpty
  split <;> first | exact kept_enterAutonomous _ | exact kept_authorityNotice _ _ _ | exact .refl _

theorem kept_listEmpty (s : State) : Kept s (listEmpty s) := by
  unfold listEmpty
  split <;> first | exact kept_exitAutonomous _ _ | exact kept_moveAuth _ _ | exact .refl _

theorem kept_geometryOpened (s : State) : Kept s (geometryOpened s) := by
  unfold geometryOpened
  split <;> first | exact kept_moveAuth _ _ | exact .refl _

theorem kept_geometryClosed (s : State) : Kept s (geometryClosed s) := by
  unfold geometryClosed
  split
  · exact .ite (kept_enterAutonomous _) (kept_moveAuth _ _)
  · exact .refl _

theorem kept_leaveStarting (s : State) : Kept s (leaveStarting s) := by
  unfold leaveStarting
  exact (kept_moveAuth _ _).trans (.ite (kept_offerHold _ _ _) (.refl _))

theorem kept_releaseAuthority (n : Nat) (s : State) : Kept s (releaseAuthority n s) :=
  .ite (kept_exitAutonomous _ _) (kept_authorityNotice _ _ _)

theorem kept_resumeAuthority (s : State) : Kept s (resumeAuthority s) := by
  unfold resumeAuthority
  split <;> first | exact kept_enterAutonomous _ | exact .refl _

/-! ## Scenario Lookup -/

theorem kept_scenarioNotice (l : Live) (s : State) : Kept s (scenarioNotice l s) := kept_headNotice _ _ _
theorem kept_lockedNotice (n d : Nat) (s : State) : Kept s (lockedNotice n d s) := kept_notice _ _ _ _

theorem kept_when (b : Bool) (f : State → State) (s : State) (h : Kept s (f s)) : Kept s (when b f s) :=
  .ite h (.refl _)

theorem kept_relookup (s : State) : Kept s (relookup s) := by
  unfold relookup
  split
  · exact .refl _
  · simp only []
    split
    · split
      · exact (kept_setLive _ _).trans (.ite (.refl _) (kept_freshRevision _))
      · exact kept_setLive _ _
    · exact (((kept_setLive _ _).trans (kept_scenarioNotice _ _)).trans (kept_computeOpenLoop _)).trans
        (kept_freshRevision _)

theorem kept_tableChanged (s : State) : Kept s (tableChanged s) := .ite (kept_relookup _) (.refl _)

theorem kept_rebuildFallback (s : State) : Kept s (rebuildFallback s) := by
  unfold rebuildFallback
  split
  · exact .refl _
  · split
    · exact .ite (.refl _) ((kept_setLive _ _).trans (kept_freshRevision _))
    · exact .refl _

theorem kept_chainageChanged (s : State) : Kept s (chainageChanged s) := by
  unfold chainageChanged
  exact (Kept.trans (.ite (kept_relookup _) (.refl _)) (kept_rebuildFallback _)).trans (kept_hysteresisRevision _)

theorem kept_scenarioSetValid (s : State) : Kept s (scenarioSetValid s) := .ite (kept_relookup _) (.refl _)

theorem kept_carryOut (s : State) : Kept s (carryOut s) :=
  .ite (((kept_freshWalk _).trans (kept_handWanted _)).trans (kept_comeIntoCommand _))
    (((kept_leaveCommand _).trans (kept_freshWalk _)).trans (kept_handWanted _))

theorem kept_lateLookup (b : Bool) (x : Option Nat) (s : State) : Kept s (lateLookup b x s) := by
  unfold lateLookup
  exact ((kept_setLive _ _).trans (kept_scenarioNotice _ _)).trans (kept_when _ _ _ (kept_lockedNotice _ _ _))

theorem kept_freshScenario (s : State) : Kept s (freshScenario s) := by
  unfold freshScenario
  simp only []
  split
  · exact ((kept_setLive _ _).trans (kept_when _ _ _ (kept_scenarioNotice _ _))).trans
      (kept_when _ _ _ (kept_lockedNotice _ _ _))
  · exact kept_setLive _ _

theorem kept_restoreScenario (p : SavedPlan) (s : State) : Kept s (restoreScenario p s).1 := by
  unfold restoreScenario
  split
  · split
    · exact kept_lateLookup _ _ _
    · exact kept_setLive _ _
  · split
    · exact kept_setLive _ _
    · simp only []
      split
      · exact kept_setLive _ _
      · exact (kept_setLive _ _).trans (kept_scenarioNotice _ _)

theorem kept_setPhaseTimer (x : Option Nat) (s : State) : Kept s (setPhaseTimer x s) := kept_setIncidents _ _

theorem kept_announcePhase (p : Phase) (s : State) : Kept s (announcePhase p s) := by
  unfold announcePhase
  refine Kept.trans ?_ (kept_startTests _)
  refine (kept_phaseNotice p s).trans ?_
  cases p
  · exact .refl _
  · exact kept_phaseTest _
  · exact .refl _

theorem kept_activateFresh (s : State) : Kept s (activateFresh s) := by
  unfold activateFresh
  exact (((((kept_setPlan _ _).trans (kept_freshScenario _)).trans (.ite (kept_computeOpenLoop _) (.refl _))).trans
    (kept_setPhase _ _)).trans (kept_setPhaseTimer _ _)).trans ((kept_carryOut _).trans (kept_announcePhase _ _))

theorem kept_activateSaved (p : SavedPlan) (s : State) : Kept s (activateSaved p s) := by
  unfold activateSaved
  exact ((((kept_setPlan _ _).trans (kept_restoreScenario _ _)).trans (.ite (kept_computeOpenLoop _) (.refl _))).trans
    (kept_setPhase _ _)).trans ((kept_carryOut _).trans (kept_announcePhase _ _))

theorem kept_activate (p : Option SavedPlan) (s : State) : Kept s (activate p s) := by
  cases p
  · exact kept_activateFresh _
  · exact kept_activateSaved _ _

theorem kept_geometryLookup (s : State) : Kept s (geometryLookup s) := by
  unfold geometryLookup
  split
  · exact .refl _
  · exact .ite ((((kept_lateLookup _ _ _).trans (kept_computeOpenLoop _)).trans (kept_carryOut _)).trans
      ((kept_phaseTest _).trans (kept_startTests _))) (.refl _)

theorem kept_lockExpires (n : Nat) (s : State) : Kept s (lockExpires n s) := by
  unfold lockExpires
  split
  · exact .refl _
  · split
    · exact (kept_setLive _ _).trans (kept_when _ _ _ (kept_lockedNotice _ _ _))
    · exact (kept_setIncidents _ _).trans (kept_when _ _ _ (kept_lockedNotice _ _ _))
    · exact .refl _

theorem kept_trim (v : Int) (vt : Nat) (s : State) : Kept s (trim v vt s) := by
  unfold trim
  simp only []
  split
  · exact .refl _
  · exact (kept_setDemand _ _).trans (.ite (.refl _) (kept_hysteresisRevision _))

theorem kept_trimStep (s : State) : Kept s (trimStep s) := by
  unfold trimStep
  split
  · exact .refl _
  · split
    · exact .refl _
    · split
      · exact .refl _
      · exact .refl _
      · split
        · exact .refl _
        · exact kept_trim _ _ _

/-! ## Incident Manager -/

theorem kept_setCandidate (k : Nat) (c : Option Candidate) (s : State) : Kept s (setCandidate k c s) :=
  kept_setIncidents _ _

theorem kept_discard (n : Nat) (c : DiscardCause) (k : Nat) (s : State) : Kept s (discard n c k s) := by
  unfold discard; split
  · exact .refl _
  · exact (kept_setCandidate _ _ _).trans (kept_notice _ _ _ _)

theorem kept_discardWhere (n : Nat) (c : DiscardCause) (p : Candidate → Bool) (ks : List Nat) (s : State) :
    Kept s (discardWhere n c p ks s) := by
  induction ks generalizing s with
  | nil => exact .refl _
  | cons k ks ih =>
    unfold discardWhere
    refine Kept.trans ?_ (ih _)
    split
    · exact .refl _
    · exact .ite (kept_discard _ _ _ _) (.refl _)

theorem kept_emptyCandidates (s : State) : Kept s (emptyCandidates s) := kept_discardWhere _ _ _ _ _
theorem kept_absorb (n x : Nat) (s : State) : Kept s (absorb n x s) := kept_discardWhere _ _ _ _ _
theorem kept_headChangedNotice (a b : Nat) (s : State) : Kept s (headChangedNotice a b s) := kept_notice _ _ _ _

theorem kept_headChange (old : Nat) (s : State) : Kept s (headChange old s) := by
  unfold headChange; split
  · exact .refl _
  · exact (((kept_setIncidents _ _).trans (kept_setTrim _ _)).trans (kept_headChangedNotice _ _ _)).trans
      (kept_activate _ _)

theorem kept_settleHead (old : Nat) (s : State) : Kept s (settleHead old s) := .ite (kept_headChange _ _) (.refl _)

theorem kept_listedNotice (i : Incident) (s : State) : Kept s (listedNotice i s) := kept_notice _ _ _ _

theorem kept_enterIncident (p : Proposal) (s : State) : Kept s (enterIncident p s) := by
  unfold enterIncident
  simp only []
  exact (((kept_setIncidents s _).trans (kept_listedNotice _ _)).trans (kept_settleHead _ _)).trans
    ((Kept.ite (kept_listNotEmpty _) (.refl _)).trans (kept_absorb _ _ _))

theorem kept_listIncident (p : Proposal) (s : State) : Kept s (listIncident p s) := by
  unfold listIncident
  split
  · exact kept_enterIncident _ _
  · split
    · exact .refl _
    · exact .ite (((kept_setIncidents _ _).trans (kept_notice _ _ _ _)).trans (kept_enterIncident _ _))
        (kept_notice _ _ _ _)

theorem kept_handOn (a b : Incident) (s : State) : Kept s (handOn a b s) := by
  unfold handOn
  split
  · exact Kept.trans (.ite (.refl _) (kept_chainageChanged _)) (.ite (.refl _) (kept_tableChanged _))
  · exact .refl _

theorem kept_mergeRecord (c : MergeCause) (a b : Incident) (s : State) : Kept s (mergeRecord c a b s) := by
  unfold mergeRecord
  exact (((kept_setIncidents _ _).trans (kept_notice _ _ _ _)).trans (kept_settleHead _ _)).trans (kept_handOn _ _ _)

theorem kept_corroborate (e : Detection) (i : Incident) (s : State) : Kept s (corroborate e i s) :=
  .ite (.refl _) (kept_mergeRecord _ _ _ _)

theorem kept_promote (k : Nat) (c : Candidate) (s : State) : Kept s (promote k c s) := by
  unfold promote
  refine (kept_setCandidate k none s).trans ?_
  simp only []
  split
  · exact kept_mergeRecord _ _ _ _
  · exact kept_listIncident _ _

theorem kept_testCandidate (k : Nat) (s : State) : Kept s (testCandidate k s) := by
  unfold testCandidate
  split
  · exact .refl _
  · split
    · exact .ite (kept_promote _ _ _) (.refl _)
    · exact .refl _
    · exact ((kept_setCandidate _ _ _).trans (kept_notice _ _ _ _)).trans (.ite (kept_promote _ _ _) (.refl _))

theorem kept_openCandidate (k : Nat) (e : Detection) (s : State) : Kept s (openCandidate k e s) :=
  ((kept_setCandidate _ _ _).trans (kept_notice _ _ _ _)).trans (kept_testCandidate _ _)

/-- A detector event changes the incident, plan, fan and authority state and the Ring Port alone. -/
theorem kept_takeEvent (e : Detection) (s : State) : Kept s (takeEvent e s) := by
  unfold takeEvent
  split
  · exact kept_corroborate _ _ _
  · split
    · split
      · exact .refl _
      · exact (kept_setCandidate _ _ _).trans (kept_testCandidate _ _)
    · split
      · exact kept_openCandidate _ _ _
      · exact (kept_discard _ _ _ _).trans (kept_openCandidate _ _ _)

/-- A declaration changes the incident, plan, fan and authority state and the Ring Port alone. -/
theorem kept_declare (q : Nat) (d : Declaration) (s : State) : Kept s (declare q d s) := by
  unfold declare
  extract_lets badZone
  refine Kept.ite (kept_notice _ _ _ _) ?_
  · split
    · exact kept_notice _ _ _ _
    · split
      · exact (kept_mergeRecord _ _ _ _).trans (kept_absorb _ _ _)
      · exact kept_listIncident _ _

theorem kept_dropPlan (s : State) : Kept s (dropPlan s) :=
  ((kept_setPlan _ _).trans (kept_setLive _ _)).trans (kept_setFans _ _)

theorem kept_listEmptied (n : Nat) (s : State) : Kept s (listEmptied n s) :=
  (((((kept_setPhaseTimer _ _).trans (kept_headChangedNotice _ _ _)).trans (kept_dropPlan _)).trans
    (kept_leaveCommand _)).trans (kept_clearMarks _)).trans (kept_listEmpty _)

theorem kept_removeAll (n : Nat) (s : State) : Kept s (removeAll n s) := by
  induction n generalizing s with
  | zero => exact .refl _
  | succ n ih =>
    unfold removeAll; split
    · exact .refl _
    · exact ((kept_setIncidents _ _).trans (kept_notice _ _ _ _)).trans (ih _)

theorem kept_clearAll (s : State) : Kept s (clearAll s) := (kept_removeAll _ _).trans (kept_listEmptied _ _)

theorem kept_clearedNotice (n k : Nat) (s : State) : Kept s (clearedNotice n k s) := kept_notice _ _ _ _

theorem kept_clearOne (n : Nat) (s : State) : Kept s (clearOne n s) := by
  unfold clearOne
  simp only []
  refine Kept.ite ?_ ?_
  · exact ((kept_setIncidents s _).trans (kept_clearedNotice _ _ _)).trans (kept_listEmptied _ _)
  · exact ((kept_setIncidents s _).trans (kept_clearedNotice _ _ _)).trans (kept_settleHead _ _)

/-- A clear changes the incident, plan, fan and authority state and the Ring Port alone. -/
theorem kept_clearIncident (n : Nat) (s : State) : Kept s (clearIncident n s) :=
  .ite (.ite (kept_clearAll _) (kept_notice _ _ _ _)) (.ite (kept_clearOne _ _) (kept_notice _ _ _ _))

theorem kept_emptyIncidents (s : State) : Kept s (emptyIncidents s) := by
  unfold emptyIncidents
  exact ((kept_removeAll _ _).trans (kept_emptyCandidates _)).trans (.ite (kept_listEmptied _ _) (.refl _))

/-! ## Forwarding (R9, R14, R18) -/

/-- A forwarded frame that did not end IN SILENT is offered to the forward queue. -/
@[simp] theorem forwardFrame_plain (bs : List Byte) (s : State) : forwardFrame false bs s = offerForward bs s := rfl

/-- A forwarded frame that ended IN SILENT and its notice are both in their queues when the arbiter serves. -/
theorem forwardFrame_restored (bs : List Byte) (s : State) :
    forwardFrame true bs s =
      serve (enterForward bs (enterReport (noticeFrame 0x18 (headNumber s) [] s) s)) := rfl

/-- A plain frame that enters the report class changes the Ring Port alone. -/
theorem kept_enterReport (q : QFrame) (s : State) (h : q.softReset = false) (k : q.kind ≠ kindTest) :
    Kept s (enterReport q s) := by
  unfold enterReport
  split
  · rename_i hn
    refine kept_setPort s _ (fun x hx => ?_) fun e => ?_
    · simp only [List.mem_append, List.mem_singleton] at hx ⊢
      rcases hx with a | a | a
      · exact .inl (.inl a)
      · exact .inl (.inr a)
      · exact .inr (a ▸ ⟨h, k⟩)
    · simp only [portInRange_iff, insertCount, Config.insertCapacity, List.length_append, List.length_singleton] at e hn ⊢
      omega
  · exact kept_dropReport q s fun _ => h

theorem kept_enterForward (bs : List Byte) (s : State) : Kept s (enterForward bs s) := by
  unfold enterForward
  split
  · rename_i hn
    refine kept_setPort s _ (fun _ hq => .inl hq) fun e => ?_
    simp only [portInRange_iff, Config.forwardCapacity, List.length_append, List.length_singleton] at e hn ⊢
    omega
  · exact kept_count s _ fun e => by
      have := satCount_le 255 s.port.counters.forwardOverrun
      simp only [portInRange_iff] at e ⊢
      omega

/-- A forwarded frame changes the Ring Port alone. -/
theorem kept_forwardFrame (restored : Bool) (bs : List Byte) (s : State) : Kept s (forwardFrame restored bs s) := by
  cases restored
  · exact kept_offerForward bs s
  · exact ((kept_enterReport _ s rfl (by simp [noticeFrame, kindNotice, kindTest])).trans
      (kept_enterForward _ _)).trans (kept_serve _)

end Sys2Proof.Machine
end

