-- ==== Sys2Proof/Laws/Memory.lean ====
section
/-!
SUPPORT. The configuration memory: reading after writing, and that every write keeps the canonical form.
-/

namespace Sys2Proof.Machine

open Sys2Proof

/-- A cell list that starts at `lo` starts at any lower bound. -/
theorem memSorted_weaken (m : List Host.Cell) (lo lo' : Nat) (h : memSorted lo m = true) (hle : lo' ≤ lo) :
    memSorted lo' m = true := by
  cases m with
  | nil => rfl
  | cons c m =>
    obtain ⟨x, w⟩ := c
    simp only [memSorted, Bool.and_eq_true, decide_eq_true_eq] at h ⊢
    exact ⟨⟨by omega, h.1.2⟩, h.2⟩

/-- An address below every listed one reads blank. -/
theorem memRead_below (m : List Host.Cell) (lo a : Nat) (h : memSorted lo m = true) (ha : a < lo) :
    memRead m a = blankByte := by
  induction m generalizing lo with
  | nil => rfl
  | cons c m ih =>
    obtain ⟨x, w⟩ := c
    simp only [memSorted, Bool.and_eq_true, decide_eq_true_eq] at h
    have hne : a ≠ x := by omega
    simp only [memRead, if_neg hne]
    exact ih (x + 1) h.2 (by omega)

/-- A byte is read back after it is written, and every other byte is left. -/
theorem memRead_memWrite (m : List Host.Cell) (lo a b : Nat) (v : Byte) (h : memSorted lo m = true) :
    memRead (memWrite m a v) b = if b = a then v else memRead m b := by
  induction m generalizing lo with
  | nil => by_cases hv : v = blankByte <;> by_cases hb : b = a <;> simp [memWrite, memRead, hv, hb]
  | cons c m ih =>
    obtain ⟨x, w⟩ := c
    simp only [memSorted, Bool.and_eq_true, decide_eq_true_eq] at h
    have below : ∀ y, y ≤ x → memRead m y = blankByte := fun y hy => memRead_below m (x + 1) y h.2 (by omega)
    unfold memWrite
    by_cases hax : a < x
    · rw [if_pos hax]
      have hne : a ≠ x := by omega
      by_cases hv : v = blankByte <;> by_cases hb : b = a
      · subst hb; simp [memRead, hv, hne, below b (by omega)]
      · simp [hv, hb]
      · subst hb; simp [memRead, hv]
      · simp [memRead, hv, hb]
    · rw [if_neg hax]
      by_cases hae : a = x
      · rw [if_pos hae]
        by_cases hv : v = blankByte <;> by_cases hb : b = a
        · subst hb; simp [hv, below b (by omega)]
        · have hbx : b ≠ x := by omega
          simp [memRead, hv, hb, hbx]
        · subst hb; simp [memRead, hv]
        · have hbx : b ≠ x := by omega
          simp [memRead, hv, hb, hbx]
      · rw [if_neg hae]
        by_cases hbx : b = x
        · have hb : b ≠ a := by omega
          simp [memRead, hbx, Ne.symm hae]
        · simp [memRead, hbx, ih (x + 1) h.2]

/-- A write keeps the order and the absence of blank bytes. -/
theorem memSorted_memWrite (m : List Host.Cell) (lo a : Nat) (v : Byte) (h : memSorted lo m = true) (ha : lo ≤ a) :
    memSorted lo (memWrite m a v) = true := by
  induction m generalizing lo with
  | nil =>
    unfold memWrite
    by_cases hv : v = blankByte
    · simp [hv, memSorted]
    · simp [hv, memSorted, ha]
  | cons c m ih =>
    obtain ⟨x, w⟩ := c
    simp only [memSorted, Bool.and_eq_true, decide_eq_true_eq] at h
    unfold memWrite
    by_cases hax : a < x
    · rw [if_pos hax]
      by_cases hv : v = blankByte
      · simp [hv, memSorted, h.1.1, h.1.2, h.2]
      · simp [hv, memSorted, ha, h.1.2, h.2, Nat.succ_le_of_lt hax]
    · rw [if_neg hax]
      by_cases hae : a = x
      · rw [if_pos hae]
        by_cases hv : v = blankByte
        · rw [if_pos hv]; exact memSorted_weaken m (x + 1) lo h.2 (by omega)
        · rw [if_neg hv]; subst hae; simp [memSorted, ha, hv, h.2]
      · rw [if_neg hae]
        simp [memSorted, h.1.1, h.1.2, ih (x + 1) h.2 (by omega)]

/-- A write lists no address but the written one and those listed before. -/
theorem memWrite_listed (m : List Host.Cell) (a : Nat) (v : Byte) (c : Host.Cell) (h : c ∈ memWrite m a v) :
    c.1 = a ∨ c ∈ m := by
  induction m with
  | nil =>
    unfold memWrite at h
    split at h
    · cases h
    · left; simpa using congrArg Prod.fst (List.mem_singleton.mp h)
  | cons d m ih =>
    obtain ⟨x, w⟩ := d
    unfold memWrite at h
    split at h
    · split at h
      · exact .inr h
      · rcases List.mem_cons.mp h with e | h
        · exact .inl (congrArg Prod.fst e)
        · exact .inr h
    · split at h
      · split at h
        · exact .inr (List.mem_cons_of_mem _ h)
        · rcases List.mem_cons.mp h with e | h
          · exact .inl (congrArg Prod.fst e)
          · exact .inr (List.mem_cons_of_mem _ h)
      · rcases List.mem_cons.mp h with e | h
        · exact .inr (e ▸ List.mem_cons_self)
        · exact (ih h).imp id (List.mem_cons_of_mem _)

/-- A write inside the device keeps the canonical form. -/
theorem memWrite_wf (m : List Host.Cell) (a : Nat) (v : Byte) (h : Memory.wf m = true) (ha : a < Config.eepromSize) :
    Memory.wf (memWrite m a v) = true := by
  simp only [Memory.wf, Bool.and_eq_true, List.all_eq_true, decide_eq_true_eq] at h ⊢
  refine ⟨memSorted_memWrite m 0 a v h.1 (Nat.zero_le a), fun c hc => ?_⟩
  rcases memWrite_listed m a v c hc with e | hc
  · omega
  · exact h.2 c hc

/-- A run written inside the device keeps the canonical form. -/
theorem memWriteRun_wf (bs : List Byte) (m : List Host.Cell) (a : Nat) (h : Memory.wf m = true)
    (ha : a + bs.length ≤ Config.eepromSize) : Memory.wf (memWriteRun m a bs) = true := by
  induction bs generalizing m a with
  | nil => exact h
  | cons b bs ih =>
    simp only [List.length_cons] at ha
    exact ih _ _ (memWrite_wf m a b h (by omega)) (by omega)

/-- A run written inside a device keeps the canonical form, whether or not the device answers. -/
theorem eepromWrite_wf (e : Eeprom) (a : Nat) (bs : List Byte) (h : Memory.wf e.cells = true)
    (ha : a + bs.length ≤ Config.eepromSize) : Memory.wf (e.write a bs).cells = true := by
  unfold Eeprom.write
  split
  · exact memWriteRun_wf bs e.cells a h ha
  · exact h

/-- A device that does not answer takes nothing. -/
theorem eepromWrite_of_silent {e : Eeprom} (a : Nat) (bs : List Byte) (h : e.answers = false) : e.write a bs = e := by
  simp [Eeprom.write, h]

/-- The blank device has the canonical form. -/
theorem reset_eeprom_wf : Memory.wf State.reset.eeprom.cells = true := rfl

end Sys2Proof.Machine
end

