-- ==== Sys2Proof/Laws/Walk.lean ====
section
/-!
SUPPORT. What the loops of a walk and of the fallback list can do (R107, R126, R129).
-/

namespace Sys2Proof.Machine

open Sys2Proof

/-- R126: the fans appended to a covered thrust are the shortest run from the front that covers D, or all of them. -/
theorem appendUntil_spec (eff : Nat → Nat) (D : Nat) (l : List Nat) (C : Nat) :
    appendUntil eff D l C <+: l ∧
      (D ≤ C + ((appendUntil eff D l C).map eff).sum ∨ appendUntil eff D l C = l) ∧
      ∀ k < (appendUntil eff D l C).length, C + (((appendUntil eff D l C).take k).map eff).sum < D := by
  induction l generalizing C with
  | nil => simp [appendUntil]
  | cons f fs ih =>
    unfold appendUntil
    split
    · rename_i h
      simp [h]
    · rename_i h
      obtain ⟨front, enough, short⟩ := ih (C + eff f)
      refine ⟨by simpa using front, ?_, ?_⟩
      · rcases enough with h | h
        · left
          simp only [List.map_cons, List.sum_cons]
          omega
        · right
          rw [h]
      · intro k hk
        rcases k with _ | k
        · simp only [List.take_zero, List.map_nil, List.sum_nil]
          omega
        · have := short k (by simpa using hk)
          simp only [List.take_succ_cons, List.map_cons, List.sum_cons]
          omega

theorem insertByKey_perm (key : Nat → Int) (x : Nat) (l : List Nat) : (insertByKey key x l).Perm (x :: l) := by
  induction l with
  | nil => simp [insertByKey]
  | cons y ys ih =>
    unfold insertByKey
    split
    · rfl
    · exact (ih.cons y).trans (List.Perm.swap x y ys)

/-- Sorting keeps the elements. -/
theorem sortByKey_perm (key : Nat → Int) (l : List Nat) : (sortByKey key l).Perm l := by
  induction l with
  | nil => simp [sortByKey]
  | cons y ys ih => exact (insertByKey_perm key y _).trans (ih.cons y)

/-- The order of a sorted list of rising numbers: by key, equal keys by number. -/
def byKey (key : Nat → Int) (a b : Nat) : Prop := key a < key b ∨ (key a = key b ∧ a < b)

theorem insertByKey_pairwise (key : Nat → Int) (x : Nat) (l : List Nat) (h : l.Pairwise (byKey key))
    (hx : ∀ y ∈ l, x < y) : (insertByKey key x l).Pairwise (byKey key) := by
  unfold byKey at *
  induction l with
  | nil => simp [insertByKey]
  | cons y ys ih =>
    rw [List.pairwise_cons] at h
    unfold insertByKey
    split
    · rename_i hk
      rw [List.pairwise_cons, List.pairwise_cons]
      refine ⟨fun b hb => ?_, h⟩
      have hxb := hx b hb
      rcases List.mem_cons.1 hb with rfl | hb
      · omega
      · have := h.1 b hb
        omega
    · rename_i hk
      rw [List.pairwise_cons]
      refine ⟨fun b hb => ?_, ih h.2 fun z hz => hx z (by simp [hz])⟩
      rcases List.mem_cons.1 ((insertByKey_perm key x ys).mem_iff.1 hb) with rfl | hb
      · omega
      · exact h.1 b hb

/-- R107: sorting a list of rising numbers orders it by key, equal keys by number. -/
theorem sortByKey_pairwise (key : Nat → Int) (l : List Nat) (h : l.Pairwise (· < ·)) :
    (sortByKey key l).Pairwise (byKey key) := by
  induction l with
  | nil => simp [sortByKey]
  | cons y ys ih =>
    rw [List.pairwise_cons] at h
    exact insertByKey_pairwise key y _ (ih h.2) fun z hz => h.1 z ((sortByKey_perm key ys).mem_iff.1 hz)

end Sys2Proof.Machine
end

