-- ==== Sys2Proof/WellFormed.lean ====
section
/-!
DEFINITION. Which commands the ring, the pins and the time base can carry: each operand within the width or range its
field has in R20, R37, R55, R69, R143 and R206. The meanings are total and do not depend on this check.
-/

namespace Sys2Proof

/-- A field of one byte. -/
def isU8 (n : Nat) : Bool := n < 256
/-- A field of two bytes. -/
def isU16 (n : Nat) : Bool := n < 65536
/-- A signed field of two bytes. -/
def isS16 (x : Int) : Bool := decide (-32768 ≤ x) && decide (x ≤ 32767)
/-- A node address (00_scope.md, "Addresses"). -/
def isNode (n : Nat) : Bool := decide (1 ≤ n) && decide (n ≤ 0x7FFF)
/-- An optional field of two bytes. -/
def isU16? : Option Nat → Bool
  | none => true
  | some n => isU16 n

/-- A TRAIN REPORT as R20 lays it out. -/
def TrainReport.wellFormed (r : TrainReport) : Bool :=
  isU16 r.id && isU16 r.head && isU16 r.tail && isU16 r.speed && isU16? r.offset

/-- A FAN STATUS as R20 lays it out; UNKNOWN is no code of a drive. -/
def FanStatus.wellFormed (r : FanStatus) : Bool :=
  r.drive != .unknown && isU8 r.number && isU8 r.seconds && isS16 r.temperature

/-- An INCIDENT DECLARE as R20 lays it out. -/
def Declaration.wellFormed (d : Declaration) : Bool :=
  isU8 d.severity && isU16? d.chainage && isU16? d.train &&
    (match d.zone with | none => true | some z => isU8 z)

/-- A source lookup names an entry of its table. -/
def Lookup.wellFormed : Lookup → Bool
  | .station i _ => i < 64
  | .drive i => i < 48
  | .unknown => true

/-- A MANAGEMENT REQUEST as R20 lays it out: 4 to 32 payload bytes. -/
def Request.wellFormed (r : Request) : Bool :=
  isNode r.source && r.lookup.wellFormed && isU8 r.sequence && isU8 r.table && isU16 r.index && r.fields.length ≤ 28

/-- The operands of a command lie within what its fields can carry. -/
def Instr.wellFormed : Instr → Bool
  | .powerOnReset _ _ => true
  | .resetN => true
  | .frameReceived _ => true
  | .transmissionEnd => true
  | .inSilentRaised => true
  | .stripAddressExpiry => true
  | .velocitySample i v _ => i < 64 && isS16 v
  | .opacitySample i e _ => i < 64 && isU16 e
  | .temperatureSample i t _ => i < 64 && isS16 t
  | .heatLineReport i _ a => i < 64 && isU16? a
  | .trainReport r => r.wellFormed
  | .fanStatus f st => f < 48 && st.wellFormed
  | .incidentDeclare q d => isU8 q && d.wellFormed
  | .incidentClear n => isU8 n
  | .authorityRelease n => isU8 n
  | .authorityResume => true
  | .openLoad r => r.wellFormed
  | .writeRecord r => r.wellFormed
  | .closeLoad r => r.wellFormed
  | .readRecord r => r.wellFormed
  | .readState r => r.wellFormed
  | .readFan r => r.wellFormed
  | .readCounters r => r.wellFormed
  | .storeTables r => r.wellFormed
  | .setTestMode r => r.wellFormed
  | .inject r => r.wellFormed
  | .softReset r => r.wellFormed
  | .candidateDeadline i => i < 8
  | .phaseTimerExpiry => true
  | .lockTimerExpiry n => decide (1 ≤ n) && isU8 n
  | .trimTimerExpiry => true
  | .statusAgeUnknown f => f < 48
  | .ackDeadline f => f < 48
  | .resendTime f => f < 48
  | .silenceResend => true
  | .startSpacingExpiry => true
  | .dwellTimerExpiry f => f < 48
  | .startTimerExpiry f => f < 48
  | .holdRefresh => true
  | .trainRecordExpiry i => i < 8
  | .startUpLoadEnd _ => true
  | .storeWriteReady => true
  | .storeWriteTimeout => true
  | .testFrameOffer => true
  | .testFrameDeadline n => isU16 n
  | .testFrameReceived _ => true
  | .testReadCounters a q => isNode a && isU8 q
  | .resetNRelease _ => true

end Sys2Proof
end

