-- ==== Sys2Proof/Tests/Slice0.lean ====
section
/-!
SUPPORT. Tests of the model: worked examples of the manual, the check of operands, one step of most commands on a small
state, and for every statement with hypotheses a state that meets them (test_hyp_<what>), at the boundaries of its clauses.
-/

namespace Sys2Proof.Tests

open Sys2Proof Sys2Proof.Machine

/- Each test is checked before the next: side by side, the kernel evaluations hold too many threads at once. -/
set_option Elab.async false

/-! ## Small states -/

/-- The state after a command. -/
def after (c : Instr) (s : State) : State :=
  match exec c s with
  | .next t => t
  | _ => s

/-- After a start-up load without an image, in MONITOR. -/
def monitor : State := { State.reset with auth := { State.reset.auth with state := .monitor } }
/-- A VALID table of the given records. -/
def table (recs : List (List Byte)) : Table := ⟨.valid, recs.length, recs, recs.map fun _ => true⟩
/-- An enabled station entry. -/
def station (addr role chainage zone cable : Nat) : List Byte :=
  [1] ++ be16 addr ++ [byte role] ++ be16 chainage ++ [byte zone, 0, 1] ++ be16 cable
/-- A fan entry in service, orientation TOWARD_B. -/
def fan (addr group : Nat) : List Byte := be16 addr ++ [byte group, 1] ++ be16 200 ++ be16 180 ++ [1]
/-- A scenario record with H = 600, h = 70 and no start delay. -/
def scenario (flags vt P : Nat) (groups : List Byte) : List Byte :=
  [byte flags] ++ be16 vt ++ be16 P ++ be16 600 ++ [70, 0] ++ groups ++ List.replicate (16 - groups.length) 0xFF
/-- Own address 0x0400, L = 4,000, the other parameters at their defaults. -/
def siteParams : Table := ⟨.valid, 1, [be16 0x400 ++ be16 4000 ++ defaultPart0.drop 4, defaultPart1], [true, true]⟩
/-- A bore of 4 km: two zones, one station of each role, four fans in two groups. -/
def siteTables : TableStore :=
  { TableStore.reset with
    global := siteParams
    zones := table [be16 0 ++ be16 2000, be16 2000 ++ be16 4000]
    stations := table [station 0x101 0 1000 0 0, station 0x102 1 2000 1 0, station 0x103 2 2100 1 0,
      station 0x104 3 2500 0 1200, station 0x105 4 0 0 0, station 0x10 5 0 0 0, station 0x20 6 0 0 0]
    fans := table [fan 0x200 0, fan 0x201 0, fan 0x202 1, fan 0x203 1]
    groups := table [be16 600, be16 2400]
    hash := table (List.replicate 64 [1])
    directory := table [[0, 1], [0, 2]]
    scenarios := table [scenario 3 300 400 [1, 0], scenario 1 250 300 [0, 1]]
    params := paramsOf siteParams }
/-- The part in MONITOR with those tables. -/
def site : State :=
  { monitor with tables := siteTables, port := { monitor.port with ownAddr := 0x400 } }
/-- A frame waits for nothing: ring OUT is busy with another. -/
def busy (s : State) : State := { s with port := { s.port with out := some ⟨[], false⟩ } }
/-- A listed incident. -/
def incident (n x severity : Nat) (st : IncidentState) : Incident :=
  ⟨n, x, .centre, 1, severity, .centre, none, 0, n, st, none, none⟩
/-- A live scenario on record 0. -/
def planned : Live := ⟨.record 0, some .towardB, 300, 400, 600, 70, 0, [1, 0], none, some (1, 0), false, none⟩
/-- The part with a list of incidents. -/
def listing (l : List Incident) (s : State) : State := { s with incidents := { s.incidents with list := l } }
/-- The part in AUTONOMOUS and in command, incident 1 planned at 3,000 m. -/
def fire : State :=
  { listing [incident 1 3000 2 .head] site with
    live := some planned
    auth := { site.auth with state := .autonomous, holdRemaining := 30000 }
    fans := { site.fans with inCommand := true } }
/-- A fan record is set. -/
def withFan (f : Nat) (r : FanRecord) (s : State) : State :=
  { s with fans := { s.fans with recs := s.fans.recs.set f r } }
/-- A request of the TERMINAL station. -/
def request (tab index : Nat) (fields : List Byte) : Request := ⟨0x20, .station 6 .terminal, 7, tab, index, fields⟩
/-- A state with the time base at a reading. -/
def at' (now : Nat) (s : State) : State := { s with clock := now }

/-! ## Worked examples of the manual -/

/-- R3: "123456789" gives 0x29B1. -/
theorem test_crc : crc16 [0x31, 0x32, 0x33, 0x34, 0x35, 0x36, 0x37, 0x38, 0x39] = 0x29B1 := by decide +kernel
/-- R60: train 4,220..4,420 TOWARD_B, offsets 150, 300 and absent; a train half out of portal B. -/
theorem test_fire_position :
    firePosition 8000 ⟨1, 4420, 4220, .towardB, 0, true, true, some 150, 0, false⟩ = 4270 ∧
    firePosition 8000 ⟨1, 4420, 4220, .towardB, 0, true, true, some 300, 0, false⟩ = 4220 ∧
    firePosition 8000 ⟨1, 4420, 4220, .towardB, 0, true, true, none, 0, false⟩ = 4320 ∧
    firePosition 8000 ⟨1, 2100, 2300, .towardA, 0, true, true, some 60, 0, false⟩ = 2160 ∧
    firePosition 8000 ⟨1, 8120, 7920, .towardB, 0, true, true, none, 0, false⟩ = 8000 := by decide
/-- R121: four rows of its table. -/
theorem test_open_loop :
    openLoop 180 300 400 = 2020 ∧ openLoop 175 250 300 = 1394 ∧ openLoop 0 500 250 = 250 ∧
      openLoop 1500 600 4000 = 58000 := by decide
/-- R121: R = 4,095, vt = 1,000 saturates. -/
theorem test_open_loop_saturates :
    (computeOpenLoop { fire with
      live := some { planned with vt := 1000, P := 0 }
      tables := { siteTables with params := { siteTables.params with R := 4095 } } }).plan =
      { fire.plan with demand := 65535, saturated := true } := by decide +kernel
/-- Section 7.7: ΔD for e = 60 and e = −45 with G = 24. -/
theorem test_trim_change : trimChange 24 60 = 90 ∧ trimChange 24 (-45) = -67 := by decide
/-- R43: cable head 4,000, direction −1, length 1,500: distances 620, absent and 5,000; cable head 300, distance 800. -/
theorem test_alarm_chainage :
    let cable := fun (x : Nat) => ({ site with tables := { siteTables with
      params := { siteTables.params with L := 8000 }
      stations := table [[1, 0, 1, 3] ++ be16 x ++ [0, 1, 1] ++ be16 1500] } } : State)
    alarmChainage (cable 4000) 0 (some 620) = 3380 ∧ alarmChainage (cable 4000) 0 none = 3250 ∧
      alarmChainage (cable 4000) 0 (some 5000) = 2500 ∧ alarmChainage (cable 300) 0 (some 800) = 0 := by decide +kernel
/-- R41: T = 5,000 trips at 5,000, stays tripped at 4,500 and re-arms at 4,499. -/
theorem test_opacity_threshold :
    (thresholdTest 5000 (opacityRearm 5000) 5000 .good .armed) = (.tripped, true) ∧
    (thresholdTest 5000 (opacityRearm 5000) 4999 .good .armed) = (.armed, false) ∧
    (thresholdTest 5000 (opacityRearm 5000) 4500 .good .tripped) = (.tripped, false) ∧
    (thresholdTest 5000 (opacityRearm 5000) 4499 .good .tripped) = (.armed, false) ∧
    (thresholdTest 5000 (opacityRearm 5000) 20000 .suspect .armed) = (.armed, false) := by decide
/-- Section 4.7: the class around 4,270 with trains 205 and 101, and train 330 excluded, is 3; without train 101 it is 1. -/
theorem test_occupancy :
    let t := fun (id head tail : Nat) => some (⟨id, head, tail, .towardB, 0, false, false, none, 0, false⟩ : Train)
    occupancy [t 101 6200 6000, t 205 2100 2300, t 330 4420 4220] 4270 (some 330) = 3 ∧
      occupancy [none, t 205 2100 2300, t 330 4420 4220] 4270 (some 330) = 1 := by decide
/-- Section 6: the fallback lists TOWARD_B and TOWARD_A at 4,350. -/
theorem test_fallback_groups :
    let t := { siteTables with groups := table ((List.range 13).map fun k => be16 (600 * (k + 1))) }
    fallbackGroups t .towardB 4350 = [6, 5, 4, 3, 2, 1, 0, 12, 11, 10, 9, 8, 7] ∧
      fallbackGroups t .towardA 4350 = [7, 8, 9, 10, 11, 12, 0, 1, 2, 3, 4, 5, 6] := by decide
/-- R202: the sizes of the image. -/
theorem test_image_size : (imageBody TableStore.reset).length = 4700 := by decide +kernel

/-! ## The check of operands refuses an ill-formed term of each kind -/

/-- Samples: station index, and each field beyond its width. -/
theorem test_wf_samples :
    ([.velocitySample 64 0 .good, .velocitySample 0 32768 .good, .velocitySample 0 (-32769) .good,
      .opacitySample 64 0 .good, .opacitySample 0 65536 .good, .temperatureSample 64 0 .good,
      .temperatureSample 0 32768 .good, .heatLineReport 64 .alarm none,
      .heatLineReport 0 .alarm (some 65536)] : List Instr).all (fun c => !c.wellFormed) = true := by decide
/-- Train reports: each field beyond two bytes. -/
theorem test_wf_trains :
    ([⟨65536, 0, 0, 0, .towardA, false, false, false, none⟩, ⟨0, 65536, 0, 0, .towardA, false, false, false, none⟩,
      ⟨0, 0, 65536, 0, .towardA, false, false, false, none⟩, ⟨0, 0, 0, 65536, .towardA, false, false, false, none⟩,
      ⟨0, 0, 0, 0, .towardA, false, false, false, some 65536⟩] : List TrainReport).all
      (fun r => !(Instr.trainReport r).wellFormed) = true := by decide
/-- Fan statuses: the fan index, UNKNOWN, and each field beyond its width. -/
theorem test_wf_fans :
    ([.fanStatus 48 ⟨.stopped, .fwd, .full, 0, .chip, 0, 0, .none⟩,
      .fanStatus 0 ⟨.unknown, .fwd, .full, 0, .chip, 0, 0, .none⟩,
      .fanStatus 0 ⟨.stopped, .fwd, .full, 256, .chip, 0, 0, .none⟩,
      .fanStatus 0 ⟨.stopped, .fwd, .full, 0, .chip, 256, 0, .none⟩,
      .fanStatus 0 ⟨.stopped, .fwd, .full, 0, .chip, 0, 32768, .none⟩,
      .statusAgeUnknown 48, .ackDeadline 48, .resendTime 48, .dwellTimerExpiry 48, .startTimerExpiry 48] :
      List Instr).all (fun c => !c.wellFormed) = true := by decide
/-- Declarations, clears and releases beyond their widths. -/
theorem test_wf_incidents :
    ([.incidentDeclare 256 ⟨1, none, none, none⟩, .incidentDeclare 0 ⟨256, none, none, none⟩,
      .incidentDeclare 0 ⟨1, some 65536, none, none⟩, .incidentDeclare 0 ⟨1, none, some 256, none⟩,
      .incidentDeclare 0 ⟨1, none, none, some 65536⟩, .incidentClear 256, .authorityRelease 256,
      .candidateDeadline 8, .lockTimerExpiry 0, .lockTimerExpiry 256, .trainRecordExpiry 8] :
      List Instr).all (fun c => !c.wellFormed) = true := by decide
/-- Requests: source, lookup, sequence, table, index and length. -/
theorem test_wf_requests :
    ([⟨0, .unknown, 0, 0, 0, []⟩, ⟨0x8000, .unknown, 0, 0, 0, []⟩, ⟨1, .station 64 .terminal, 0, 0, 0, []⟩,
      ⟨1, .drive 48, 0, 0, 0, []⟩, ⟨1, .unknown, 256, 0, 0, []⟩, ⟨1, .unknown, 0, 256, 0, []⟩,
      ⟨1, .unknown, 0, 0, 65536, []⟩, ⟨1, .unknown, 0, 0, 0, List.replicate 29 0⟩] : List Request).all
      (fun r => [Instr.openLoad r, .writeRecord r, .closeLoad r, .readRecord r, .readState r, .readFan r,
        .readCounters r, .storeTables r, .setTestMode r, .inject r, .softReset r].all fun c => !c.wellFormed) = true := by
  decide
/-- Test numbers and test reads. -/
theorem test_wf_test :
    ([.testFrameDeadline 65536, .testReadCounters 0 0, .testReadCounters 0x8000 0, .testReadCounters 1 256] :
      List Instr).all (fun c => !c.wellFormed) = true := by decide
/-- Well-formed commands pass. -/
theorem test_wf_passes :
    ([.powerOnReset true 63, .velocitySample 63 (-32768) .good, .fanStatus 47 ⟨.lockout, .rev, .half, 255, .centre, 255,
      -40, .other⟩, .writeRecord ⟨0x7FFF, .station 63 .terminal, 255, 255, 65535, List.replicate 28 0⟩,
      .lockTimerExpiry 255] : List Instr).all Instr.wellFormed = true := by decide
/-- No row of the table gives bits. -/
theorem test_decode_none : decodeTableWord 8 0 = none ∧ decodeTableWord 32 0xFFFFFFFF = none := by decide

/-! ## One step -/

/-- R183: an image without a signature: UNCONFIGURED, FAULT asserted (R186). -/
theorem test_start_up_load :
    (after (.startUpLoadEnd true) State.reset).auth.state = .unconfigured ∧
      (after (.startUpLoadEnd true) State.reset).outs = ⟨false, false, true⟩ := by decide +kernel
/-- R175, R121: a declaration in MONITOR: AUTONOMOUS, in command, D = 2,020 of record 0 and every fan wanted. -/
theorem test_declare :
    let t := after (.incidentDeclare 9 ⟨2, some 3000, none, none⟩) site
    t.auth.state = .autonomous ∧ t.fans.inCommand = true ∧ t.plan.demand = 2020 ∧ t.outs = ⟨true, true, false⟩ := by
  decide +kernel
/-- R3, R4: a frame with a wrong check counts as bad. -/
theorem test_frame_bad : (after (.frameReceived [0, 1, 0, 2, 0x99, 0, 0, 0, 0]) site).port.counters.bad = 1 := by
  decide +kernel
/-- R9, R15: a frame of an unlisted kind is counted good and forwarded, its transmission beginning at once. -/
theorem test_frame_forwarded :
    let bytes := frameBytes 0xFFFF 0x777 0x99 0 []
    let t := after (.frameReceived bytes) site
    t.port.counters.good = 1 ∧ t.port.out = some ⟨bytes, false⟩ := by decide +kernel
/-- R14: after the insert queue was served, the forward queue is. -/
theorem test_transmission_end :
    (after .transmissionEnd { busy site with port := { (busy site).port with
      forward := [[1]], reports := [report 1 0x49 []] } }).port.out = some ⟨[1], false⟩ := by decide +kernel
/-- R26: a temperature sample of station 2, sent to the broadcast address, is dispatched. -/
theorem test_frame_dispatched :
    (after (.frameReceived (frameBytes 0xFFFF 0x103 0x12 0 [0, 85, 0])) (busy site)).dispatched =
      [⟨⟨0xFFFF, 0x103, 0x12, 0, [0, 85, 0]⟩, .station 2 .temperature, some (.temperatureSample 2 85 .good)⟩] := by
  decide +kernel
/-- R29, R191: a request of 3 bytes is counted and dispatched without a command, and answered BAD_VALUE in its turn. -/
theorem test_request_malformed :
    let t := after (.frameReceived (frameBytes 0x400 0x20 0x50 9 [2, 1, 0])) (busy site)
    t.port.counters.roleMismatch = 1 ∧ t.dispatched.map Dispatch.command = [none] ∧ t.port.reports = [] ∧
      (match step t with | .next u => u.port.reports | _ => []) = [report 0x20 0x51 [9, 2, 0, 3, 1, 0, 0]] := by
  decide +kernel
/-- R14, R18: a forwarded frame that ends IN SILENT and its notice share an idle OUT by the mark. -/
theorem test_restored_by_mark :
    let b := frameBytes 0xFFFF 0x777 0x99 0 []
    let s := fun (m : QueueMark) => ({ site with port := { site.port with inSilent := true, mark := m } } : State)
    (after (.frameReceived b) (s .insert)).port.out = some ⟨b, false⟩ ∧
      (after (.frameReceived b) (s .forward)).port.forward = [b] := by decide +kernel
/-- R42, R73: 80 °C trips station 2 and opens a candidate at its chainage. -/
theorem test_temperature :
    let t := after (.temperatureSample 2 80 .good) site
    (t.incidents.candidates.map fun o => o.map Candidate.chainage).head? = some (some 2100) ∧
      (t.samples[2]?.map StationRecord.threshold) = some .tripped := by decide +kernel
/-- R41: 4,999 does not trip station 1. -/
theorem test_opacity :
    ((after (.opacitySample 1 4999 .good) site).samples[1]?.map StationRecord.threshold) = some .armed := by
  decide +kernel
/-- R39: 2,001 cm/s is clamped to 2,000 with over-range set. -/
theorem test_velocity :
    ((after (.velocitySample 0 2001 .good) site).samples[0]?.bind StationRecord.sample) =
      some ⟨some 2000, .good, true, 0, none, none⟩ := by decide +kernel
/-- R43, R44: an alarm 620 m along the cable from 2,500 raises an event at 3,120. -/
theorem test_heat_line :
    ((after (.heatLineReport 3 .alarm (some 620)) site).samples[3]?.bind StationRecord.lastEvent) = some 3120 := by
  decide +kernel
/-- R57: both ends beyond L = 4,000: a departure; one end within: none. -/
theorem test_train :
    let p : TrainReport := ⟨5, 4100, 3900, 100, .towardB, false, false, false, none⟩
    let t := after (.trainReport p) site
    (t.trains.head?.map fun o => o.map Train.id) = some (some 5) ∧
      (after (.trainReport { p with tail := 4001 }) t).trains.head? = some none := by decide +kernel
/-- R91, R178: the last incident is cleared: MONITOR, not in command, a hold of 0. -/
theorem test_clear :
    let t := after (.incidentClear 1) (busy fire)
    t.auth.state = .monitor ∧ t.fans.inCommand = false ∧ t.incidents.list = [] ∧
      t.port.commands = [report 0xFFFF 0x48 [0, 0]] := by decide +kernel
/-- R176, R179: a release leaves the fans HANDS_OFF and deasserts AUTH. -/
theorem test_release :
    let t := after (.authorityRelease 0) fire
    t.auth.state = .released ∧ t.outs = ⟨true, false, false⟩ := by decide +kernel
/-- R149, R154: the fan at the head of the start queue is started with number 1. -/
theorem test_start_spacing :
    let r : FanRecord := { FanRecord.reset with state := .queued, wanted := .run .fwd .full }
    let s := { withFan 2 r (busy fire) with fans := { (withFan 2 r fire).fans with queue := [2], spacing := some 0 } }
    let t := after .startSpacingExpiry s
    t.port.commands = [report 0x202 0x30 [1, 0, 0, 1, 0]] ∧ t.fans.spacing = some 3000 := by decide +kernel
/-- R163: F_half = 1: one failed attempt at HALF makes the fan FAILED and asserts FAULT. -/
theorem test_start_timer :
    let r : FanRecord := { FanRecord.reset with state := .starting, step := .half, start := some 0 }
    let t := after (.startTimerExpiry 0) (withFan 0 r fire)
    (t.fans.recs[0]?.map FanRecord.state) = some .failed ∧ t.outs.fault = true := by decide +kernel
/-- R134: e = 300 − 240 = 60 with D = 2,020 gives 2,110. -/
theorem test_trim :
    let r : StationRecord := { StationRecord.absent with sample := some ⟨some 240, .good, false, 0, none, none⟩ }
    (after .trimTimerExpiry { fire with
      samples := fire.samples.set 0 r
      plan := { fire.plan with demand := 2020, trim := some 0 } }).plan.demand = 2110 := by decide +kernel
/-- R193: OPEN LOAD of the fan table in MONITOR: UNCONFIGURED. -/
theorem test_open_load :
    let t := after (.openLoad (request 4 0 [])) site
    t.auth.state = .unconfigured ∧ t.tables.fans.validity = .loading := by decide +kernel
/-- R196: a zone table of one zone from 0 to L closes VALID; one that ends at 3,999 closes INVALID with index 0. -/
theorem test_close_load :
    let z := fun (stop : Nat) => ({ site with tables := { siteTables with
      stations := table []
      zones := ⟨.loading, 0, [be16 0 ++ be16 stop], [true]⟩ } } : State)
    (after (.closeLoad (request 2 0 [0, 1])) (z 4000)).tables.zones.validity = .valid ∧
      closeCheck (z 3999).tables .zones 1 = some 0 := by decide +kernel
/-- R196: a count of 33 zones is outside its range. -/
theorem test_close_count : closeCheck siteTables .zones 33 = some 0xFFFF := by decide +kernel
/-- R194: a dead band of 101 is out of range. -/
theorem test_write_range :
    recordInRange .global 0 (be16 0x400 ++ be16 4000 ++ defaultPart0.drop 4) = true ∧
      recordInRange .global 0 ((be16 0x400 ++ be16 4000 ++ defaultPart0.drop 4).set 7 101) = false := by decide +kernel
/-- R206: part code, revision and authority state of page 0. -/
theorem test_read_state : (pageZero site).take 4 = [0x64, 0x12, 1, 2] := by decide +kernel
/-- R204: STORE TABLES writes 0x00 at address 0. -/
theorem test_store :
    let t := after (.storeTables (request 0 0 [])) site
    memRead t.eeprom.cells 0 = 0 ∧ t.tables.store = .running .clearSignature 20 := by decide +kernel
/-- R212: a device that does not answer reads 0xFF, busy, and its write stays in progress. -/
theorem test_store_silent :
    let w : StoreEngine := .running (.page 3) 20
    let s : State := { site with eeprom := ⟨[], false⟩, tables := { siteTables with store := w } }
    let t := after .storeWriteReady s
    t.tables.store = w ∧ t.tables.port.transfers.getLast? = some ⟨[0x05], [0xFF]⟩ ∧ t.eeprom.cells = [] := by
  decide +kernel
/-- R203: every record below a stored count of 2 is taken as written, also of a table stored INVALID. -/
theorem test_loaded_written :
    (loadedTable (List.replicate 46 0 ++ [0, 2] ++ List.replicate 4652 0) .zones).written.take 3 = [true, true, false] ∧
      (loadedTable (List.replicate 46 0 ++ [0, 2] ++ List.replicate 4652 0) .zones).count = 2 := by decide +kernel
/-- R201: SOFT RESET in MONITOR resets the part once its response has left. -/
theorem test_soft_reset :
    let t := after (.softReset (request 0 0 [])) site
    t.auth.state = .monitor ∧ (after .transmissionEnd t).auth.state = .starting := by decide +kernel
/-- R209: the first test frame of strap 5: addresses 0x7F05, number 0, bytes 2 to 31. -/
theorem test_loop_offer :
    ((after (.powerOnReset true 5) State.reset).port.out.map fun x => x.bytes.take 12) =
      some [0x7F, 0x05, 0x7F, 0x05, 0x5A, 0, 32, 0, 0, 2, 3, 4] := by decide +kernel

/-! ## States that meet the hypotheses of the statements -/

/-- A decidable form of "for every position of a list". -/
theorem of_zipIdx {α : Type} {P : Nat → α → Prop} (l : List α) (h : ∀ p ∈ l.zipIdx, P p.2 p.1) (j : Nat) (z : α)
    (hj : l[j]? = some z) : P j z := h (z, j) (List.mk_mem_zipIdx_iff_getElem?.2 hj)
/-- A decidable form of "the nearest listed incident". -/
theorem isNearest_incident (s : State) (x k y : Nat) (h : incidentPlace s k = some y)
    (hd : Sys2Proof.dist x y ≤ s.params.mergeDistance)
    (hm : ∀ p ∈ s.incidents.list.zipIdx, Sys2Proof.dist x y < Sys2Proof.dist x p.1.chainage ∨
      (Sys2Proof.dist x y = Sys2Proof.dist x p.1.chainage ∧ k ≤ p.2)) : isNearest s x (incidentPlace s) k := by
  refine ⟨y, h, hd, fun j z hz => ?_⟩
  obtain ⟨i, hi, rfl⟩ := Option.map_eq_some_iff.1 hz
  exact of_zipIdx (P := fun j i => Sys2Proof.dist x y < Sys2Proof.dist x i.chainage ∨
    (Sys2Proof.dist x y = Sys2Proof.dist x i.chainage ∧ k ≤ j)) _ hm j i hi
/-- A decidable form of "the nearest candidate". -/
theorem isNearest_candidate (s : State) (x k y : Nat) (h : candidatePlace s k = some y)
    (hd : Sys2Proof.dist x y ≤ s.params.mergeDistance)
    (hm : ∀ p ∈ s.incidents.candidates.zipIdx, ∀ c ∈ p.1, Sys2Proof.dist x y < Sys2Proof.dist x c.chainage ∨
      (Sys2Proof.dist x y = Sys2Proof.dist x c.chainage ∧ k ≤ p.2)) : isNearest s x (candidatePlace s) k := by
  refine ⟨y, h, hd, fun j z hz => ?_⟩
  obtain ⟨c, hc, rfl⟩ := Option.map_eq_some_iff.1 hz
  exact of_zipIdx (P := fun j o => ∀ c ∈ o, Sys2Proof.dist x y < Sys2Proof.dist x c.chainage ∨
    (Sys2Proof.dist x y = Sys2Proof.dist x c.chainage ∧ k ≤ j)) _ hm j (some c) (Option.join_eq_some_iff.1 hc) c rfl
/-- A decidable form of "no listed incident is near". -/
theorem noneNear_incident (s : State) (x : Nat)
    (h : ∀ i ∈ s.incidents.list, s.params.mergeDistance < Sys2Proof.dist x i.chainage) :
    noneNear s x (incidentPlace s) := by
  intro k y hk
  obtain ⟨i, hi, rfl⟩ := Option.map_eq_some_iff.1 hk
  exact h i (List.mem_of_getElem? hi)
/-- A decidable form of "no candidate is near". -/
theorem noneNear_candidate (s : State) (x : Nat)
    (h : ∀ o ∈ s.incidents.candidates, ∀ c ∈ o, s.params.mergeDistance < Sys2Proof.dist x c.chainage) :
    noneNear s x (candidatePlace s) := by
  intro k y hk
  obtain ⟨c, hc, rfl⟩ := Option.map_eq_some_iff.1 hk
  exact h (some c) (List.mem_of_getElem? (Option.join_eq_some_iff.1 hc)) c rfl


theorem test_hyp_step : ({ State.reset with pending := [.resetN] } : State).pending = .resetN :: [] := by decide
theorem test_hyp_idle :
    State.reset.pending = [] ∧ State.reset.dispatched = [] ∧
      ((timedEvents State.reset).filterMap fun e => if e.1 = true then some e.2 else none) = [] ∧
      State.reset.chip.inReset = false := by decide +kernel
theorem test_hyp_idle_silent :
    let s : State := { withFan 3 { FanRecord.reset with start := some 1 } fire with
      port := { fire.port with inSilent := true, silence := 500 } }
    s.pending = [] ∧ s.dispatched = [] ∧
      ((timedEvents s).filterMap fun e => if e.1 = true then some e.2 else none) = [] ∧
      s.chip.inReset = false := by decide +kernel
/-- The silence limit, a dwell and the hold threshold have been reached together; a reset lasts; a frame is dispatched. -/
theorem test_hyp_idle_due :
    let s : State := { withFan 3 { FanRecord.reset with dwell := some 0 } fire with
      port := { fire.port with silence := 500 }
      auth := { fire.auth with holdRemaining := 10000 } }
    let r : State := { site with chip := { site.chip with inReset := true } }
    let d : Dispatch := ⟨frameOf (frameBytes 0x400 0x10 0x43 0 []), .station 5 .controlCentre, some .authorityResume⟩
    s.pending = [] ∧ s.dispatched = [] ∧
      ((timedEvents s).filterMap fun e => if e.1 = true then some e.2 else none) =
        [.inSilentRaised, .dwellTimerExpiry 3, .holdRefresh] ∧
      r.pending = [] ∧ r.dispatched = [] ∧ r.chip.inReset = true ∧
      ((timedEvents r).filterMap fun e => if e.1 = true then some e.2 else none) = [] ∧
      ({ site with dispatched := [d] } : State).dispatched = d :: [] ∧ d.command = some .authorityResume := by
  decide +kernel
theorem test_hyp_kept :
    Memory.wf fire.eeprom.cells = true ∧ portInRange fire.port = true ∧ listInOrder fire.incidents.list = true ∧
      commandUnderAuthority fire = true ∧ demandInRange fire = true ∧ startingCount fire ≤ fire.params.sMax ∧
      outputsFollow (ended fire) = true := by decide +kernel
/-- Two incidents of one severity listed at one reading, which is the last but one of the time base; and out of turn. -/
theorem test_hyp_kept_turn :
    let l := fun (a b : Nat) => [{ incident 1 100 2 .head with listedAt := 2 ^ 48 - 2, serial := a },
      { incident 2 1000 2 .suspended with listedAt := 2 ^ 48 - 2, serial := b }]
    let s := fun (a b : Nat) => ({ site with
      clock := 2 ^ 48 - 2
      incidents := { site.incidents with list := l a b, listings := 2 } } : State)
    listInOrder (s 0 1).incidents.list = true ∧ listedInTurn (s 0 1) = true ∧ (s 0 1).clock + 1 < 2 ^ 48 ∧
      listedInTurn (s 1 0) = false ∧ listedInTurn (s 0 2) = false := by decide +kernel
theorem test_hyp_kept_step : ∃ t, step State.reset = .next t ∧ t.params.sMax = State.reset.params.sMax := ⟨_, rfl, rfl⟩
theorem test_hyp_locked :
    listInOrder fire.incidents.list = true ∧ fire.incidents.list = incident 1 3000 2 .head :: [] ∧
      ({ fire with live := some { planned with locked := true } } : State).live = some { planned with locked := true } ∧
      planned.dir = some .towardB ∧ planned.scenario ≠ .none ∧
      (after .holdRefresh { fire with live := some { planned with locked := true } }).incidents.list =
        incident 1 3000 2 .head :: [] := by decide +kernel
theorem test_hyp_reset_release :
    (after .resetN State.reset).chip.inReset = true := by decide +kernel
theorem test_hyp_bad_frame : onRing site = true ∧ site.chip.softResetDue = false ∧ ([] : List Byte).length < 9 := by
  decide
theorem test_hyp_valid_frame :
    onRing site = true ∧ quiet site = true ∧ isBad (frameBytes 0xFFFF 0x777 0x99 0 []) = false ∧
      isBad (frameBytes 0xFFFF 0x7FFF 0x99 0 (List.replicate 32 0)) = false ∧
      isBad (frameBytes 0xFFFF 0x8000 0x99 0 []) = true ∧ isBad (frameBytes 0xFFFF 0 0x99 0 []) = true ∧
      isBad (frameBytes 0xFFFF 0x777 0x99 0 (List.replicate 33 0)) = true := by decide +kernel
theorem test_hyp_strip :
    let b := frameBytes 0xFFFF 0x400 0x49 0 []
    let c := frameBytes 0xFFFF 0x7F00 0x49 0 []
    let s : State := { site with port := { site.port with earlier := some (0x7F00, 0) } }
    onRing s = true ∧ quiet s = true ∧ isBad b = false ∧ at16 b 2 = s.port.ownAddr ∧ isBad c = false ∧
      s.port.earlier = some (at16 c 2, 0) ∧ s.port.inSilent = false := by decide +kernel
theorem test_hyp_strip_silent :
    let s : State := { site with port := { site.port with inSilent := true } }
    onRing s = true ∧ quiet s = true ∧ s.port.inSilent = true := by decide +kernel
theorem test_hyp_unexamined :
    let b := frameBytes 0xFFFF 0x777 0x99 0 []
    let s := State.reset
    let full : State := { busy s with port := { (busy s).port with forward := List.replicate 8 [] } }
    onRing s = true ∧ quiet s = true ∧ isBad b = false ∧ s.port.inSilent = false ∧ at16 b 2 ≠ s.port.ownAddr ∧
      s.port.earlier = none ∧ at16 b 0 ≠ s.port.ownAddr ∧ s.auth.state = .starting ∧ s.port.out = none ∧
      s.port.forward = [] ∧ (busy s).port.forward.length < 8 ∧ 8 ≤ full.port.forward.length ∧
      monitor.tables.geometryValid = false ∧ at16 (frameBytes 0x7F00 0x777 0x99 0 []) 0 = s.port.ownAddr := by
  decide +kernel
/-- A frame that ends IN SILENT is forwarded by an idle OUT, the mark on either queue. -/
theorem test_hyp_unexamined_silent :
    let b := frameBytes 0xFFFF 0x777 0x99 0 []
    let s := fun (m : QueueMark) => ({ monitor with port := { monitor.port with inSilent := true, mark := m } } : State)
    (∀ m ∈ [QueueMark.insert, .forward], onRing (s m) = true ∧ quiet (s m) = true ∧ (s m).port.inSilent = true ∧
      (s m).port.mark = m ∧ (s m).port.out = none ∧ (s m).port.forward = [] ∧ (s m).port.commands = [] ∧
      (s m).port.reports = [] ∧ (s m).port.earlier = none ∧ (s m).tables.geometryValid = false) ∧
    isBad b = false ∧ at16 b 2 ≠ monitor.port.ownAddr ∧ at16 b 0 ≠ monitor.port.ownAddr := by decide +kernel
/-- A frame to the earlier own address, from another source: before the tables are VALID, and in service, as a request and
as a fan command outside AUTONOMOUS. -/
theorem test_hyp_earlier_address :
    let b := fun (kind : Nat) => frameBytes 0x7F01 0x777 kind 0 [7, 0, 0, 0]
    let was := fun (s : State) => ({ busy s with port := { (busy s).port with earlier := some (0x7F01, 500) } } : State)
    (∀ s ∈ [was monitor, was site], serving s = true ∧ onRing s = true ∧ s.port.inSilent = false ∧
      (∀ e ∈ s.port.earlier, e.1 ≠ at16 (b 0x50) 2) ∧ at16 (b 0x50) 2 ≠ s.port.ownAddr ∧
      at16 (b 0x50) 0 ≠ s.port.ownAddr ∧ s.port.out = some ⟨[], false⟩ ∧ s.port.forward.length < 8) ∧
    isBad (b 0x50) = false ∧ isBad (b 0x30) = false ∧ at16 (b 0x50) 0 = 0x7F01 ∧ (was monitor).tables.geometryValid = false ∧
    (was site).tables.geometryValid = true ∧ at8 (b 0x50) 4 ∉ [0x10, 0x11, 0x12, 0x13, 0x20, 0x31] ∧
    at8 (b 0x30) 4 ∉ [0x10, 0x11, 0x12, 0x13, 0x20, 0x31] ∧ site.auth.state ≠ .autonomous ∧ at8 (b 0x50) 4 ≠ 0x30 ∧
    8 ≤ (List.replicate 8 ([] : List Byte)).length := by decide +kernel
theorem test_hyp_insert :
    let q := report 1 0x49 []
    let full : State := { busy site with port := { (busy site).port with reports := List.replicate 15 q ++ [q] } }
    let commands : State := { busy site with port := { (busy site).port with commands := List.replicate 16 q } }
    q.softReset = false ∧ q.kind ≠ 0x5A ∧ site.port.commands.length + site.port.reports.length < 16 ∧
      16 ≤ full.port.commands.length + full.port.reports.length ∧ full.port.reports = List.replicate 15 q ++ [q] ∧
      16 ≤ commands.port.commands.length + commands.port.reports.length ∧ commands.port.reports = [] ∧
      site.port.out = none ∧ site.port.forward = [] := by decide +kernel
theorem test_hyp_transmission_end :
    let q := report 1 0x49 []
    let s : State := { busy site with port := { (busy site).port with commands := [q], forward := [[]] } }
    quiet (busy site) = true ∧ (busy site).port.out = some ⟨[], false⟩ ∧ (busy site).port.reports = [] ∧
      quiet s = true ∧ s.port.forward = [] :: [] ∧ s.port.mark = .insert ∧ s.port.commands = q :: [] := by
  decide +kernel
theorem test_hyp_silence :
    let s : State := { site with port := { site.port with silence := 500 } }
    let t : State := { s with chip := { s.chip with testMode := true } }
    s.chip.inReset = false ∧ quiet s = true ∧ s.port.inSilent = false ∧ 500 ≤ s.port.silence ∧ quiet t = true ∧
      s.chip.testMode = false ∧ t.chip.testMode = true := by decide +kernel
theorem test_hyp_manual :
    let b := frameBytes 0x203 0x10 0x30 0 [0, 0, 0, 9, 1]
    let s := busy fire
    serving s = true ∧ isBad b = false ∧ s.auth.state = .autonomous ∧ s.auth.dryRun = false ∧
      s.tables.geometryValid = true ∧ s.port.inSilent = false ∧ s.port.out = some ⟨[], false⟩ ∧
      s.port.earlier = none ∧ at16 b 2 ≠ s.port.ownAddr ∧ at16 b 0 ≠ s.port.ownAddr ∧ at8 b 4 = 0x30 ∧
      lookupSource s.tables (at16 b 2) = .station 5 .controlCentre ∧ 3 < s.tables.fans.count ∧
      fanAddr s.tables 3 = at16 b 0 ∧ s.auth.lastHold = none ∧ s.port.commands.length + s.port.reports.length < 16 := by
  decide +kernel
theorem test_hyp_manual_spacing :
    let s := fun (now : Nat) => ({ at' now fire with auth := { fire.auth with lastHold := some 0 } } : State)
    (s 1000).auth.lastHold = some 0 ∧ 0 + 1000 ≤ (s 1000).clock ∧ (s 999).clock < 0 + 1000 ∧ serving (s 999) = true := by
  decide +kernel
theorem test_hyp_observation :
    let b := fun (dest source kind : Nat) => frameBytes dest source kind 0 [0, 85, 0]
    let t := siteTables
    serving (busy site) = true ∧ isBad (b 0xFFFF 0x103 0x12) = false ∧ t.geometryValid = true ∧
      (busy site).port.earlier = none ∧ (busy site).port.out ≠ none ∧ site.params.passAll = false ∧
      at16 (b 0x400 0x103 0x12) 0 = site.port.ownAddr ∧ at16 (b 0x400 0x103 0x12) 2 ≠ site.port.ownAddr ∧
      at8 (b 0x400 0x103 0x12) 4 ∈ [0x10, 0x11, 0x12, 0x13, 0x20, 0x31] ∧
      (2 < t.stations.count ∧ at8 (t.stations.fields 2) 0 = 1 ∧ stationAddr t 2 = 0x103) ∧
      (∀ j < 2, stationAddr t j ≠ 0x103) ∧ stationRole t 2 = some .temperature ∧
      (∀ i < t.stations.count, stationAddr t i ≠ 0x203 ∧ stationAddr t i ≠ 0x777) ∧
      (3 < t.fans.count ∧ fanAddr t 3 = 0x203) ∧ (∀ g < 3, fanAddr t g ≠ 0x203) ∧
      (∀ f < t.fans.count, fanAddr t f ≠ 0x777) ∧
      at8 (t.hash.fields (crc16 [byte (0x8001 / 256), byte 0x8001] % 64)) 0 = 1 ∧ ¬ (0x8000 ≤ 0x123) ∧
      observationCommand 0x12 2 [0, 85, 0] = some (.temperatureSample 2 85 .good) ∧
      observationCommand 0x12 2 [0, 85] = none ∧ observationCommand 0x12 2 [0, 85, 2] = none := by decide +kernel
/-- A stored image's entry with role byte 7, a destination whose bin is clear, and a full forward queue. -/
theorem test_hyp_observation_bounds :
    let t := { siteTables with stations := table [station 0x101 7 1000 0 0], hash := table (List.replicate 64 [0]) }
    (0 < t.stations.count ∧ at8 (t.stations.fields 0) 0 = 1 ∧ stationAddr t 0 = 0x101) ∧ stationRole t 0 = none ∧
      at8 (t.hash.fields (crc16 [byte (0x8001 / 256), byte 0x8001] % 64)) 0 = 0 ∧
      8 ≤ (List.replicate 8 ([] : List Byte)).length := by decide +kernel
theorem test_hyp_consumed :
    let b := frameBytes 0x400 0x20 0x50 0 [7, 0, 0, 0]
    let d := frameBytes 0x400 0x10 0x43 0 []
    let t := siteTables
    serving site = true ∧ isBad b = false ∧ t.geometryValid = true ∧ site.port.inSilent = false ∧
      site.port.earlier = none ∧ at16 b 2 ≠ site.port.ownAddr ∧ at16 b 0 = site.port.ownAddr ∧
      (frameOf b).kind = 0x50 ∧ 4 ≤ (frameOf b).payload.length ∧
      (requestCommand 7 (request 0 0 [])).isSome = true ∧ (frameOf d).kind ∈ [0x40, 0x41, 0x42, 0x43] ∧
      lookupSource t (frameOf d).source = .station 5 .controlCentre ∧ centreCommand (frameOf d) = some .authorityResume ∧
      (∀ i, lookupSource t 0x20 ≠ .station i .controlCentre) ∧
      centreCommand (frameOf (frameBytes 0x400 0x10 0x41 0 [])) = none := by
  refine ⟨by decide +kernel, by decide +kernel, by decide, by decide, by decide, by decide +kernel, by decide +kernel,
    by decide +kernel, by decide +kernel, by decide, by decide +kernel, by decide +kernel, by decide +kernel, ?_,
    by decide +kernel⟩
  have h : lookupSource siteTables 0x20 = .station 6 .terminal := by decide +kernel
  intro i
  rw [h]
  simp
/-- Before the tables are VALID; and a fan command and a notice addressed to the part. -/
theorem test_hyp_consumed_others :
    let b := frameBytes 0x7F00 0x20 0x50 0 [7, 0, 0, 0]
    let d := frameBytes 0x7F00 0x10 0x41 0 [1]
    serving monitor = true ∧ isBad b = false ∧ isBad d = false ∧ monitor.tables.geometryValid = false ∧
      at16 b 0 = monitor.port.ownAddr ∧ at16 b 2 ≠ monitor.port.ownAddr ∧ (frameOf b).kind = 0x50 ∧
      (frameOf d).kind ≠ 0x50 ∧
      0x30 ∉ [0x50, 0x40, 0x41, 0x42, 0x43, 0x10, 0x11, 0x12, 0x13, 0x20, 0x31] ∧
      0x49 ∉ [0x50, 0x40, 0x41, 0x42, 0x43, 0x10, 0x11, 0x12, 0x13, 0x20, 0x31] := by decide +kernel
/-- A request of 3 bytes is malformed, one of 4 is not; code 12 has no command. A dispatch without a command waits. -/
theorem test_hyp_consumed_malformed :
    let b := frameBytes 0x400 0x20 0x50 0 [2, 1, 0]
    let d : Dispatch := ⟨frameOf b, .unknown, none⟩
    let s : State := { site with dispatched := [d] }
    isBad b = false ∧ (frameOf b).payload.length < 4 ∧ requestCommand 12 (request 0 0 []) = none ∧
      requestCommand 0 (request 0 0 []) = none ∧ serving s = true ∧ s.pending = [] ∧
      s.dispatched = ⟨frameOf b, .unknown, none⟩ :: [] ∧ monitor.tables.geometryValid = false := by decide +kernel
theorem test_hyp_samples :
    serving site = true ∧ stationHasRole siteTables 0 .anemometer = true ∧ stationHasRole siteTables 1 .opacity = true ∧
      stationHasRole siteTables 2 .temperature = true ∧ stationHasRole siteTables 3 .heatLine = true ∧
      site.samples[0]? = some .absent ∧ site.samples[3]? = some .absent ∧ StationRecord.absent.injected = false := by
  decide +kernel
theorem test_hyp_samples_injected :
    let r : StationRecord := { StationRecord.absent with injected := true }
    ({ site with samples := site.samples.set 1 r } : State).samples[1]? = some r ∧ r.injected = true := by decide +kernel
/-- The heat line's clauses meet at 25 m from the last event chainage and at the fault lock. -/
theorem test_hyp_heat_line :
    let r : StationRecord := { StationRecord.absent with lastEvent := some 2525 }
    (∃ p, r.lastEvent = some p ∧ ((2549 : Int) - p).natAbs < 25) ∧ r.faultLock = false ∧
      (∀ p, r.lastEvent = some p → 25 ≤ ((2550 : Int) - p).natAbs) ∧
      (∀ p, r.lastEvent = some p → 25 ≤ ((2500 : Int) - p).natAbs) := by
  refine ⟨⟨2525, rfl, by decide⟩, rfl, fun p h => ?_, fun p h => ?_⟩ <;> cases h <;> decide
/-- A train record for the tests. -/
def train (id head tail takenAt : Nat) : Train := ⟨id, head, tail, .towardB, 0, false, false, none, takenAt, false⟩
theorem test_hyp_train :
    let ts : List (Option Train) := [some (train 5 100 0 7), none]
    let s : State := { site with trains := ts }
    serving s = true ∧ s.trains[0]? = some (some (train 5 100 0 7)) ∧ s.trains[1]? = some none ∧
      (∀ r : Train, some r ∈ s.trains → r.id ≠ 6) ∧ (∀ r : Train, some r ∈ s.trains → r.injected = false) ∧
      (∀ j < 1, s.trains[j]? ≠ some none) ∧ ¬ (s.params.L < 4000 ∧ s.params.L < 4001) ∧
      (s.params.L < 4001 ∧ s.params.L < 4001) := by
  refine ⟨by decide +kernel, rfl, rfl, ?_, ?_, by decide, by decide, by decide⟩ <;>
    (intro r h; simp at h; subst h; decide)
theorem test_hyp_train_full :
    let ts : List (Option Train) := [some (train 5 100 0 7), some (train 6 100 0 3), some (train 7 100 0 3)]
    none ∉ ts ∧ (∀ r : Train, some r ∈ ts → r.id ≠ 8) ∧ ts[1]? = some (some (train 6 100 0 3)) ∧
      (∀ (j : Nat) (r' : Train), ts[j]? = some (some r') → 3 < r'.takenAt ∨ (3 = r'.takenAt ∧ 1 ≤ j)) := by
  refine ⟨by decide, ?_, rfl, ?_⟩
  · intro r h
    simp at h
    rcases h with rfl | rfl | rfl <;> decide
  · intro j r' h
    match j with
    | 0 => cases h; decide
    | 1 => cases h; decide
    | 2 => cases h; decide
    | j + 3 => simp at h
theorem test_hyp_train_injected :
    let r : Train := { train 5 100 0 7 with injected := true }
    ([some r] : List (Option Train))[0]? = some (some r) ∧ r.injected = true := by decide
/-- The fire flag rises for a train that stays in the bore. -/
theorem test_hyp_train_raised :
    let r := train 5 100 0 7
    let p : TrainReport := ⟨5, 120, 20, 0, .towardB, false, true, false, none⟩
    let s : State := { site with trains := [some r] }
    serving s = true ∧ s.trains[0]? = some (some r) ∧ r.id = p.id ∧ r.injected = false ∧ p.fire = true ∧
      r.fire = false ∧ p.leftBore = false ∧ ¬ (s.params.L < p.head ∧ s.params.L < p.tail) := by decide +kernel
/-- The expiries fall due at 300,001 ms and at the deadline. -/
theorem test_hyp_expiry :
    let s : State := { at' 300001 site with trains := [some (train 5 100 0 0)] }
    quiet s = true ∧ s.trains[0]? = some (some (train 5 100 0 0)) ∧ (train 5 100 0 0).takenAt + 300001 ≤ s.clock := by
  decide +kernel
/-- A candidate for the tests. -/
def candidate (x deadline : Nat) : Candidate := ⟨x, .opacity, .single .opacity, none, false, 0, deadline, none⟩
theorem test_hyp_deadline :
    let s : State := { at' 60000 site with incidents := { site.incidents with candidates := [some (candidate 9 60000)] } }
    quiet s = true ∧ s.incidents.candidates[0]? = some (some (candidate 9 60000)) ∧
      (candidate 9 60000).deadline ≤ s.clock := by decide +kernel
/-- The merge distance is 200: 200 m joins, 201 m opens; of two candidates as near, the lower slot is joined. -/
theorem test_hyp_event :
    let s : State := { site with incidents := { site.incidents with
      candidates := [some (candidate 1000 9), none, some (candidate 1400 9)] } }
    s.params.autoConfirm = false ∧ noneNear s 1200 (incidentPlace s) ∧ s.incidents.candidates[1]? = some none ∧
      noneNear s 799 (candidatePlace s) ∧ isNearest s 1200 (candidatePlace s) 0 ∧
      s.incidents.candidates[0]? = some (some (candidate 1000 9)) ∧ s.incidents.candidates[0]? ≠ some none := by
  intro s
  exact ⟨by decide, noneNear_incident _ _ (by decide), rfl, noneNear_candidate _ _ (by decide),
    isNearest_candidate s 1200 0 1000 rfl (by decide) (by decide), rfl, by decide⟩
/-- Eight candidates, two of them the oldest: the lower slot goes. -/
theorem test_hyp_event_full :
    let c := fun (x t : Nat) => some { candidate x 90 with createdAt := t }
    let s : State := { site with incidents := { site.incidents with
      candidates := [c 0 7, c 300 3, c 600 4, c 900 3, c 1200 9, c 1500 8, c 1800 5, c 2100 6] } }
    none ∉ s.incidents.candidates ∧ s.incidents.candidates[1]? = some (c 300 3) ∧ noneNear s 3000 (candidatePlace s) ∧
      noneNear s 3000 (incidentPlace s) ∧
      ∀ (j : Nat) (z : Candidate), s.incidents.candidates[j]? = some (some z) →
        3 < z.createdAt ∨ (3 = z.createdAt ∧ 1 ≤ j) := by
  intro c s
  refine ⟨by decide, rfl, noneNear_candidate _ _ (by decide), noneNear_incident _ _ (by decide), fun j z h => ?_⟩
  exact of_zipIdx (P := fun j o => ∀ z ∈ o, 3 < z.createdAt ∨ (3 = z.createdAt ∧ 1 ≤ j)) s.incidents.candidates
    (by decide) j (some z) h z rfl
/-- An event 200 m from the one listed incident; two incidents as near, the second of lower severity; and a stopped train
fire that raises an AUTO incident behind the head, whose plan is live. -/
theorem test_hyp_event_merge :
    let s := listing [incident 1 2800 3 .head, incident 2 3200 2 .suspended] fire
    let i : Incident := { incident 2 3600 2 .suspended with origin := .auto, train := some 5 }
    let u := listing [incident 1 3000 2 .head, i] fire
    quiet fire = true ∧ listInOrder fire.incidents.list = true ∧
      fire.incidents.list[0]? = some (incident 1 3000 2 .head) ∧ isNearest fire 3200 (incidentPlace fire) 0 ∧
      quiet s = true ∧ listInOrder s.incidents.list = true ∧ s.incidents.list[0]? = some (incident 1 2800 3 .head) ∧
      isNearest s 3000 (incidentPlace s) 0 ∧
      quiet u = true ∧ listInOrder u.incidents.list = true ∧ u.incidents.list[1]? = some i ∧
      isNearest u 3600 (incidentPlace u) 1 ∧ i.severity < 3 ∧ u.live = some planned := by
  intro s i u
  exact ⟨by decide, by decide, rfl, isNearest_incident fire 3200 0 3000 rfl (by decide) (by decide), by decide, by decide,
    rfl, isNearest_incident s 3000 0 2800 rfl (by decide) (by decide), by decide, by decide, rfl,
    isNearest_incident u 3600 1 3600 rfl (by decide) (by decide), by decide, rfl⟩
/-- With auto-confirm on: an event 101 m from a candidate that its second type confirms, 201 m from the incident that lies
100 m from the candidate; and one whose candidate lies near no incident. -/
theorem test_hyp_event_promotes :
    let on : State := { fire with tables := { siteTables with params := { siteTables.params with autoConfirm := true } } }
    let s : State := { on with incidents := { fire.incidents with candidates := [some (candidate 3100 9), none] } }
    let u : State := { on with incidents := { fire.incidents with candidates := [none, some (candidate 1000 9)] } }
    s.params.autoConfirm = true ∧ noneNear s 3201 (incidentPlace s) ∧ isNearest s 3201 (candidatePlace s) 0 ∧
      2 ≤ ((candidate 3100 9).set.insert .heatLine).size ∧ (candidate 3100 9).confirmedAt = none ∧
      isNearest s 3100 (incidentPlace s) 0 ∧ listInOrder s.incidents.list = true ∧
      u.incidents.candidates[1]? = some (some (candidate 1000 9)) ∧ isNearest u 1200 (candidatePlace u) 1 ∧
      noneNear u 1200 (incidentPlace u) ∧ noneNear u 1000 (incidentPlace u) ∧ u.incidents.list.length < 4 := by
  intro on s u
  exact ⟨rfl, noneNear_incident _ _ (by decide), isNearest_candidate s 3201 0 3100 rfl (by decide) (by decide), by decide,
    rfl, isNearest_incident s 3100 0 3000 rfl (by decide) (by decide), by decide, rfl,
    isNearest_candidate u 1200 1 1000 rfl (by decide) (by decide), noneNear_incident _ _ (by decide),
    noneNear_incident _ _ (by decide), by decide⟩
/-- Four incidents of severity 2, the first HEAD. -/
def four : List Incident :=
  [incident 1 100 2 .head, incident 2 1000 2 .suspended, incident 3 2000 2 .suspended, incident 4 3900 2 .suspended]
theorem test_hyp_declare :
    let s := listing four fire
    serving s = true ∧ s.tables.zones.count ≤ 2 ∧ 1 < s.tables.zones.count ∧ listInOrder four = true ∧
      s.incidents.list = four.take 3 ++ [incident 4 3900 2 .suspended] ∧
      4 ≤ s.incidents.list.length ∧ noneNear s 3000 (incidentPlace s) ∧
      (2 : Nat) ≤ (incident 4 3900 2 .suspended).severity ∧ (incident 4 3900 2 .suspended).severity < 3 ∧
      s.incidents.list[3]? = some (incident 4 3900 2 .suspended) ∧ isNearest s 3700 (incidentPlace s) 3 ∧
      fire.incidents.list.length < 4 ∧
      (∀ c : Candidate, some c ∈ s.incidents.candidates → c.confirmedAt = none) ∧
      (∀ r : Train, some r ∉ s.trains) := by
  refine ⟨by decide +kernel, by decide, by decide, by decide, rfl, by decide, noneNear_incident _ _ (by decide), by decide,
    by decide, rfl, isNearest_incident (listing four fire) 3700 3 3900 rfl (by decide) (by decide), by decide, ?_, ?_⟩
  · intro c h
    have : ∀ o ∈ (listing four fire).incidents.candidates, o = none := by decide
    exact absurd (this _ h) (by simp)
  · intro r h
    have : ∀ o ∈ (listing four fire).trains, o = none := by decide
    exact absurd (this _ h) (by simp)
/-- The first listing in MONITOR, OUT busy and five frames waiting, in dry run and out of it; and in UNCONFIGURED, where the
geometry set is not VALID. -/
theorem test_hyp_declare_first :
    let s : State := { busy site with port := { (busy site).port with reports := List.replicate 5 (report 1 1 []) } }
    let dry : State := { s with auth := { s.auth with dryRun := true } }
    let un : State := { dry with
      auth := { dry.auth with state := .unconfigured }
      tables := { siteTables with hash := { siteTables.hash with validity := .loading } } }
    (∀ u ∈ [s, dry, un], serving u = true ∧ listInOrder u.incidents.list = true ∧ u.incidents.list = [] ∧
      u.port.out = some ⟨[], false⟩ ∧ u.port.commands.length + u.port.reports.length < 6 ∧
      u.fans.inCommand = false ∧ ∀ r ∈ u.fans.recs, r.state = .handsOff) ∧
    s.auth.state = .monitor ∧ s.auth.dryRun = false ∧ s.auth.intercepted ≤ 255 ∧ s.port.commands.length < 16 ∧
    dry.auth.dryRun = true ∧ un.auth.state = .unconfigured ∧ un.tables.geometryValid = false := by decide +kernel
/-- R174, R175: a first listing out of dry run, and in UNCONFIGURED. -/
theorem test_first_listing :
    let c := Instr.incidentDeclare 1 ⟨2, some 3000, none, none⟩
    let t := after c (busy site)
    let u := after c { busy site with auth := { site.auth with state := .unconfigured } }
    t.auth.state = .autonomous ∧ t.outs.auth = true ∧ t.auth.holdRemaining = 30000 ∧ t.fans.inCommand = true ∧
      t.port.commands[0]? = some (report 0xFFFF 0x48 [30, 1]) ∧
      report 0xFFFF 0x49 [0x15, 1, 3, 2] ∈ t.port.reports ∧
      u.auth.state = .unconfigured ∧ report 0xFFFF 0x49 [0x15, 1, 1, 1] ∈ u.port.reports := by decide +kernel
/-- Two CONFIRMED candidates of one reading: the lower slot gives the position; and a train whose fire position does. -/
theorem test_hyp_declare_placed :
    let c := fun (x t : Nat) => { candidate x 90 with confirmedAt := some t }
    let s : State := { site with
      trains := [none, some (train 5 2100 0 0)]
      incidents := { site.incidents with candidates := [some (c 300 4), some (c 900 7), some (c 1500 7)] } }
    s.trains[1]? = some (some (train 5 2100 0 0)) ∧ s.trains[0]? = some none ∧ (train 5 2100 0 0).id = 5 ∧
      (∀ r : Train, some r ∈ s.trains → r.id ≠ 6) ∧
      s.incidents.candidates[1]? = some (some (c 900 7)) ∧ (c 900 7).confirmedAt = some 7 ∧
      noneNear s 900 (incidentPlace s) ∧
      ∀ (j u : Nat) (b : Candidate), s.incidents.candidates[j]? = some (some b) → b.confirmedAt = some u →
        u < 7 ∨ (u = 7 ∧ 1 ≤ j) := by
  intro c s
  refine ⟨rfl, rfl, rfl, fun r h => ?_, rfl, rfl, noneNear_incident _ _ (by decide), fun j u b h hb => ?_⟩
  · have : ∀ o ∈ s.trains, ∀ r ∈ o, r.id ≠ 6 := by decide
    exact this _ h r rfl
  · exact of_zipIdx (P := fun j o => ∀ b ∈ o, ∀ u ∈ b.confirmedAt, u < 7 ∨ (u = 7 ∧ 1 ≤ j)) s.incidents.candidates
      (by decide) j (some b) h b rfl u hb
/-- A declaration of severity 3 comes ahead of a planned head of severity 2. -/
theorem test_hyp_declare_ahead :
    fire.incidents.list = incident 1 3000 2 .head :: [] ∧ listInOrder fire.incidents.list = true ∧
      fire.live = some planned ∧ (incident 1 3000 2 .head).severity < 3 ∧ siteTables.geometryValid = true ∧
      noneNear fire 1000 (incidentPlace fire) :=
  ⟨rfl, by decide, rfl, by decide, by decide, noneNear_incident _ _ (by decide)⟩
/-- The head is cleared, the next incident with a locked saved plan on record 1, or without a plan. -/
theorem test_hyp_clear_head :
    let p : SavedPlan := ⟨.record 1, some .towardA, none, some (0, 0), true, none, 500, false⟩
    let j := { incident 2 1000 1 .suspended with saved := some p }
    let s := listing [incident 1 3000 2 .head, j] fire
    serving s = true ∧ s.incidents.list = incident 1 3000 2 .head :: j :: [] ∧ listInOrder s.incidents.list = true ∧
      (incident 1 3000 2 .head).number = 1 ∧ j.saved = some p ∧ p.locked = true ∧ p.scenario ≠ .none ∧
      checkRecord siteTables 1 = none ∧ (incident 2 1000 1 .suspended).saved = none ∧
      siteTables.geometryValid = true := by decide +kernel
/-- The next incident has an unlocked saved plan on the record that its lookup gives, or on another; and one on none, with
and without the geometry set. -/
theorem test_hyp_clear_restored :
    let s := fun (p : SavedPlan) =>
      listing [incident 1 3000 2 .head, { incident 2 1000 1 .suspended with saved := some p }] fire
    let found := fun (u : State) =>
      (lookedUp { u with incidents := { u.incidents with list := u.incidents.list.tail } }).scenario
    let on := fun (r : ScenarioRef) => (⟨r, some .towardA, none, some (0, 0), false, some 77, 500, false⟩ : SavedPlan)
    (∀ r ∈ [ScenarioRef.record 0, .record 1, .none], serving (s (on r)) = true ∧
      listInOrder (s (on r)).incidents.list = true) ∧
    found (s (on (.record 0))) = .record 0 ∧ found (s (on (.record 1))) ≠ .record 1 ∧
    siteTables.geometryValid = true ∧ monitor.tables.geometryValid = false := by decide +kernel
/-- The list is emptied while OUT is busy: four incidents, and nine reports that wait. -/
theorem test_hyp_clear_room :
    let s : State := { busy (listing four fire) with
      port := { (busy fire).port with reports := List.replicate 9 (report 1 1 []) } }
    s.port.out = some ⟨[], false⟩ ∧ s.port.commands.length + s.port.reports.length + four.length + 3 ≤ 16 ∧
      serving s = true ∧ s.incidents.list = four ∧ s.auth.state = .autonomous := by decide +kernel
theorem test_hyp_clear :
    let s := listing four fire
    serving s = true ∧ (∀ i ∈ four, i.number ≠ 5) ∧ listInOrder s.incidents.list = true ∧
      incident 4 3900 2 .suspended ∈ s.incidents.list.tail ∧ (∀ i ∈ fire.incidents.list, i.number = 1) ∧
      site.incidents.list = [] := by decide +kernel
theorem test_hyp_phase :
    let p : State := { fire with
      incidents := { fire.incidents with phaseTimer := some 0 }
      plan := { fire.plan with selection := [2] } }
    quiet p = true ∧ p.incidents.phaseTimer = some 0 ∧ p.incidents.list = incident 1 3000 2 .head :: [] ∧
      p.fans.queue = [] ∧ (fanRec p 2).state ∉ [FanState.running, .failed, .lost, .unavailable] ∧
      fire.plan.selection = [] := by decide +kernel
/-- The phase test's three outcomes, and the expiry with OUT busy and room for two notices. -/
theorem test_hyp_phase_notices :
    let h := fun (p : Phase) => ({ incident 1 3000 2 .head with phase := some p } : Incident)
    let s := fun (p : Phase) (sel : List Nat) =>
      ({ listing [h p] fire with plan := { fire.plan with selection := sel } } : State)
    (∀ p ∈ [Phase.delay, .staging, .regulating], ∀ sel ∈ [[], [2]], (s p sel).incidents.list = h p :: [] ∧
      (h p).phase = some p ∧ (s p sel).plan.selection = sel) ∧
    (fanRec (s .staging [2]) 2).state ∉ [FanState.running, .failed, .lost, .unavailable] ∧
    (busy fire).port.out = some ⟨[], false⟩ ∧
    (busy fire).port.commands.length + (busy fire).port.reports.length + 2 ≤ 16 := by decide +kernel
/-- A saved plan whose lock time ends. -/
def savedPlan (r : ScenarioRef) : SavedPlan := ⟨r, some .towardA, none, none, false, some 0, 0, false⟩
theorem test_hyp_lock :
    let j : Incident := { incident 2 1000 1 .suspended with saved := some (savedPlan (.record 0)) }
    let s : State := { listing [incident 1 3000 2 .head, j] fire with live := some { planned with lockTimer := some 0 } }
    quiet s = true ∧ incident 1 3000 2 .head ∈ s.incidents.list ∧ numbersDiffer s.incidents.list = true ∧
      s.live = some { planned with lockTimer := some 0 } ∧ planned.scenario ≠ .none ∧ planned.dir = some .towardB ∧
      j ∈ s.incidents.list ∧ j.saved = some (savedPlan (.record 0)) ∧
      (savedPlan (.record 0)).dir = some .towardA ∧ (savedPlan .none).scenario = .none := by decide +kernel
/-- Each check of a lookup, at its boundary: 1 entry for zone 1, records 0 and 1, groups 0 and 1. -/
theorem test_hyp_lookup :
    let d := fun (rows : List (List Byte)) => { siteTables with directory := table rows }
    siteTables.scenarioValid = true ∧ TableStore.reset.scenarioValid = false ∧ (d [[0, 1]]).directory.count ≤ 1 ∧
      zoneOf siteTables (headChainage fire) = 1 ∧ 1 < siteTables.directory.count ∧ dirVariants siteTables 1 = 2 ∧
      dirVariants siteTables 0 = 1 ∧ dirVariants (d [[0, 4]]) 0 = 4 ∧ siteTables.scenarios.count ≤ dirBase (d [[2, 1]]) 0 ∧
      scenValid (scenario 2 300 400 [1]) = false ∧ scenValid (siteTables.scenarios.fields 0) = true ∧
      (∃ g ∈ scenGroups (scenario 3 300 400 [2]), siteTables.groups.count ≤ g) ∧
      (∀ g ∈ scenGroups (siteTables.scenarios.fields 0), g < siteTables.groups.count) := by decide +kernel
/-- The class around the fire is 0; a head chosen under class 0 stands, under class 1 it is looked up again. -/
theorem test_hyp_relookup :
    let on := fun (c : Nat) (r : ScenarioRef) => ({ planned with scenario := r, under := some (1, c) } : Live)
    let s := fun (l : Live) => ({ fire with live := some l } : State)
    planned.locked = false ∧ siteTables.geometryValid = true ∧ occupancy fire.trains 3000 none = 0 ∧
      (lookedUp (s (on 1 (.record 0)))).scenario = .record 0 ∧ (lookedUp (s (on 1 (.record 1)))).scenario ≠ .record 1 ∧
      (lookedUp { s (on 1 .fallback) with tables := { siteTables with directory := .reset .directory } }).scenario =
        .fallback ∧ (on 0 (.record 0)).under = some (1, 0) ∧ zoneOf siteTables 3000 = 1 ∧
      (({ planned with locked := true } : Live)).locked = true := by decide +kernel
/-- A fresh walk and one under hysteresis: 200 TU a fan upstream, D met exactly and one unit short. -/
theorem test_hyp_walk :
    let s := fun (D : Nat) (sel : List Nat) => ({ fire with plan := { fire.plan with demand := D, selection := sel } } : State)
    fire.live = some planned ∧ planned.dir = some .towardB ∧ effective (s 0 []) 2 = 200 ∧
      (freshWalk (s 200 [])).plan.selection = [2] ∧ (freshWalk (s 201 [])).plan.selection = [2, 3] ∧
      (hysteresisWalk (s 100 [2, 3])).plan.selection = [2] ∧ (hysteresisWalk (s 101 [2, 3])).plan.selection = [2, 3] ∧
      (hysteresisWalk (s 401 [2, 3])).plan.selection = [2, 3, 0] := by decide +kernel
/-- D_open is 65,535 at R = 0 and P = 65,535, and 65,536 one unit above. -/
theorem test_hyp_open_loop :
    fire.live = some planned ∧ (0 * 300 ^ 2 + 9999) / 10000 + 65535 ≤ 65535 ∧
      65535 < (0 * 300 ^ 2 + 9999) / 10000 + 65536 := by decide
theorem test_hyp_trim :
    let r : StationRecord := { StationRecord.absent with sample := some ⟨some 279, .good, false, 0, none, none⟩ }
    let s : State := { fire with samples := fire.samples.set 0 r, plan := { fire.plan with trim := some 0, demand := 9 } }
    quiet s = true ∧ s.plan.trim = some 0 ∧ s.port.inSilent = false ∧ s.live = some planned ∧
      planned.scenario ≠ .none ∧ planned.dir = some .towardB ∧ measuredVelocity s .towardB = some 279 ∧
      s.params.deadBand < ((300 : Int) - 279).natAbs ∧ ((300 : Int) - 280).natAbs ≤ s.params.deadBand ∧
      s.params.G ≠ 0 ∧ measuredVelocity fire .towardB = none ∧ site.live = none := by decide +kernel
/-- A fan record with a state and an exchange. -/
def fanIn (st : FanState) (e : Exchange) : FanRecord := { FanRecord.reset with state := st, exchange := e }
/-- The open exchange of RUN FWD FULL, number 3. -/
def waiting (retries : Nat) (w : Wait) : Exchange := .opened ⟨.run, .fwd, .full, 3⟩ retries w
theorem test_hyp_fan_status :
    let r : FanRecord := { fanIn .starting (waiting 0 (.ack 9)) with wanted := .run .fwd .full }
    let st : FanStatus := ⟨.running, .fwd, .full, 3, .chip, 0, 20, .none⟩
    let dry : State := { withFan 1 r fire with auth := { fire.auth with dryRun := true } }
    serving (withFan 1 r fire) = true ∧ 1 < siteTables.fans.count ∧ (withFan 1 r fire).fans.recs[1]? = some r ∧
      fire.auth.dryRun = false ∧ r.lost = false ∧ 1 ∉ fire.fans.queue ∧ r.exchange = waiting 0 (.ack 9) ∧
      st.number = 3 ∧ st.origin = .chip ∧ r.wanted = .run st.dir st.step ∧ 0 < fire.params.dwell ∧
      (fanIn .stopping .closed).state = .stopping ∧ site.fans.inCommand = false ∧ dry.auth.dryRun = true ∧
      r.reported.injected = false := by decide +kernel
/-- The limits of failed attempts, one below and at each; a dwell of 0; a status that acknowledges nothing; and an UNKNOWN
drive in STOPPED. -/
theorem test_hyp_fan_status_bounds :
    let p := { siteTables.params with fHalf := 2, dwell := 0 }
    let r := fanIn .starting (waiting 0 (.ack 9))
    site.params.fFull = 2 ∧ 0 + 1 < site.params.fFull ∧ site.params.fFull ≤ 1 + 1 ∧ 0 + 1 < p.fHalf ∧ p.fHalf ≤ 1 + 1 ∧
      p.dwell = 0 ∧ ¬ (r.exchange = .closed ∨
        ∃ x n w, r.exchange = .opened x n w ∧ (4 : Nat) = x.number ∧ CmdOrigin.chip = .chip) ∧
      (fanIn .stopped .closed).reported.drive = .unknown ∧ (withFan 1 r fire).fans.inCommand = true := by
  refine ⟨by decide, by decide, by decide, by decide, by decide, rfl, ?_, by decide, by decide⟩
  rintro (h | ⟨x, n, w, h, h4, _⟩)
  · cases h
  · cases h; exact absurd h4 (by decide)
/-- The reported state becomes UNKNOWN at 6,000 ms. -/
theorem test_hyp_status_age :
    let r : FanRecord := { fanIn .queued .closed with
      reported := { Reported.unknown with drive := .stopped, takenAt := some 0 } }
    let s := at' 6000 (withFan 1 r fire)
    quiet s = true ∧ s.fans.recs[1]? = some r ∧ r.reported.drive ≠ .unknown ∧ r.reported.takenAt = some 0 ∧
      0 + 6000 ≤ s.clock ∧ r.state = .queued := by decide +kernel
/-- The third retry's deadline backs off, the fourth's ends the exchange. -/
theorem test_hyp_ack :
    let r := fun (n : Nat) => fanIn .starting (waiting n (.ack 0))
    quiet (withFan 1 (r 3) fire) = true ∧ fire.port.inSilent = false ∧
      (withFan 1 (r 3) fire).fans.recs[1]? = some (r 3) ∧ (r 3).exchange = .opened ⟨.run, .fwd, .full, 3⟩ 3 (.ack 0) ∧
      1 ∉ fire.fans.queue ∧ (r 3).state ≠ .queued ∧ (3 : Nat) < 4 ∧ (4 : Nat) ≤ 4 ∧ (r 4).state ≠ .failed := by
  decide +kernel
/-- A silence re-send is due 1,000 ms after IN SILENT was raised. -/
theorem test_hyp_resend :
    let r := fanIn .starting (waiting 1 (.resend 0))
    let s := withFan 1 r fire
    let t : State := { s with port := { s.port with inSilent := true, silentFor := 1000 } }
    quiet s = true ∧ s.fans.recs[1]? = some r ∧ s.port.inSilent = false ∧ quiet t = true ∧ t.port.inSilent = true ∧
      1000 ≤ t.port.silentFor ∧ (withFan 3 r s).fans.recs[3]? = some r := by decide +kernel
/-- Two exchanges open: both commands are offered again, the lower index first. -/
theorem test_silence_resends_all :
    let r := fanIn .starting (waiting 1 (.resend 0))
    let s := withFan 3 r (withFan 1 r (busy fire))
    (after .silenceResend { s with port := { s.port with inSilent := true, silentFor := 1000 } }).port.commands =
      [report 0x201 0x30 [1, 0, 0, 3, 0], report 0x203 0x30 [1, 0, 0, 3, 0]] := by decide +kernel
theorem test_hyp_spacing :
    let r : FanRecord := { fanIn .queued .closed with wanted := .run .fwd .full }
    let s : State := { withFan 1 r fire with
      fans := { (withFan 1 r fire).fans with queue := [1], spacing := some 0 } }
    quiet s = true ∧ s.fans.spacing = some 0 ∧ s.fans.queue = 1 :: [] ∧ s.fans.recs[1]? = some r ∧
      r.wanted = .run .fwd .full ∧ s.fans.inCommand = true ∧ headPhase s ≠ some .delay ∧
      startingCount s < s.params.sMax ∧ 0 < s.params.startSpacing ∧
      s.params.sMax ≤ startingCount (withFan 2 (fanIn .starting .closed) (withFan 3 (fanIn .starting .closed) s)) := by
  decide +kernel
theorem test_hyp_dwell :
    let r : FanRecord := { fanIn .dwell .closed with dwell := some 0 }
    let q : FanRecord := { r with
      wanted := .run .fwd .full
      reported := { Reported.unknown with drive := .stopped } }
    let s := listing [{ incident 1 3000 2 .head with phase := some .delay }] (withFan 1 q fire)
    quiet (withFan 1 r fire) = true ∧ (withFan 1 r fire).fans.recs[1]? = some r ∧ r.dwell = some 0 ∧
      1 ∉ fire.fans.queue ∧ r.wanted = .stop ∧ quiet s = true ∧ s.fans.recs[1]? = some q ∧
      q.reported.drive = .stopped ∧ s.fans.inCommand = true ∧ headPhase s = some .delay := by decide +kernel
/-- Outside DELAY: no start slot, the spacing running, and neither. -/
theorem test_hyp_dwell_start :
    let q : FanRecord := { fanIn .dwell .closed with
      dwell := some 0
      wanted := .run .fwd .full
      reported := { Reported.unknown with drive := .stopped } }
    let s := withFan 1 q fire
    let full := withFan 2 (fanIn .starting .closed) (withFan 3 (fanIn .starting .closed) s)
    quiet s = true ∧ s.fans.recs[1]? = some q ∧ q.state = .dwell ∧ headPhase s ≠ some .delay ∧ s.fans.queue = [] ∧
      startingCount s < s.params.sMax ∧ s.fans.spacing = none ∧ full.params.sMax ≤ startingCount full ∧
      s.fans.inCommand = true ∧ (1 : Nat) ≠ 0 := by decide +kernel
/-- R155, R145: a STARTING fan whose RUN stands, and a RUNNING one reported otherwise than wanted. -/
theorem test_hyp_wanted :
    let r : FanRecord := { fanIn .starting .closed with wanted := .run .fwd .full, lastRun := some (.fwd, .full) }
    let q : FanRecord := { fanIn .running .closed with
      wanted := .run .rev .full
      reported := { Reported.unknown with drive := .running } }
    let d := fun (n : Nat) => ({ q with reported := { q.reported with drive := .stopped, seconds := n } } : FanRecord)
    (withFan 1 r fire).fans.recs[1]? = some r ∧ (∃ a b, r.wanted = .run a b ∧ r.lastRun = some (a, b)) ∧
      q.wanted ≠ .run q.reported.dir q.reported.step ∧ (d 19).reported.seconds < fire.params.dwell ∧
      fire.params.dwell ≤ (d 20).reported.seconds ∧ q.failed = false ∧ q.lost = false := by
  refine ⟨by decide +kernel, ⟨.fwd, .full, rfl, rfl⟩, by decide +kernel, by decide +kernel, by decide +kernel, rfl, rfl⟩
/-- F_full is 2 and F_half is 1. -/
theorem test_hyp_start_timer :
    let r : FanRecord := { fanIn .starting .closed with start := some 0 }
    quiet (withFan 1 r fire) = true ∧ fire.port.inSilent = false ∧ (withFan 1 r fire).fans.recs[1]? = some r ∧
      r.start = some 0 ∧ 1 ∉ fire.fans.queue ∧ r.step = .full ∧ r.fullFails + 1 < fire.params.fFull ∧
      fire.params.fFull ≤ 1 + 1 ∧ fire.params.fHalf ≤ 0 + 1 ∧ (0 : Nat) + 1 < 2 := by decide +kernel
/-- Numbers 254, 255 and 0 were issued last; the drive reports 1 with origin CHIP. -/
theorem test_hyp_number :
    let r := fun (n : Nat) => ({ FanRecord.reset with
      lastIssued := n, reported := { Reported.unknown with number := 1 } } : FanRecord)
    (withFan 1 (r 255) fire).fans.recs[1]? = some (r 255) ∧ nextCommandNumber (r 254) = 255 ∧
      nextCommandNumber (r 255) = 2 ∧ nextCommandNumber (r 0) = 2 ∧ nextCommandNumber (r 1) = 2 := by decide +kernel
theorem test_hyp_release :
    serving fire = true ∧ fire.auth.state = .autonomous ∧ headNumber fire = 1 ∧ fire.fans.inCommand = true ∧
      fire.auth.holdRemaining ≠ 0 ∧ site.auth.state ≠ .autonomous ∧ (2 : Nat) ≠ 0 ∧ 2 ≠ headNumber fire := by
  decide +kernel
theorem test_hyp_resume :
    let s : State := { busy fire with auth := { fire.auth with state := .released }, fans := site.fans }
    serving s = true ∧ s.auth.state = .released ∧ planHeld s = true ∧ s.auth.dryRun = false ∧
      s.port.out = some ⟨[], false⟩ ∧ s.port.commands.length < 16 ∧ s.auth.intercepted ≤ 255 ∧
      fire.auth.state ≠ .released := by decide +kernel
/-- The refresh threshold is 10 s. -/
theorem test_hyp_hold :
    let s : State := { fire with auth := { fire.auth with holdRemaining := 10000 } }
    quiet s = true ∧ s.auth.state = .autonomous ∧ s.auth.dryRun = false ∧
      s.auth.holdRemaining ≤ s.params.refresh * 1000 := by decide +kernel
theorem test_hyp_requests :
    serving site = true ∧ allowed site (request 0 0 []) ∧ allowed monitor ⟨1, .unknown, 0, 0, 0, []⟩ ∧
      ¬ allowed site { request 0 0 [] with lookup := .unknown } ∧ (9 : Nat) > 8 ∧ [0].length < 2 := by
  refine ⟨by decide +kernel, fun _ => ⟨6, rfl⟩, fun h => absurd h (by decide), fun h => ?_, by decide, by decide⟩
  obtain ⟨i, hi⟩ := h (by decide)
  cases hi
theorem test_hyp_load :
    let s : State := { site with tables := { siteTables with store := .running (.page 3) 20 } }
    tableOfCode 1 = some .global ∧ tableOfCode 8 = some .scenarios ∧ tableOfCode 0 = none ∧ tableOfCode 9 = none ∧
      site.incidents.list = [] ∧ site.tables.store = .idle ∧ fire.incidents.list ≠ [] ∧ s.tables.store ≠ .idle ∧
      serving s = true := by decide +kernel
/-- A fan record of index 47 is the last of the table, with 9 bytes. -/
theorem test_hyp_write :
    let t := openedTable .fans
    t.validity = .loading ∧ siteTables.fans.validity ≠ .loading ∧ TableId.fans.capacity ≤ 48 ∧
      47 < TableId.fans.capacity ∧ TableId.fans.recordSize ≤ (fan 0x200 23).length ∧
      fieldsInRange .fans 47 (fan 0x200 23) ∧ ¬ fieldsInRange .fans 47 (fan 0x200 24) ∧
      ((fan 0x200 23).drop 1).length < TableId.fans.recordSize := by
  unfold fieldsInRange lies
  decide +kernel
/-- R189, R206: bounds of a record of the layouts: the signed threshold, the bytes that a role uses, the variant count, and a
group list that ends at its first 0xFF. -/
theorem test_write_ranges :
    let part1 := fun (bs : List Byte) => defaultPart1.take 7 ++ bs ++ defaultPart1.drop 9
    recordInRange .global 1 (part1 (beS16 (-40))) = true ∧ recordInRange .global 1 (part1 (beS16 (-41))) = false ∧
      recordInRange .global 1 (part1 (beS16 1201)) = false ∧
      recordInRange .stations 0 (station 1 3 0 32 1) = true ∧ recordInRange .stations 0 (station 1 3 0 0 0) = false ∧
      recordInRange .stations 0 (station 1 2 0 32 0) = false ∧ recordInRange .stations 0 (station 1 7 0 0 0) = false ∧
      recordInRange .directory 0 [127, 4] = true ∧ recordInRange .directory 0 [0, 3] = false ∧
      recordInRange .scenarios 0 (scenario 3 50 4000 [23, 0xFF, 24]) = true ∧
      recordInRange .scenarios 0 (scenario 3 50 4000 [24]) = false ∧
      recordInRange .scenarios 0 (scenario 3 50 4000 [0xFF]) = false := by decide +kernel
/-- R196, R197: a scenario record that repeats a group, one beyond the group count, a directory entry beyond the records,
groups that are not VALID, counts out of range, and the group hash. -/
theorem test_close_names :
    let t := fun (r : List Byte) => { siteTables with scenarios := table [scenario 1 300 0 [0], r, r] }
    let loading := { siteTables with groups := { siteTables.groups with validity := .loading } }
    closeCheck (t (scenario 1 300 0 [1, 0])) .scenarios 3 = none ∧
      closeCheck (t (scenario 1 300 0 [1, 1])) .scenarios 3 = some 1 ∧
      closeCheck (t (scenario 1 300 0 [2])) .scenarios 3 = some 1 ∧
      closeCheck (t (scenario 1 300 0 [1])) .scenarios 1 = some 0xFFFF ∧
      closeCheck loading .scenarios 2 = some 0xFFFF ∧ closeCheck siteTables .scenarios 0 = some 0xFFFF ∧
      closeCheck siteTables .scenarios 129 = some 0xFFFF ∧ closeCheck siteTables .directory 2 = none ∧
      closeCheck { siteTables with scenarios := table [scenario 1 300 0 [0]] } .directory 2 = some 1 ∧
      closeCheck siteTables .hash 0 = none ∧ closeCheck siteTables .global 0 = none := by decide +kernel
/-- The hypotheses of a close that passes, and of one that fails (see test_close_load). -/
theorem test_hyp_close :
    let z := fun (stop : Nat) => { siteTables with
      stations := table []
      zones := ⟨.loading, 0, [be16 0 ++ be16 stop], [true]⟩ }
    (z 4000).zones.validity = .loading ∧ closeCheck (z 4000) .zones 1 = none ∧ closeCheck (z 4001) .zones 1 = some 0 ∧
      (2 : Nat) ≤ (request 2 0 [0, 1]).fields.length ∧ site.live = none := by decide +kernel
/-- The last zone that ends beyond L is named, with a count in its range; a station of a zone beyond the count is not. -/
theorem test_hyp_close_checks :
    let t : TableStore := { siteTables with zones := ⟨.loading, 0, [be16 0 ++ be16 4001], [true]⟩ }
    mayClose t .zones 1 ∧ recordFails t .zones 1 0 ∧ mayClose t .zones 32 ∧ ¬ mayClose t .zones 33 ∧
      otherFails t .zones 1 ∧ mayClose siteTables .scenarios 2 ∧ mayClose siteTables .directory 2 := by
  refine ⟨⟨by decide, by decide⟩, ⟨by decide, .inr (.inr (.inr (.inr ?_)))⟩, ⟨by decide, by decide⟩, ?_, ?_,
    ⟨⟨by decide, by decide⟩, by decide⟩, ⟨by decide, by decide⟩, by decide⟩
  · decide +kernel
  · exact fun h => absurd h.2 (by decide)
  · exact ⟨by decide, 1, by decide +kernel⟩
/-- The group hash closes VALID in UNCONFIGURED, with a head on scenario none that has locked, or has not. -/
theorem test_hyp_close_listed :
    let none' := fun (b : Bool) => ({ noScenario with locked := b } : Live)
    let s := fun (b : Bool) => ({ listing [incident 1 3000 2 .head] (busy site) with
      live := some (none' b)
      auth := { site.auth with state := .unconfigured }
      tables := { siteTables with hash := { siteTables.hash with validity := .loading, count := 0 } } } : State)
    let t := fun (b : Bool) => after (.closeLoad (request 6 0 [])) (s b)
    ∀ b ∈ [true, false],
      serving (s b) = true ∧ (s b).incidents.list ≠ [] ∧ closeCheck (s b).tables .hash 0 = none ∧
      (none' b).scenario = .none ∧ (s b).fans.inCommand = false ∧ (∀ r ∈ (s b).fans.recs, r.state = .handsOff) ∧
      (t b).tables.geometryValid = true ∧ (t b).auth.state = .autonomous ∧ (t b).fans.inCommand = true ∧
      (t b).live = some { planned with locked := b } := by decide +kernel
/-- Pages 0, 5 and 15 exist; page 16 and page 1 of an empty list do not. -/
theorem test_hyp_reads :
    (statePage site 0).isSome = true ∧ (statePage site 5).isSome = true ∧ (statePage site 15).isSome = true ∧
      statePage site 16 = none ∧ statePage site 1 = none ∧ (statePage fire 1).isSome = true ∧
      (siteTables.zones).recs[1]? = some (be16 2000 ++ be16 4000) ∧ site.fans.recs[47]? = some .reset ∧
      0 ∉ site.fans.queue := by decide +kernel
theorem test_hyp_store :
    let s := fun (w : StoreWrite) (left : Nat) => ({ site with
      tables := { siteTables with store := .running w left } } : State)
    quiet (s (.page 72) 5) = true ∧ Memory.wf site.eeprom.cells = true ∧ site.eeprom.answers = true ∧ (72 : Nat) < 73 ∧
      (s (.page 73) 5).tables.store = .running (.page 73) 5 ∧
      (s .setSignature 0).tables.store = .running .setSignature 0 ∧ site.tables.store = .idle ∧
      (∀ id ∈ tableOrder, (siteTables.get id).validity ≠ .loading) := by decide +kernel
/-- A device that does not answer, a write whose 20 ms have passed. -/
theorem test_hyp_store_silent :
    let s : State := { site with
      eeprom := ⟨[], false⟩
      tables := { siteTables with store := .running .clearSignature 0 } }
    quiet s = true ∧ Memory.wf s.eeprom.cells = true ∧ s.eeprom.answers = false ∧
      s.tables.store = .running .clearSignature 0 := by decide +kernel
theorem test_hyp_start_up :
    let s := State.reset
    s.chip.inReset = false ∧ s.chip.testMode = false ∧ quiet s = true ∧ s.auth.state = .starting ∧ s.live = none ∧
      (∀ o ∈ s.trains, o = none) ∧ memRead s.eeprom.cells 0 ≠ 0x5C ∧ memRead [(0, 0x5C)] 0 = 0x5C := by decide +kernel
theorem test_hyp_test_mode :
    let s : State := { fire with auth := { fire.auth with dryRun := true } }
    serving s = true ∧ s.auth.dryRun = true ∧ site.auth.dryRun = false ∧ fire.incidents.list ≠ [] ∧
      site.incidents.list = [] ∧ (1 : Nat) < (2 : Byte).toNat := by decide +kernel
theorem test_hyp_inject :
    let s : State := { site with auth := { site.auth with dryRun := true } }
    let t := siteTables
    serving s = true ∧ s.auth.dryRun = true ∧ observationCommand 0x14 0 [] = none ∧
      observationCommand 0x10 0 [0, 5, 0] = some (.velocitySample 0 5 .good) ∧ stationInUse t 7 = false ∧
      stationInUse t 6 = true ∧ stationRole t 6 = some .terminal ∧ useKind .terminal = none ∧
      stationRole t 0 = some .anemometer ∧ useKind .anemometer = some 0x10 ∧ s.samples[0]? = some .absent ∧
      observationCommand 0x31 3 [2, 0, 0, 0, 1, 0, 0, 20, 0] =
        some (.fanStatus 3 ⟨.running, .fwd, .full, 0, .centre, 0, 20, .none⟩) ∧ 3 < t.fans.count ∧ t.fans.count ≤ 4 ∧
      observationCommand 0x20 0 [0, 5, 0, 9, 0, 8, 0, 0, 0x10, 0, 0] =
        some (.trainReport ⟨5, 9, 8, 0, .towardA, false, false, true, none⟩) ∧ s.trains ≠ [] := by decide +kernel
/-- An injected report keeps its train in the bore, or takes one that is held out of it. -/
theorem test_hyp_inject_train :
    let s : State := { site with trains := [some (train 5 100 0 7)], auth := { site.auth with dryRun := true } }
    serving s = true ∧ s.auth.dryRun = true ∧ s.trains[0]? = some (some (train 5 100 0 7)) ∧
      observationCommand 0x20 0 [0, 5, 0, 9, 0, 8, 0, 0, 0, 0, 0] =
        some (.trainReport ⟨5, 9, 8, 0, .towardA, false, false, false, none⟩) ∧
      ¬ (s.params.L < 9 ∧ s.params.L < 8) ∧ s.trains ≠ [] ∧ (slotFor s 5).1 = 0 := by decide +kernel
theorem test_hyp_soft_reset :
    let q : QFrame := report 1 0x49 []
    let s : State := { busy site with port := { (busy site).port with reports := List.replicate 16 q } }
    let o : State := { fire with port := { fire.port with out := some ⟨[], true⟩ } }
    serving s = true ∧ s.auth.state ≠ .autonomous ∧ 16 ≤ s.port.commands.length + s.port.reports.length ∧
      (busy site).port.commands.length + (busy site).port.reports.length < 16 ∧ o.chip.testMode = false ∧
      o.chip.softResetDue = false ∧ o.port.out = some ⟨[], true⟩ ∧ o.auth.state = .autonomous := by decide +kernel
/-- The response of a SOFT RESET is the youngest report of a full queue, in MONITOR and in AUTONOMOUS with a hold. -/
theorem test_hyp_soft_reset_displaced :
    let y : QFrame := { report 1 0x51 [] with softReset := true }
    let s := fun (u : State) =>
      ({ busy u with port := { (busy u).port with reports := List.replicate 15 (report 1 0x49 []) ++ [y] } } : State)
    let a : State := { s fire with auth := { fire.auth with holdRemaining := 1 } }
    (∀ u ∈ [s site, a], u.chip.testMode = false ∧ u.chip.softResetDue = false ∧
      16 ≤ u.port.commands.length + u.port.reports.length ∧
      u.port.reports = List.replicate 15 (report 1 0x49 []) ++ [y] ∧ u.port.out = some ⟨[], false⟩) ∧
    y.softReset = true ∧ (s site).auth.state ≠ .autonomous ∧ a.auth.state = .autonomous ∧ inService a = true ∧
    0 < a.auth.holdRemaining ∧ a.port.commands = [] := by decide +kernel
/-- The youngest report is the response: the hold of 0 of a release displaces it, and the part resets. -/
theorem test_soft_reset_displaced :
    let y : QFrame := { report 1 0x51 [] with softReset := true }
    let s : State := { busy fire with
      port := { (busy fire).port with reports := List.replicate 15 (report 1 0x49 []) ++ [y] }
      auth := { fire.auth with holdRemaining := 1 } }
    (after (.authorityRelease 0) s).auth.state = .starting := by decide +kernel
theorem test_hyp_loop :
    let s := after (.powerOnReset true 5) State.reset
    let u : State := { s with test := { s.test with outstanding := [(0, 0)], offerIn := 0 } }
    s.chip.testMode = true ∧ s.chip.inReset = false ∧ s.chip.softResetDue = false ∧ u.test.offerIn = 0 ∧
      u.port.out ≠ none ∧ (0, 0) ∈ u.test.outstanding ∧
      isReturn u.test (frameOf (frameBytes 0x7F05 0x7F05 0x5A 0 (testPayload 0))) = true ∧
      isReturn u.test (frameOf (frameBytes 0x7F05 0x7F05 0x5A 0 (testPayload 1))) = false ∧
      at8 (frameOf (frameBytes 0x7F05 0x20 0x50 0 [7, 0, 0, 0])).payload 0 = 7 := by decide +kernel
/-- A test frame waits in the command class as the transmission on OUT ends, with the mark on either queue. -/
theorem test_hyp_loop_waits :
    let s := after (.powerOnReset true 5) State.reset
    let q := report (0x7F00 + (5 : BitVec 6).toNat) 0x5A (testPayload 1)
    let w := fun (m : QueueMark) => ({ s with port := { s.port with commands := [q], mark := m } } : State)
    (∀ m ∈ [QueueMark.insert, .forward], (w m).chip.testMode = true ∧ (w m).chip.softResetDue = false ∧
      (w m).port.commands = q :: [] ∧ (w m).port.forward = [] ∧ (w m).port.mark = m) ∧
    (s.port.out.map fun x => x.softReset) = some false ∧ s.chip.strap = 5 := by decide +kernel

end Sys2Proof.Tests
end

section
/-!
The step on an empty queue (log 1): the commands that fall due, and what one millisecond does to each timer.
-/

namespace Sys2Proof.Machine

open Sys2Proof

/-! ## Events that have fallen due -/

/-- The commands of those events in a table of timed events that are due, in the table's order (log 2). -/
def firing (l : List (Bool × Instr)) : List Instr := l.filterMap fun e => if e.1 = true then some e.2 else none

theorem firing_append (l m : List (Bool × Instr)) : firing (l ++ m) = firing l ++ firing m := List.filterMap_append

theorem firing_single {due b : Bool} (c : Instr) (h : due = b) : firing [(b, c)] = dueOne due c := by
  subst h
  cases due <;> rfl

theorem firing_map {α : Type} {due b : α → Bool} (c : α → Instr) {l : List α} (h : ∀ a ∈ l, due a = b a) :
    firing (l.map fun a => (b a, c a)) = (l.filter due).map c := by
  induction l with
  | nil => rfl
  | cons a l ih =>
    have tail := ih fun x hx => h x (List.mem_cons_of_mem a hx)
    have head : b a = due a := (h a List.mem_cons_self).symm
    simp only [firing, List.map_cons, List.filterMap_cons, List.filter_cons, head] at tail ⊢
    cases due a <;> simp [tail]

/-- An event of the fan records, as a condition on the fan's index. -/
theorem firing_fans {s : State} {due : Nat → State → Bool} {b : Nat → Bool} (c : Nat → Instr)
    (h : ∀ f < s.fans.recs.length, due f s = b f) :
    firing ((List.range s.fans.recs.length).map fun f => (b f, c f)) = dueFans s due c :=
  firing_map c fun f hf => h f (List.mem_range.1 hf)

/-! ## When each event is due -/

/-- R6: the strip-set time. -/
theorem stripDue_eq (s : State) : stripDue s = s.port.earlier.any fun e => decide (e.2 = 0) := by
  unfold stripDue
  cases s.port.earlier <;> rfl

/-- R144: the age of a fan's status. -/
theorem statusAgeDue_eq {s : State} {f : Nat} (h : f < s.fans.recs.length) :
    statusAgeDue f s = (decide ((fanRec s f).reported.drive ≠ .unknown) &&
      (fanRec s f).reported.takenAt.any fun t => decide (t + 6000 ≤ s.clock)) := by
  simp only [statusAgeDue, h, decide_true, Bool.true_and]
  cases (fanRec s f).reported.takenAt <;> rfl

/-- R59: the age of a train record. -/
theorem expiryDue_eq (s : State) (k : Nat) :
    expiryDue k s = (s.trains.getD k none).any fun r => decide (r.takenAt + 300001 ≤ s.clock) := by
  unfold expiryDue trainAt
  cases s.trains.getD k none <;> rfl

/-- R76: the deadline of a candidate. -/
theorem deadlineDue_eq (s : State) (k : Nat) :
    deadlineDue k s = (s.incidents.candidates.getD k none).any fun c => decide (c.deadline ≤ s.clock) := by
  unfold deadlineDue candidateAt
  cases s.incidents.candidates.getD k none <;> rfl

/-- R110: the lock timer of the incident with a number, on the live plan where it is the head and on its saved plan where
it is suspended. -/
theorem lockDue_eq (s : State) (n : Nat) :
    lockDue n s = (s.incidents.list.find? fun i => decide (i.number = n)).any fun i => match i.state with
      | .head => s.live.any fun l => decide (l.lockTimer = some 0)
      | .suspended => i.saved.any fun p => decide (p.lockTimer = some 0) := by
  unfold lockDue
  cases s.incidents.list.find? fun i => decide (i.number = n) with
  | none => rfl
  | some i =>
    simp only [Option.any_some]
    cases i.state with
    | head => cases s.live <;> rfl
    | suspended => cases i.saved <;> rfl

/-- R204: the 20 ms of a write. -/
theorem storeDue_eq (s : State) : storeDue s = match s.tables.store with
    | .running _ 0 => true
    | _ => false := by
  unfold storeDue
  cases s.tables.store with
  | idle => rfl
  | running w left => cases left <;> rfl

/-- The events that the table of timed events shows as due are those that an idle step takes, in the same order. -/
theorem firing_timedEvents (s : State) : firing (timedEvents s) = dueCommands s := by
  unfold timedEvents dueCommands
  simp only [firing_append]
  iterate 17 refine congrArg₂ (· ++ ·) ?_ ?_
  · exact firing_single .inSilentRaised rfl
  · exact firing_single .stripAddressExpiry (stripDue_eq s)
  · exact firing_fans .statusAgeUnknown fun _ hf => statusAgeDue_eq hf
  · exact firing_map .trainRecordExpiry fun k _ => expiryDue_eq s k
  · exact firing_map .candidateDeadline fun k _ => deadlineDue_eq s k
  · exact firing_single .phaseTimerExpiry rfl
  · rw [List.filter_map, List.map_map]
    exact firing_map (fun i : Incident => .lockTimerExpiry i.number) fun i _ => lockDue_eq s i.number
  · exact firing_single .trimTimerExpiry rfl
  · exact firing_fans .ackDeadline fun _ _ => rfl
  · exact firing_fans .resendTime fun _ _ => rfl
  · exact firing_single .silenceResend rfl
  · exact firing_single .startSpacingExpiry rfl
  · exact firing_fans .dwellTimerExpiry fun _ _ => rfl
  · exact firing_fans .startTimerExpiry fun _ _ => rfl
  · exact firing_single .holdRefresh rfl
  · exact firing_single .storeWriteTimeout (storeDue_eq s)
  · exact firing_single .testFrameOffer rfl
  · rw [List.filter_map, List.map_map]
    exact firing_map (fun o : Nat × Nat => .testFrameDeadline o.1) fun _ _ => rfl

/-! ## One millisecond -/

/-- No time passes while a reset lasts. -/
theorem tick_of_reset {s : State} (h : s.chip.inReset = true) : tick s = s := if_pos h

/-- R1: the time base counts and every block's timers count; nothing else changes. -/
theorem tick_of_running {s : State} (h : s.chip.inReset = false) : tick s = { s with
    clock := (s.clock + 1) % Config.clockModulus
    port := s.port.tick
    incidents := { s.incidents with
      list := s.incidents.list.map Incident.tick
      phaseTimer := countDown s.incidents.phaseTimer }
    live := s.live.map fun l => { l with lockTimer := countDown l.lockTimer }
    plan := { s.plan with trim := countDown s.plan.trim }
    fans := { s.fans with
      recs := s.fans.recs.map (FanRecord.tick s.port.inSilent)
      spacing := countDown s.fans.spacing }
    auth := s.auth.tick
    tables := { s.tables with store := s.tables.store.tick }
    test := s.test.tick } := by
  simp [tick, h]

theorem satCount_eq_min (b n : Nat) : satCount b n = min b (n + 1) := by
  unfold satCount
  split <;> omega

/-- R6, R17, R165: the timers of the Ring Port. -/
theorem Port.tick_eq (p : Port) : p.tick = { p with
    silence := min 500 (p.silence + 1)
    silentFor := if p.inSilent = true then p.silentFor + 1 else p.silentFor
    earlier := p.earlier.map fun e => (e.1, e.2 - 1) } := by
  simp only [Port.tick, satCount_eq_min, Config.silenceLimit]

/-- R181: the hold remaining counts in AUTONOMOUS out of dry run. -/
theorem Authority.tick_eq (a : Authority) : a.tick = { a with holdRemaining :=
    if a.state = .autonomous ∧ a.dryRun = false then a.holdRemaining - 1 else a.holdRemaining } := by
  simp [Authority.tick]

/-- R204: the time of a write counts while a STORE runs. -/
theorem StoreEngine.tick_eq (e : StoreEngine) : e.tick = match e with
    | .idle => .idle
    | .running w left => .running w (left - 1) := by
  cases e <;> rfl

/-- R165: IN SILENT pauses the wait of an exchange. -/
@[simp] theorem Exchange.tick_paused (e : Exchange) : e.tick true = e := by
  cases e with
  | closed => rfl
  | opened c n w => cases w <;> rfl

@[simp] theorem Exchange.tick_closed (paused : Bool) : Exchange.closed.tick paused = .closed := rfl
@[simp] theorem Exchange.tick_ack (c : FanCommand) (n ms : Nat) :
    (Exchange.opened c n (.ack ms)).tick false = .opened c n (.ack (ms - 1)) := rfl
@[simp] theorem Exchange.tick_resend (c : FanCommand) (n ms : Nat) :
    (Exchange.opened c n (.resend ms)).tick false = .opened c n (.resend (ms - 1)) := rfl

/-- R165: while IN SILENT is raised a fan's start timer and its exchange wait. -/
theorem FanRecord.tick_silent (r : FanRecord) :
    (r.tick true).start = r.start ∧ (r.tick true).exchange = r.exchange :=
  ⟨rfl, r.exchange.tick_paused⟩

/-- R151, R160: else the start timer counts, and the wait of an open exchange. -/
theorem FanRecord.tick_heard (r : FanRecord) :
    (r.tick false).start = r.start.map (· - 1) ∧
      (r.exchange = .closed → (r.tick false).exchange = .closed) ∧
      ∀ c n ms,
        (r.exchange = .opened c n (.ack ms) → (r.tick false).exchange = .opened c n (.ack (ms - 1))) ∧
        (r.exchange = .opened c n (.resend ms) → (r.tick false).exchange = .opened c n (.resend (ms - 1))) := by
  refine ⟨rfl, fun h => ?closed, fun c n ms => ⟨fun h => ?ack, fun h => ?resend⟩⟩
  all_goals simp [FanRecord.tick, h]

/-! ## The step on an empty queue -/

theorem step_of_no_command {s : State} (h : s.pending = []) : step s = .next (idle s) := by
  simp [step, h]

/-- R35: a frame that waits for its block comes first. -/
theorem idle_of_dispatch {s : State} {d : Dispatch} {rest : List Dispatch} {c : Instr}
    (h : s.dispatched = d :: rest) (hc : d.command = some c) : idle s = s.setPending [c] := by
  simp [idle, takeDispatch, h, hc]

/-- The events that have fallen due come next, all of them. -/
theorem idle_of_due {s : State} (h : s.dispatched = []) (hd : dueCommands s ≠ []) :
    idle s = s.setPending (dueCommands s) := by
  obtain ⟨c, cs, hc⟩ := List.exists_cons_of_ne_nil hd
  simp [idle, h, hc]

/-- Else time passes. -/
theorem idle_of_none_due {s : State} (h : s.dispatched = []) (hd : dueCommands s = []) : idle s = tick s := by
  simp [idle, h, hd]

/-- Settles O3: the three cases of `idle`, with `firing_timedEvents` for what is due and `tick_of_running` for the
millisecond. -/
theorem idleStepCountsOneMillisecond : Obligations.IdleStepCountsOneMillisecond := by
  intro s hp
  have fired : (timedEvents s).filterMap (fun e => if e.1 = true then some e.2 else none) = dueCommands s :=
    firing_timedEvents s
  simp only [fired, step_of_no_command hp]
  refine ⟨?dispatched, ?due, ?reset, ?passes⟩
  case dispatched =>
    intro d rest c hd hc
    rw [idle_of_dispatch hd hc]
    rfl
  case due =>
    intro hd hdue
    rw [idle_of_due hd hdue]
    rfl
  case reset =>
    intro hd hdue hr
    rw [idle_of_none_due hd hdue, tick_of_reset hr]
  case passes =>
    intro hd hdue hr
    rw [idle_of_none_due hd hdue]
    refine ⟨tick s, rfl, ?_⟩
    rw [tick_of_running hr]
    refine ⟨rfl, s.port.tick_eq, congrArg (fun e => { s.tables with store := e }) s.tables.store.tick_eq, rfl,
      s.auth.tick_eq, rfl, rfl, rfl, ?incidents, rfl, ?fans, rfl⟩
    case incidents =>
      intro k i hi
      simp only [List.getElem?_map, hi]
      rfl
    case fans =>
      intro f r hf
      refine ⟨r.tick s.port.inSilent, ?_, rfl, ?silent, ?heard⟩
      · simp only [List.getElem?_map, hf, Option.map_some]
      case silent =>
        intro h
        rw [h]
        exact r.tick_silent
      case heard =>
        intro h
        rw [h]
        exact r.tick_heard

end Sys2Proof.Machine
end

section
/-!
The ranges of the Ring Port (R9, R10, R11, R15): every operation keeps them, and so does every step. What the planning
blocks keep is `Kept.ranges`; the rest are the Ring Port's own operations, the resets, and the operations that leave the
port as it is.
-/

namespace Sys2Proof.Machine

open Sys2Proof

/-- From a Ring Port in its ranges the state `t` has one too. -/
def RangesKept (s t : State) : Prop := portInRange s.port = true → portInRange t.port = true

theorem RangesKept.refl (s : State) : RangesKept s s := id

theorem RangesKept.trans {s t u : State} (a : RangesKept s t) (b : RangesKept t u) : RangesKept s u := fun h => b (a h)

theorem RangesKept.ite {s t u : State} {c : Prop} [Decidable c] (a : RangesKept s t) (b : RangesKept s u) :
    RangesKept s (if c then t else u) := by split <;> assumption

/-- What follows a change that leaves the Ring Port as it is. -/
theorem RangesKept.after {s t u : State} (h : RangesKept t u) (same : t.port = s.port := by rfl) : RangesKept s u :=
  fun k => h (same ▸ k)

theorem Kept.inRange {s t : State} (k : Kept s t) : RangesKept s t := k.ranges

/-! ## Queues and counters -/

theorem inRange_count (s : State) (f : Counters → Counters)
    (h : portInRange s.port = true → portInRange { s.port with counters := f s.port.counters } = true) :
    RangesKept s (s.count f) := (kept_count s f h).inRange

theorem inRange_responseGone (q : QFrame) (s : State) : RangesKept s (responseGone q s) := .ite (.refl s) (.refl s)

theorem inRange_dropReport (q : QFrame) (s : State) : RangesKept s (dropReport q s) := by
  refine RangesKept.trans (inRange_count s _ fun h => ?_) (inRange_responseGone q _)
  have := satCount_le 255 s.port.counters.reportDrop
  simp only [portInRange_iff] at h ⊢
  omega

/-- R11, R12: whatever its mark or kind, a report offered leaves the queue within its 16 frames. -/
theorem inRange_offerReport (q : QFrame) (s : State) : RangesKept s (offerReport q s) := by
  by_cases room : insertCount s.port < Config.insertCapacity
  · rw [offerReport_of_room q room]
    refine RangesKept.trans (fun h => ?_) (kept_serve _).inRange
    simp only [insertCount, Config.insertCapacity] at room
    simp only [portInRange_iff, State.setPort_port, List.length_append, List.length_singleton] at h ⊢
    omega
  · rw [offerReport_of_full q room]
    exact inRange_dropReport q s

/-- R11, R12: whatever its mark or kind, a command offered leaves the queue within its 16 frames. -/
theorem inRange_offerCommand (q : QFrame) (s : State) : RangesKept s (offerCommand q s) := by
  by_cases room : insertCount s.port < Config.insertCapacity
  · rw [offerCommand_of_room q room]
    refine RangesKept.trans (fun h => ?_) (kept_serve _).inRange
    simp only [insertCount, Config.insertCapacity] at room
    simp only [portInRange_iff, State.setPort_port, List.length_append, List.length_singleton] at h ⊢
    omega
  · rcases last : s.port.reports.getLast? with _ | r
    · rw [offerCommand_of_full q room last]
      refine inRange_count s _ fun h => ?_
      have := satCount_le 255 s.port.counters.commandDrop
      simp only [portInRange_iff] at h ⊢
      omega
    · rw [offerCommand_of_report q r room last]
      refine RangesKept.trans (fun h => ?_) ((inRange_dropReport r _).trans (kept_serve _).inRange)
      have := List.length_pos_of_mem (List.mem_of_getLast? last)
      simp only [portInRange_iff, State.setPort_port, List.length_append, List.length_singleton,
        List.length_dropLast] at h ⊢
      omega

/-! ## Resets and the end of a step -/

theorem inRange_offerTestFrame (s : State) : RangesKept s (offerTestFrame s) := inRange_offerCommand _ s

/-- R19: the post-reset state lies in the ranges whatever stood before. -/
theorem portInRange_endReset (addr : BitVec 6) (test : Bool) (s : State) :
    portInRange (endReset addr test s).port = true := by
  cases test
  · rfl
  · exact inRange_offerTestFrame _ rfl

theorem inRange_settle (s : State) : RangesKept s (settle s) := by
  unfold settle
  by_cases due : s.chip.softResetDue = true
  · rw [if_pos due]; exact fun _ => portInRange_endReset _ _ s
  · rw [if_neg due]; exact .refl s

/-- An outcome answers no state with a Ring Port out of its ranges. -/
def AnswersInRange (s : State) (o : Host.Outcome State Fault Refusal) : Prop := ∀ t, o = .next t → RangesKept s t

theorem answersInRange_finish {s t : State} (h : RangesKept s t) : AnswersInRange s (finish t) := by
  rintro u ⟨⟩
  exact h.trans (inRange_settle t)

/-! ## Ring IN and ring OUT -/

theorem inRange_countMismatch (s : State) : RangesKept s (countMismatch s) := inRange_count s _ fun h => by
  have := satCount_le 255 s.port.counters.roleMismatch
  simp only [portInRange_iff] at h ⊢
  omega

theorem inRange_countUnknown (s : State) : RangesKept s (countUnknown s) := inRange_count s _ fun h => by
  have := satCount_le 255 s.port.counters.unknownSource
  simp only [portInRange_iff] at h ⊢
  omega

theorem inRange_countBad (s : State) : RangesKept s (countBad s) := inRange_count s _ fun h => by
  have := satCount_le 255 s.port.counters.bad
  simp only [portInRange_iff] at h ⊢
  omega

/-- R15: the good-frame counter goes from 9,999 to 0. -/
theorem inRange_countGood (s : State) : RangesKept s (countGood s) := inRange_count s _ fun h => by
  simp only [portInRange_iff] at h ⊢
  split <;> omega

theorem inRange_observe (f : Frame) (s : State) : RangesKept s (observe f s) := by
  unfold observe
  split
  · exact inRange_countUnknown s
  · split
    · exact inRange_countMismatch s
    · split
      · split
        · exact inRange_countMismatch s
        · exact .refl s
      · exact .refl s

theorem inRange_useOrCount (f : Frame) (s : State) : RangesKept s (useOrCount f s) :=
  .ite (.refl s) (.ite (inRange_countUnknown s) (.ite (inRange_observe f s) (.refl s)))

theorem inRange_dispatchRequest (f : Frame) (l : Lookup) (s : State) : RangesKept s (dispatchRequest f l s) :=
  .ite (inRange_countMismatch s) (.refl s)

theorem inRange_dispatchCentre (f : Frame) (s : State) : RangesKept s (dispatchCentre f s) := by
  unfold dispatchCentre
  split
  · split
    · exact inRange_countMismatch s
    · exact .refl s
  · exact inRange_countMismatch s

theorem inRange_consume (f : Frame) (s : State) : RangesKept s (consume f s) :=
  .ite (.refl s) <| .ite (.ite (inRange_dispatchRequest f _ s) (.refl s)) <|
    .ite (inRange_dispatchRequest f _ s) <| .ite (inRange_dispatchCentre f s) (inRange_useOrCount f s)

theorem inRange_restoredNotice (restored : Bool) (s : State) : RangesKept s (restoredNotice restored s) :=
  .ite (kept_headNotice _ _ s).inRange (.refl s)

theorem inRange_classify (restored : Bool) (bytes : List Byte) (f : Frame) (s : State) :
    RangesKept s (classify restored bytes f s) :=
  .ite (kept_forwardFrame _ _ s).inRange <|
    .ite ((inRange_restoredNotice restored s).trans (kept_interception _).inRange)
      ((inRange_useOrCount f s).trans (kept_forwardFrame _ _ _).inRange)

theorem inRange_route (restored : Bool) (bytes : List Byte) (s : State) : RangesKept s (route restored bytes s) :=
  .ite (inRange_restoredNotice _ s) <|
    .ite ((inRange_restoredNotice _ s).trans (inRange_consume _ _)) (inRange_classify _ _ _ s)

theorem inRange_restartSilence (s : State) : RangesKept s (restartSilence s) := fun h => by
  simp only [restartSilence, portInRange_iff, State.setPort_port] at h ⊢
  exact h

theorem inRange_receive (bytes : List Byte) (s : State) : RangesKept s (receive bytes s) :=
  .ite (inRange_countBad s) (((inRange_countGood s).trans (inRange_restartSilence _)).trans (inRange_route _ _ _))

theorem inRange_endTransmission (s : State) : RangesKept s (endTransmission s) := by
  have freed : RangesKept s (s.setPort { s.port with out := none }) := fun h => by
    simp only [portInRange_iff, State.setPort_port] at h ⊢
    exact h
  unfold endTransmission
  split
  · exact .refl s
  · exact .ite freed (freed.trans (kept_serve _).inRange)

theorem inRange_raiseSilent (s : State) : RangesKept s (raiseSilent s) := by
  refine RangesKept.trans (t := s.setPort { s.port with inSilent := true, silentFor := 0 }) (fun h => ?_)
    (.ite (.refl _) (kept_headNotice _ _ _).inRange)
  simp only [portInRange_iff, State.setPort_port] at h ⊢
  exact h

/-! ## Ring continuity test -/

theorem inRange_readTestCounters (source sequence : Nat) (s : State) :
    RangesKept s (readTestCounters source sequence s) := inRange_offerReport _ (s.testCount LoopTest.cleared)

theorem inRange_testRoute (f : Frame) (s : State) : RangesKept s (testRoute f s) :=
  .ite (.ite (.refl s) (.refl s)) (.ite (inRange_readTestCounters _ _ s) (.refl s))

theorem inRange_frameIn (bytes : List Byte) (s : State) : RangesKept s (frameIn bytes s) :=
  .ite (.refl s) <| .ite
    (.ite (.refl s) ((inRange_restartSilence s).trans (inRange_testRoute _ _)))
    (inRange_receive bytes s)

/-! ## Samples and trains -/

theorem inRange_raise (e : Option Detection) (s : State) : RangesKept s (raise e s) := by
  cases e
  · exact .refl s
  · exact (kept_takeEvent _ s).inRange

theorem inRange_takeTrain (p : TrainReport) (injected : Bool) (s : State) : RangesKept s (takeTrain p injected s) := by
  exact RangesKept.after <| RangesKept.trans (.ite (kept_takeEvent _ _).inRange (.refl _)) (kept_tableChanged _).inRange

theorem inRange_takeDeparture (id : Nat) (s : State) : RangesKept s (takeDeparture id s) := by
  unfold takeDeparture
  split
  · exact .refl s
  · exact .after (kept_tableChanged _).inRange

theorem inRange_takeTrainReport (p : TrainReport) (injected : Bool) (s : State) :
    RangesKept s (takeTrainReport p injected s) := .ite (inRange_takeDeparture _ s) (inRange_takeTrain p injected s)

theorem inRange_removeTrains (drop : Train → Bool) (s : State) : RangesKept s (removeTrains drop s) :=
  .ite (.refl s) (.after (kept_tableChanged _).inRange)

theorem inRange_lengthChanged (before : Nat) (s : State) : RangesKept s (lengthChanged before s) :=
  .ite (.refl s) (inRange_removeTrains _ s)

/-! ## Tables and stored image -/

theorem inRange_updateOwnAddr (s : State) : RangesKept s (updateOwnAddr s) := .ite (.refl s) fun h => by
  simp only [portInRange_iff, State.setPort_port] at h ⊢
  exact h

theorem inRange_tableNotices (bads : List (TableId × Nat)) (ids : List TableId) (s : State) :
    RangesKept s (tableNotices bads ids s) := by
  induction ids generalizing s with
  | nil => exact .refl s
  | cons id ids ih => exact (kept_tableNotice _ _ _ _ s).inRange.trans (ih _)

theorem setLoaded_port (found : ImageFound) (s : State) : (setLoaded found s).1.port = s.port := by
  cases found <;> rfl

theorem inRange_endStartUpLoad (s : State) : RangesKept s (endStartUpLoad s) := by
  have loaded : RangesKept s (setLoaded (imageFound s.eeprom) s).1 := fun h => by rwa [setLoaded_port]
  exact loaded.trans <| (inRange_lengthChanged _ _).trans <| (kept_tableNotice _ _ _ _ _).inRange.trans <|
    (inRange_tableNotices _ _ _).trans <| (kept_leaveStarting _).inRange.trans (inRange_updateOwnAddr _)

theorem inRange_endStore (failed : Bool) (s : State) : RangesKept s (endStore failed s) :=
  .after (kept_tableNotice _ _ _ _ _).inRange

theorem answersInRange_makeWrite {s t : State} (polled : List Transfer) (w : StoreWrite) (h : RangesKept s t) :
    AnswersInRange s (makeWrite polled w t) := by
  unfold makeWrite
  dsimp only
  split
  · exact answersInRange_finish h
  · rintro u ⟨⟩

/-! ## Requests -/

theorem inRange_answerData (code : Nat) (r : Request) (st : Status) (data : List Byte) (s : State) :
    RangesKept s (answerData code r st data s) := (kept_respond _ _ _ _ _ _ s).inRange

theorem inRange_answer (code : Nat) (r : Request) (st : Status) (s : State) : RangesKept s (answer code r st s) :=
  inRange_answerData code r st [] s

theorem inRange_checked {rule : State → State} (code : Nat) (r : Request) (form : Bool)
    (h : ∀ s, RangesKept s (rule s)) (s : State) : RangesKept s (checked code r form rule s) :=
  .ite (inRange_answer _ _ _ s) (.ite (inRange_answer _ _ _ s) (h s))

theorem inRange_checkedTable {rule : TableId → State → State} (code : Nat) (r : Request) (form : Bool)
    (h : ∀ id s, RangesKept s (rule id s)) (s : State) : RangesKept s (checkedTable code r form rule s) := by
  unfold checkedTable
  split
  · exact inRange_checked code r false (fun s => .refl s) s
  · exact inRange_checked code r form (h _) s

/-- A request taken in service, or struck from the dispatched frames alone. -/
theorem inRange_takeRequest {rule : State → State} (c : Instr) (h : ∀ s, RangesKept s (rule s)) (s : State) :
    RangesKept s (takeRequest c rule s) := .ite (.after (h _)) (.refl s)

theorem inRange_handOpen (id : TableId) (s : State) : RangesKept s (handOpen id s) := by
  have opened : RangesKept s (if id.isGeometry then emptyCandidates (geometryOpened s) else s) :=
    .ite ((kept_geometryOpened s).trans (kept_emptyCandidates _)).inRange (.refl s)
  cases id
  case global => exact opened.trans (inRange_updateOwnAddr _)
  all_goals exact opened

theorem inRange_openLoad (r : Request) (id : TableId) (s : State) : RangesKept s (openLoad r id s) :=
  .ite (inRange_answer _ _ _ s) <| .ite (inRange_answer _ _ _ s) <|
    RangesKept.after <| (inRange_answer 1 r .done _).trans <|
      (kept_tableNotice _ _ _ _ _).inRange.trans (inRange_handOpen id _)

theorem inRange_writeRecord (r : Request) (id : TableId) (s : State) : RangesKept s (writeRecord r id s) :=
  .ite (inRange_answer _ _ _ s) <| .ite (inRange_answer _ _ _ s) <| .ite (inRange_answer _ _ _ s) <|
    .after (inRange_answer 2 r .done _)

theorem inRange_handClose (id : TableId) (before : Nat) (passed : Bool) (s : State) :
    RangesKept s (handClose id before passed s) :=
  ((inRange_updateOwnAddr s).trans (inRange_lengthChanged before _)).trans <|
    .ite ((kept_geometryClosed _).trans (kept_geometryLookup _)).inRange <|
      .ite (kept_scenarioSetValid _).inRange (.refl _)

theorem inRange_closeLoad (r : Request) (id : TableId) (s : State) : RangesKept s (closeLoad r id s) := by
  refine .ite (inRange_answer _ _ _ s) ?_
  dsimp only
  split
  all_goals exact RangesKept.after <| (kept_respond _ _ _ _ _ _ _).inRange.trans <|
    (kept_tableNotice _ _ _ _ _).inRange.trans (inRange_handClose _ _ _ _)

theorem inRange_readRecord (r : Request) (id : TableId) (s : State) : RangesKept s (readRecord r id s) :=
  .ite (inRange_answer _ _ _ s) (inRange_answerData _ _ _ _ s)

theorem inRange_readState (r : Request) (s : State) : RangesKept s (readState r s) := by
  unfold readState
  split
  · exact inRange_answer _ _ _ s
  · exact inRange_answerData _ _ _ _ s

theorem inRange_readFan (r : Request) (s : State) : RangesKept s (readFan r s) :=
  .ite (inRange_answer _ _ _ s) (inRange_answerData _ _ _ _ s)

/-- R16: counters set to 0 lie in their ranges. -/
theorem inRange_readCounters (r : Request) (s : State) : RangesKept s (readCounters r s) := by
  refine RangesKept.trans (t := clearCounters s) (fun h => ?_) (inRange_answerData _ _ _ _ _)
  simp only [portInRange_iff, clearCounters, State.setAuth_port, State.setPort_port, Counters.zero] at h ⊢
  omega

theorem inRange_endDryRun (s : State) : RangesKept s (endDryRun s) :=
  (kept_emptyIncidents s).inRange.trans <|
    RangesKept.after (inRange_removeTrains Train.injected _)

theorem inRange_setTestMode (r : Request) (s : State) : RangesKept s (setTestMode r s) := by
  unfold setTestMode
  split
  · exact RangesKept.trans (.ite (inRange_endDryRun s) (.refl s)) (inRange_answer _ _ _ _)
  · exact .ite (inRange_answer _ _ _ s) (.after (inRange_answer 9 r .done _))
  · exact inRange_answer _ _ _ s

theorem inRange_takeInjected (c : Instr) (s : State) : RangesKept s (takeInjected c s) := by
  unfold takeInjected
  split
  · exact .refl s
  · exact .after (inRange_raise _ _)
  · exact .after (inRange_raise _ _)
  · exact .after (inRange_raise _ _)
  · exact .refl s

theorem inRange_injectSample (r : Request) (kind : Nat) (c : Instr) (s : State) :
    RangesKept s (injectSample r kind c s) :=
  .ite (inRange_answer _ _ _ s) <| .ite (inRange_answer _ _ _ s) <|
    (inRange_takeInjected c s).trans (inRange_answerData _ _ _ _ _)

theorem inRange_injectTrain (r : Request) (p : TrainReport) (s : State) : RangesKept s (injectTrain r p s) := by
  refine .ite ?_ ((inRange_takeTrain p true s).trans (inRange_answerData _ _ _ _ _))
  split
  · exact (inRange_takeDeparture p.id s).trans (inRange_answerData _ _ _ _ _)
  · exact inRange_answer _ _ _ s

theorem inRange_injectStatus (r : Request) (st : FanStatus) (s : State) : RangesKept s (injectStatus r st s) :=
  .ite (inRange_answer _ _ _ s) ((kept_takeStatus r.index st true s).inRange.trans (inRange_answerData _ _ _ _ _))

theorem inRange_inject (r : Request) (s : State) : RangesKept s (inject r s) := by
  refine .ite (inRange_answer _ _ _ s) ?_
  dsimp only
  split
  · exact inRange_injectTrain r _ s
  · exact inRange_injectStatus r _ s
  · exact inRange_injectSample r _ _ s
  · exact inRange_answer _ _ _ s

theorem inRange_softReset (r : Request) (s : State) : RangesKept s (softReset r s) :=
  .ite (inRange_answer _ _ _ s) (inRange_offerReport _ s)

/-! ## Every command -/

/-- A timed event that takes effect when it is due. -/
theorem answersInRange_due {s t : State} {c : Prop} [Decidable c] (h : RangesKept s t) :
    AnswersInRange s (finish (if c then t else s)) := answersInRange_finish (.ite h (.refl s))

theorem answersInRange_request {rule : State → State} (c : Instr) (h : ∀ s, RangesKept s (rule s)) (s : State) :
    AnswersInRange s (finish (takeRequest c rule s)) := answersInRange_finish (inRange_takeRequest c h s)

theorem answersInRange_storeTables (r : Request) (s : State) : AnswersInRange s (execStoreTables r s) := by
  unfold execStoreTables
  dsimp only
  split
  · exact answersInRange_makeWrite _ _ (.after (inRange_answer 8 r .done _))
  · exact answersInRange_request _ (inRange_checked 8 r true fun s => inRange_answer _ _ _ s) s

theorem answersInRange_storeWriteReady (s : State) : AnswersInRange s (execStoreWriteReady s) := by
  unfold execStoreWriteReady
  split
  · exact answersInRange_finish (.refl s)
  · dsimp only
    split
    · exact answersInRange_finish (.refl s)
    · split
      · exact answersInRange_makeWrite _ _ (.refl s)
      · exact answersInRange_finish (.after (inRange_endStore false _))

theorem answersInRange_storeWriteTimeout (s : State) : AnswersInRange s (execStoreWriteTimeout s) := by
  unfold execStoreWriteTimeout
  split
  · exact answersInRange_finish (.refl s)
  · exact answersInRange_due (.after (inRange_endStore true _))

/-- R15: every command keeps the ranges of the Ring Port. -/
theorem exec_answersInRange (c : Instr) (s : State) : AnswersInRange s (exec c s) := by
  cases c with
  | powerOnReset loop addr => exact answersInRange_finish fun _ => portInRange_endReset _ _ s
  | resetN => exact answersInRange_finish fun _ => rfl
  | resetNRelease addr => exact answersInRange_due fun _ => portInRange_endReset _ _ s
  | frameReceived bytes => exact answersInRange_finish (inRange_frameIn bytes s)
  | transmissionEnd => exact answersInRange_finish (inRange_endTransmission s)
  | inSilentRaised => exact answersInRange_due (inRange_raiseSilent s)
  | stripAddressExpiry =>
    refine answersInRange_due fun h => ?_
    simp only [portInRange_iff, State.setPort_port] at h ⊢
    exact h
  | velocitySample i v q => exact answersInRange_finish (.ite (.refl s) (.refl s))
  | opacitySample i e q => exact answersInRange_finish (.ite (.after (inRange_raise _ _)) (.refl s))
  | temperatureSample i x q =>
    exact answersInRange_finish (.ite (.after (inRange_raise _ _)) (.refl s))
  | heatLineReport i l a => exact answersInRange_finish (.ite (.after (inRange_raise _ _)) (.refl s))
  | trainReport p => exact answersInRange_finish (.ite (.after (inRange_takeTrainReport p false _)) (.refl s))
  | fanStatus f st =>
    exact answersInRange_finish (.ite
      (.ite (.after (kept_dryReport f st _).inRange) (.after (kept_takeStatus f st false _).inRange)) (.refl s))
  | incidentDeclare q d => exact answersInRange_finish (.ite (.after (kept_declare q d _).inRange) (.refl s))
  | incidentClear n => exact answersInRange_finish (.ite (.after (kept_clearIncident n _).inRange) (.refl s))
  | authorityRelease n => exact answersInRange_finish (.ite (.after (kept_releaseAuthority n _).inRange) (.refl s))
  | authorityResume => exact answersInRange_finish (.ite (.after (kept_resumeAuthority _).inRange) (.refl s))
  | openLoad r => exact answersInRange_request _ (inRange_checkedTable 1 r true (inRange_openLoad r)) s
  | writeRecord r => exact answersInRange_request _ (inRange_checkedTable 2 r true (inRange_writeRecord r)) s
  | closeLoad r => exact answersInRange_request _ (inRange_checkedTable 3 r _ (inRange_closeLoad r)) s
  | readRecord r => exact answersInRange_request _ (inRange_checkedTable 4 r true (inRange_readRecord r)) s
  | readState r => exact answersInRange_request _ (inRange_checked 5 r true (inRange_readState r)) s
  | readFan r => exact answersInRange_request _ (inRange_checked 6 r true (inRange_readFan r)) s
  | readCounters r => exact answersInRange_request _ (inRange_checked 7 r true (inRange_readCounters r)) s
  | storeTables r => exact answersInRange_storeTables r s
  | setTestMode r => exact answersInRange_request _ (inRange_checked 9 r _ (inRange_setTestMode r)) s
  | inject r => exact answersInRange_request _ (inRange_checked 10 r _ (inRange_inject r)) s
  | softReset r => exact answersInRange_request _ (inRange_checked 11 r true (inRange_softReset r)) s
  | candidateDeadline k => exact answersInRange_due (kept_discard 0 .expired k s).inRange
  | phaseTimerExpiry =>
    exact answersInRange_due
      (((kept_setPhaseTimer none s).trans (kept_setPhase .staging _)).trans (kept_announcePhase .staging _)).inRange
  | lockTimerExpiry n => exact answersInRange_due (kept_lockExpires n s).inRange
  | trimTimerExpiry => exact answersInRange_due ((kept_setTrim _ s).trans (kept_trimStep _)).inRange
  | statusAgeUnknown f => exact answersInRange_due (kept_fanEvent f _ s (kept_ageUnknown f s)).inRange
  | ackDeadline f => exact answersInRange_due (kept_fanEvent f _ s (kept_ackPasses f s)).inRange
  | resendTime f => exact answersInRange_due (kept_resendNow f s).inRange
  | silenceResend => exact answersInRange_due (kept_silenceResendAll s).inRange
  | startSpacingExpiry => exact answersInRange_due ((kept_setFans s _).trans (kept_startTests _)).inRange
  | dwellTimerExpiry f => exact answersInRange_due (kept_fanEvent f _ s (kept_dwellEnd f s)).inRange
  | startTimerExpiry f => exact answersInRange_due (kept_fanEvent f _ s (kept_failedAttempt f s)).inRange
  | holdRefresh => exact answersInRange_due (kept_claimHold s).inRange
  | trainRecordExpiry k => exact answersInRange_due (.after (kept_tableChanged _).inRange)
  | startUpLoadEnd answers => exact answersInRange_due (.after (inRange_endStartUpLoad _))
  | storeWriteReady => exact answersInRange_storeWriteReady s
  | storeWriteTimeout => exact answersInRange_storeWriteTimeout s
  | testFrameOffer => exact answersInRange_due (inRange_offerTestFrame s)
  | testFrameDeadline n => exact answersInRange_due (.refl s)
  | testFrameReceived bytes => exact answersInRange_finish (inRange_frameIn bytes s)
  | testReadCounters a q => exact answersInRange_due (inRange_readTestCounters a q s)

/-! ## Every step -/

theorem inRange_tick (s : State) : RangesKept s (tick s) := by
  refine .ite (.refl s) fun h => ?_
  simp only [portInRange_iff, Port.tick] at h ⊢
  exact h

theorem inRange_takeBadRequest (d : Dispatch) (s : State) : RangesKept s (takeBadRequest d s) :=
  .ite (inRange_checked _ _ false (fun s => .refl s) s) (.refl s)

theorem inRange_idle (s : State) : RangesKept s (idle s) := by
  unfold idle
  split
  · rename_i d rest _
    unfold takeDispatch
    split
    · exact .refl s
    · exact (inRange_takeBadRequest d (s.setDispatched rest)).trans (inRange_settle _)
  · exact .refl s
  · exact inRange_tick s

/-- Settles O5: command by command, and over the step on an empty queue. -/
theorem portKeepsItsRanges : Obligations.PortKeepsItsRanges := by
  intro s t held stepped
  unfold step at stepped
  split at stepped
  · cases stepped
    exact inRange_idle s held
  · exact exec_answersInRange _ _ t stepped held

end Sys2Proof.Machine
end

section
/-!
What an offer to ring OUT leaves as it is: every block but the Ring Port, and of the Ring Port the addresses, the silence
timer and the receive counters (R5, R9 to R14). And how a step ends.
-/

namespace Sys2Proof.Machine

open Sys2Proof

/-! ## The end of a step -/

/-- R185, R186: where no SOFT RESET is due a step ends with the outputs set. -/
theorem finish_ended {s : State} (h : s.chip.softResetDue = false) : finish s = .next (ended s) := by
  rw [finish_eq, settle_of_none_due h]; rfl

theorem finish_ended_of_kept {s t : State} (k : Kept s t) (h : quiet s = true) : finish t = .next (ended t) :=
  finish_ended (quiet_due (k.quiet h))

theorem ended_port (s : State) : (ended s).port = s.port := rfl

/-- What it says that no SOFT RESET and no test frame waits. -/
theorem quiet_iff (s : State) : quiet s = true ↔ s.chip.softResetDue = false ∧
    ∀ q ∈ s.port.commands ++ s.port.reports, q.softReset = false ∧ q.kind ≠ kindTest := by
  simp only [quiet, Bool.and_eq_true, Bool.not_eq_true', List.all_eq_true, bne_iff_ne]

/-- What it says that the part takes dispatches and is quiet. -/
theorem serving_iff (s : State) : serving s = true ↔
    (s.chip.inReset = false ∧ s.chip.testMode = false ∧ s.auth.state ≠ .starting) ∧ quiet s = true := by
  simp [serving, inService, and_assoc]

theorem onRing_iff (s : State) : onRing s = true ↔ s.chip.inReset = false ∧ s.chip.testMode = false := by
  simp [onRing]

theorem serving_onRing {s : State} (h : serving s = true) : onRing s = true := by
  obtain ⟨⟨running, service, _⟩, _⟩ := (serving_iff s).1 h
  exact (onRing_iff s).2 ⟨running, service⟩

theorem serving_quiet {s : State} (h : serving s = true) : quiet s = true := ((serving_iff s).1 h).2

/-! ## What queues and ring OUT leave -/

/-- Two Ring Ports that differ in queues, ring OUT and the counters of what was dropped or not used alone. -/
structure SameLink (p q : Port) : Prop where
  ownAddr : q.ownAddr = p.ownAddr
  earlier : q.earlier = p.earlier
  silence : q.silence = p.silence
  inSilent : q.inSilent = p.inSilent
  silentFor : q.silentFor = p.silentFor
  good : q.counters.good = p.counters.good
  bad : q.counters.bad = p.counters.bad
  activity : q.counters.activity = p.counters.activity

theorem SameLink.refl (p : Port) : SameLink p p := ⟨rfl, rfl, rfl, rfl, rfl, rfl, rfl, rfl⟩

theorem SameLink.trans {p q r : Port} (a : SameLink p q) (b : SameLink q r) : SameLink p r where
  ownAddr := b.ownAddr.trans a.ownAddr
  earlier := b.earlier.trans a.earlier
  silence := b.silence.trans a.silence
  inSilent := b.inSilent.trans a.inSilent
  silentFor := b.silentFor.trans a.silentFor
  good := b.good.trans a.good
  bad := b.bad.trans a.bad
  activity := b.activity.trans a.activity

/-- What follows a change of the queues. -/
theorem SameLink.after {p q r : Port} (b : SameLink q r)
    (a : SameLink p q := by exact ⟨rfl, rfl, rfl, rfl, rfl, rfl, rfl, rfl⟩) : SameLink p r := a.trans b

/-- The state `t` differs from `s` in queues and ring OUT, and where a frame waited that is not plain, in the soft reset due
or in the continuity test. -/
structure Relayed (s t : State) : Prop where
  kept : Kept s t
  rest : t = { s with port := t.port, chip := t.chip, test := t.test }
  link : SameLink s.port t.port

theorem Relayed.refl (s : State) : Relayed s s := ⟨.refl s, rfl, .refl _⟩

theorem Relayed.trans {s t u : State} (a : Relayed s t) (b : Relayed t u) : Relayed s u where
  kept := a.kept.trans b.kept
  rest := b.rest.trans <|
    congrArg (fun x : State => { x with port := u.port, chip := u.chip, test := u.test }) a.rest
  link := a.link.trans b.link

theorem Relayed.ite {s t u : State} {c : Prop} [Decidable c] (a : Relayed s t) (b : Relayed s u) :
    Relayed s (if c then t else u) := by split <;> assumption

/-- In a quiet state the Ring Port alone differs. -/
theorem Relayed.eq_setPort {s t : State} (r : Relayed s t) (h : quiet s = true) : t = s.setPort t.port := by
  refine r.rest.trans ?_
  rw [r.kept.chip h, r.kept.test h]
  rfl

/-! ## The arbiter and the queues -/

theorem serve_rest (s : State) : serve s = { s with port := (serve s).port, test := (serve s).test } := by
  unfold serve
  repeat' split
  all_goals rfl

theorem sameLink_serve (s : State) : SameLink s.port (serve s).port := by
  unfold serve
  repeat' split
  all_goals exact ⟨rfl, rfl, rfl, rfl, rfl, rfl, rfl, rfl⟩

theorem serve_chip (s : State) : (serve s).chip = s.chip := by rw [serve_rest]

/-- What the arbiter leaves, in the form of `Relayed.rest`. -/
theorem serve_leaves (s : State) :
    serve s = { s with port := (serve s).port, chip := (serve s).chip, test := (serve s).test } := by
  refine (serve_rest s).trans ?_
  rw [serve_chip]

theorem relayed_serve (s : State) : Relayed s (serve s) where
  kept := kept_serve s
  rest := serve_leaves s
  link := sameLink_serve s

/-- A counter other than those of receipt counts. -/
theorem relayed_count (s : State) (f : Counters → Counters) (k : Kept s (s.count f))
    (h : ∀ c, (f c).good = c.good ∧ (f c).bad = c.bad ∧ (f c).activity = c.activity) : Relayed s (s.count f) := by
  refine ⟨k, ?_, ?_⟩
  all_goals
    unfold State.count
    split
  · rfl
  · rfl
  · exact .refl _
  · obtain ⟨good, bad, activity⟩ := h s.port.counters
    exact ⟨rfl, rfl, rfl, rfl, rfl, good, bad, activity⟩

theorem dropReport_rest (q : QFrame) (s : State) :
    dropReport q s =
      { s with port := (dropReport q s).port, chip := (dropReport q s).chip, test := (dropReport q s).test } := by
  unfold dropReport responseGone State.count
  repeat' split
  all_goals rfl

theorem sameLink_dropReport (q : QFrame) (s : State) : SameLink s.port (dropReport q s).port := by
  unfold dropReport responseGone State.count
  repeat' split
  all_goals exact ⟨rfl, rfl, rfl, rfl, rfl, rfl, rfl, rfl⟩

theorem relayed_offerReport (q : QFrame) (s : State) (h : q.softReset = false) (k : q.kind ≠ kindTest) :
    Relayed s (offerReport q s) := by
  refine ⟨kept_offerReport q s h k, ?_, ?_⟩
  all_goals by_cases room : insertCount s.port < Config.insertCapacity
  · rw [offerReport_of_room q room]
    exact serve_leaves _
  · rw [offerReport_of_full q room]
    exact dropReport_rest q s
  · rw [offerReport_of_room q room]
    exact (sameLink_serve _).after
  · rw [offerReport_of_full q room]
    exact sameLink_dropReport q s

theorem offerCommand_rest (q : QFrame) (s : State) : offerCommand q s =
    { s with port := (offerCommand q s).port, chip := (offerCommand q s).chip, test := (offerCommand q s).test } := by
  by_cases room : insertCount s.port < Config.insertCapacity
  · rw [offerCommand_of_room q room]
    exact serve_leaves _
  · rcases last : s.port.reports.getLast? with _ | r
    · rw [offerCommand_of_full q room last]
      unfold State.count
      split <;> rfl
    · rw [offerCommand_of_report q r room last]
      refine (serve_rest _).trans ?_
      rw [dropReport_rest, serve_chip]
      rfl

theorem sameLink_offerCommand (q : QFrame) (s : State) : SameLink s.port (offerCommand q s).port := by
  by_cases room : insertCount s.port < Config.insertCapacity
  · rw [offerCommand_of_room q room]
    exact (sameLink_serve _).after
  · rcases last : s.port.reports.getLast? with _ | r
    · rw [offerCommand_of_full q room last]
      unfold State.count
      split <;> exact ⟨rfl, rfl, rfl, rfl, rfl, rfl, rfl, rfl⟩
    · rw [offerCommand_of_report q r room last]
      exact ((sameLink_dropReport r _).trans (sameLink_serve _)).after

theorem relayed_offerCommand (q : QFrame) (s : State) (h : q.softReset = false) (k : q.kind ≠ kindTest) :
    Relayed s (offerCommand q s) :=
  ⟨kept_offerCommand q s h k, offerCommand_rest q s, sameLink_offerCommand q s⟩

theorem relayed_offerForward (bs : List Byte) (s : State) : Relayed s (offerForward bs s) := by
  by_cases room : s.port.forward.length < Config.forwardCapacity
  · have k := kept_offerForward bs s
    rw [offerForward_of_room bs room] at k ⊢
    exact ⟨k, serve_leaves _, (sameLink_serve _).after⟩
  · have k := kept_offerForward bs s
    rw [offerForward_of_full bs room] at k ⊢
    exact relayed_count s _ k fun _ => ⟨rfl, rfl, rfl⟩

/-! ## Notices and responses -/

theorem relayed_notice (c n : Nat) (f : List Byte) (s : State) : Relayed s (notice c n f s) :=
  relayed_offerReport _ s rfl (by simp [noticeFrame, kindNotice, kindTest])

theorem relayed_headNotice (c : Nat) (f : List Byte) (s : State) : Relayed s (headNotice c f s) := relayed_notice _ _ _ s

theorem relayed_tableNotice (c : Nat) (v : Validity) (x b : Nat) (s : State) : Relayed s (tableNotice c v x b s) :=
  relayed_headNotice _ _ s

theorem relayed_respond (r : Request) (c : Nat) (st : Status) (t i : Nat) (d : List Byte) (s : State) :
    Relayed s (respond r c st t i d s) := relayed_offerReport _ s rfl (by simp [kindResponse, kindTest])

theorem relayed_forwardFrame (restored : Bool) (bs : List Byte) (s : State) :
    Relayed s (forwardFrame restored bs s) := by
  cases restored
  · exact relayed_offerForward bs s
  · have k := kept_forwardFrame true bs s
    rw [forwardFrame_restored] at k ⊢
    refine ⟨k, ?_, ?_⟩
    · refine (serve_rest _).trans ?_
      rw [serve_chip]
      unfold enterForward enterReport dropReport responseGone State.count
      repeat' split
      all_goals rfl
    · refine SameLink.trans ?_ (sameLink_serve _)
      unfold enterForward enterReport dropReport responseGone State.count
      repeat' split
      all_goals exact ⟨rfl, rfl, rfl, rfl, rfl, rfl, rfl, rfl⟩

end Sys2Proof.Machine
end

section
/-!
The Ring Port's own events: what the arbiter serves (R13, R14), what an offer does (R11, R12), a frame that is bad or
stripped (R4 to R6), silence (R17, R18) and the resets (R19, R201).
-/

namespace Sys2Proof.Machine

open Sys2Proof

/-! ## The arbiter (R10, R11, R14) -/

/-- R10: the transmission of a frame that is no test frame touches the Ring Port alone. -/
theorem transmit_plain {q : QFrame} (s : State) (h : q.kind ≠ kindTest) :
    transmit q s = s.setPort { s.port with
      out := some ⟨frameBytes q.dest s.port.ownAddr q.kind s.port.sequence q.payload, q.softReset⟩
      mark := .insert
      sequence := (s.port.sequence + 1) % 256 } := by
  simp only [transmit, noteTestFrame, if_neg h]
  rfl

/-- R14: the forward queue is served where it alone holds frames, or the insert queue was served last. -/
theorem nextQueue_forward {p : Port} {f : List Byte} {fs : List (List Byte)} (hf : p.forward = f :: fs)
    (h : p.mark = .insert ∨ (p.commands = [] ∧ p.reports = [])) : nextQueue p = some .forward := by
  rcases h with mark | ⟨commands, reports⟩
  · simp only [nextQueue, hf, mark, List.isEmpty_cons]
    cases p.commands.isEmpty && p.reports.isEmpty <;> rfl
  · simp [nextQueue, hf, commands, reports]

/-- R14: the insert queue is served where it alone holds frames, or the forward queue was served last. -/
theorem nextQueue_insert {p : Port} (hi : p.commands ≠ [] ∨ p.reports ≠ [])
    (h : p.mark = .forward ∨ p.forward = []) : nextQueue p = some .insert := by
  have holds : (p.commands.isEmpty && p.reports.isEmpty) = false := by
    simpa [Decidable.or_iff_not_imp_left] using hi
  rcases h with mark | forward
  · simp only [nextQueue, holds, mark]
    cases p.forward.isEmpty <;> rfl
  · simp [nextQueue, holds, forward]

theorem serve_forward {s : State} {f : List Byte} {fs : List (List Byte)} (idle : s.port.out = none)
    (hf : s.port.forward = f :: fs) (h : s.port.mark = .insert ∨ (s.port.commands = [] ∧ s.port.reports = [])) :
    serve s = s.setPort { s.port with forward := fs, out := some ⟨f, false⟩, mark := .forward } := by
  simp only [serve, idle, nextQueue_forward hf h, hf]

theorem serve_command {s : State} {q : QFrame} {qs : List QFrame} (idle : s.port.out = none)
    (hq : s.port.commands = q :: qs) (h : s.port.mark = .forward ∨ s.port.forward = []) :
    serve s = transmit q (s.setPort { s.port with commands := qs }) := by
  simp only [serve, idle, nextQueue_insert (.inl (by simp [hq])) h, hq]

theorem serve_report {s : State} {q : QFrame} {qs : List QFrame} (idle : s.port.out = none)
    (hc : s.port.commands = []) (hq : s.port.reports = q :: qs) (h : s.port.mark = .forward ∨ s.port.forward = []) :
    serve s = transmit q (s.setPort { s.port with reports := qs }) := by
  simp only [serve, idle, nextQueue_insert (.inr (by simp [hq])) h, hc, hq]

theorem serve_nothing {s : State} (hf : s.port.forward = []) (hc : s.port.commands = []) (hr : s.port.reports = []) :
    serve s = s := serve_of_empty (by simp [nextQueue, hf, hc, hr])

/-! ## Offers (R11, R12) -/

theorem count_of_service {s : State} (f : Counters → Counters) (h : s.chip.testMode = false) :
    s.count f = s.setPort { s.port with counters := f s.port.counters } := by
  simp [State.count, h]

theorem count_of_test {s : State} (f : Counters → Counters) (h : s.chip.testMode = true) : s.count f = s := by
  simp [State.count, h]

theorem responseGone_plain {q : QFrame} (s : State) (h : q.softReset = false) : responseGone q s = s := by
  simp [responseGone, h]

/-- R12: the report-drop counter counts, in service (R208). -/
def dropCounted (s : State) : State :=
  s.count fun c => { c with reportDrop := satCount 255 c.reportDrop }

theorem dropReport_plain {q : QFrame} (s : State) (h : q.softReset = false) : dropReport q s = dropCounted s :=
  responseGone_plain _ h

/-- A count, in service and in the continuity test (R208), as the statements write it. -/
theorem dropCounted_eq (s : State) : dropCounted s = { s with port := { s.port with counters := { s.port.counters with
    reportDrop :=
      if s.chip.testMode = true then s.port.counters.reportDrop else min 255 (s.port.counters.reportDrop + 1) } } } := by
  cases test : s.chip.testMode
  · simp only [dropCounted, count_of_service _ test, satCount_eq_min]
    rfl
  · exact count_of_test _ test

theorem offerReport_busy {s : State} {x : TxFrame} (q : QFrame) (busy : s.port.out = some x)
    (room : s.port.commands.length + s.port.reports.length < 16) :
    offerReport q s = { s with port := { s.port with reports := s.port.reports ++ [q] } } := by
  rw [offerReport_of_room q room]
  exact serve_of_busy (f := x) busy

theorem offerCommand_busy {s : State} {x : TxFrame} (q : QFrame) (busy : s.port.out = some x)
    (room : s.port.commands.length + s.port.reports.length < 16) :
    offerCommand q s = { s with port := { s.port with commands := s.port.commands ++ [q] } } := by
  rw [offerCommand_of_room q room]
  exact serve_of_busy (f := x) busy

/-- R10, R14: a frame offered to an idle OUT with empty queues begins its transmission. -/
theorem offer_idle {s : State} (q : QFrame) (idle : s.port.out = none) (forward : s.port.forward = [])
    (commands : s.port.commands = []) (reports : s.port.reports = []) :
    offerReport q s = transmit q s ∧ offerCommand q s = transmit q s := by
  have room : insertCount s.port < Config.insertCapacity := by
    simp [insertCount, commands, reports, Config.insertCapacity]
  have begun : ∀ p : Port, p = s.port → transmit q (s.setPort p) = transmit q s := by
    rintro p rfl
    rfl
  constructor
  · rw [offerReport_of_room q room]
    exact (serve_report (q := q) (qs := []) (by exact idle) (by exact commands) (by simp [reports])
      (.inr (by exact forward))).trans (begun _ (by show { s.port with reports := [] } = s.port; rw [← reports]))
  · rw [offerCommand_of_room q room]
    exact (serve_command (q := q) (qs := []) (by exact idle) (by simp [commands]) (.inr (by exact forward))).trans
      (begun _ (by show { s.port with commands := [] } = s.port; rw [← commands]))

/-- Settles O18: an offer by the room in the queue, and by the arbiter on an idle OUT. -/
theorem insertQueueTakesFramesByClass : Obligations.InsertQueueTakesFramesByClass := by
  intro q s plain counted
  refine ⟨fun room x busy => ⟨offerReport_busy q busy room, offerCommand_busy q busy room⟩, fun full => ?full,
    fun kind idle forward commands reports => ?idle⟩
  case full =>
    have full : ¬insertCount s.port < Config.insertCapacity := Nat.not_lt.2 full
    refine ⟨?report, fun rs y x hr hy busy => ?displaces, fun hr => ?discarded⟩
    case report =>
      rw [offerReport_of_full q full, dropReport_plain s plain, dropCounted_eq]
    case displaces =>
      rw [offerCommand_of_report q y full (by simp [hr]), dropReport_plain _ hy, dropCounted_eq]
      refine (serve_of_busy (f := x) (by exact busy)).trans ?_
      simp only [hr, List.dropLast_concat]
      rfl
    case discarded =>
      rw [offerCommand_of_full q full (by simp [hr])]
      cases test : s.chip.testMode
      · simp only [count_of_service _ test, satCount_eq_min, counted, test]
        rfl
      · rw [count_of_test _ test]
        simp only [counted, test, if_true]
  case idle =>
    obtain ⟨report, command⟩ := offer_idle q idle forward commands reports
    rw [command, report, transmit_plain s kind, plain]
    exact ⟨rfl, rfl⟩

/-! ## The end of a transmission (R13) -/

/-- R13: a transmission has ended. -/
def outFreed (s : State) : State := s.setPort { s.port with out := none }

theorem endTransmission_plain {s : State} {x : TxFrame} (h : s.port.out = some x) (plain : x.softReset = false) :
    endTransmission s = serve (outFreed s) := by
  simp [endTransmission, outFreed, h, plain]

/-- Settles O19: the end of a transmission, then the arbiter by mark and class. -/
theorem transmissionEndServesAQueue : Obligations.TransmissionEndServesAQueue := by
  refine ⟨rfl, fun s x still busy plain => ?_⟩
  obtain ⟨due, waiting⟩ := (quiet_iff s).1 still
  have freed : exec .transmissionEnd s = finish (serve (outFreed s)) :=
    congrArg finish (endTransmission_plain busy plain)
  rw [freed]
  refine ⟨fun forward commands reports => ?nothing, fun f fs forward mark => ?forward, fun mark =>
    ⟨fun q qs commands => ?command, fun q qs commands reports => ?report⟩⟩
  case nothing =>
    rw [serve_nothing (s := outFreed s) forward commands reports]
    exact finish_ended due
  case forward =>
    rw [serve_forward (s := outFreed s) rfl forward mark]
    exact finish_ended due
  case command =>
    obtain ⟨unmarked, kind⟩ := waiting q (by simp [commands])
    rw [serve_command (s := outFreed s) rfl commands mark, transmit_plain _ kind, unmarked]
    exact finish_ended due
  case report =>
    obtain ⟨unmarked, kind⟩ := waiting q (by simp [reports])
    rw [serve_report (s := outFreed s) rfl commands reports mark, transmit_plain _ kind, unmarked]
    exact finish_ended due

/-! ## Bad frames, stripped frames, silence (R4, R6, R17, R18) -/

/-- R4: what makes a frame bad; the source's upper bound holds of every two bytes. -/
theorem isBad_iff (bytes : List Byte) : isBad bytes = true ↔
    bytes.length < 9 ∨ 32 < at8 bytes 6 ∨ bytes.length ≠ 9 + at8 bytes 6 ∨
      at16 bytes (7 + at8 bytes 6) ≠ crc16 (bytes.take (7 + at8 bytes 6)) ∨
      at16 bytes 2 = 0x0000 ∨ (0x8000 ≤ at16 bytes 2 ∧ at16 bytes 2 ≤ 0xFFFF) := by
  have bound : at16 bytes 2 ≤ 0xFFFF := by
    have high := (bytes.getD 2 0).isLt
    have low := (bytes.getD 3 0).isLt
    simp only [at16, at8]
    omega
  simp only [isBad, Bool.or_eq_true, decide_eq_true_eq, or_assoc, bound, and_true]
  rw [ne_comm (a := crc16 _)]

theorem isBad_false_iff (bytes : List Byte) : isBad bytes = false ↔
    ¬ (bytes.length < 9 ∨ 32 < at8 bytes 6 ∨ bytes.length ≠ 9 + at8 bytes 6 ∨
      at16 bytes (7 + at8 bytes 6) ≠ crc16 (bytes.take (7 + at8 bytes 6)) ∨
      at16 bytes 2 = 0x0000 ∨ (0x8000 ≤ at16 bytes 2 ∧ at16 bytes 2 ≤ 0xFFFF)) := by
  rw [← isBad_iff, Bool.not_eq_true]

theorem exec_frameReceived {bytes : List Byte} {s : State} (h : onRing s = true) :
    exec (.frameReceived bytes) s = finish (receive bytes s) := by
  obtain ⟨running, service⟩ := (onRing_iff s).1 h
  show finish (frameIn bytes s) = _
  simp [frameIn, running, service]

/-- R5: a valid frame is counted, ends IN SILENT and goes its way. -/
theorem receive_valid {bytes : List Byte} {s : State} (h : onRing s = true) (valid : isBad bytes = false) :
    receive bytes s = route s.port.inSilent bytes (received s) := by
  have counted : restartSilence (countGood s) = received s := by
    rw [countGood, count_of_service _ ((onRing_iff s).1 h).2]
    rfl
  simp [receive, valid, counted]

theorem exec_frameReceived_valid {bytes : List Byte} {s : State} (h : onRing s = true) (valid : isBad bytes = false) :
    exec (.frameReceived bytes) s = finish (route s.port.inSilent bytes (received s)) := by
  rw [exec_frameReceived h, receive_valid h valid]

theorem quiet_received (s : State) : quiet (received s) = quiet s := rfl

/-- R6: the sources that are stripped. -/
theorem inStripSet_iff (p : Port) (source : Nat) : inStripSet p source = true ↔
    source = p.ownAddr ∨ ∃ left, p.earlier = some (source, left) := by
  unfold inStripSet
  rcases p.earlier with _ | ⟨a, left⟩
  · simp
  · simp only [Bool.or_eq_true, decide_eq_true_eq, Option.some.injEq, Prod.mk.injEq, exists_and_left, exists_eq',
      and_true, eq_comm (a := source) (b := a)]

/-- A source is not stripped, as the statements say it. -/
theorem not_inStripSet {p : Port} {source : Nat} (other : source ≠ p.ownAddr)
    (earlier : ∀ e, p.earlier = some e → e.1 ≠ source) : inStripSet p source = false := by
  rw [Bool.eq_false_iff]
  intro stripped
  rcases (inStripSet_iff p source).1 stripped with own | ⟨left, old⟩
  · exact other own
  · exact earlier _ old rfl

/-- Settles O16: the strip set, and `finish` on what the stripped frame leaves. -/
theorem stripSetRemovesReturningFrames : Obligations.StripSetRemovesReturningFrames := by
  refine ⟨fun bytes s ring still valid source => ?frame, fun s a due earlier => ?expiry⟩
  case frame =>
    have stripped : inStripSet (received s).port (frameOf bytes).source = true := (inStripSet_iff _ _).2 source
    rw [exec_frameReceived_valid ring valid, route, if_pos stripped]
    refine ⟨fun heard => ?_, fun silent => ?_⟩
    · rw [heard]
      exact finish_ended (quiet_due still)
    · rw [silent]
      exact finish_ended_of_kept (kept_headNotice 0x18 [] (received s)) still
  case expiry =>
    have left : stripDue s = true := by simp [stripDue, earlier]
    show finish (if stripDue s then _ else s) = _
    rw [if_pos left]
    exact finish_ended due

/-- Settles O20: the silence limit, and the notice in service. -/
theorem silenceRaisesTheCondition : Obligations.SilenceRaisesTheCondition := by
  intro s running still heard limit u
  have due : silentDue s = true := by simp [silentDue, running, heard, Config.silenceLimit, limit]
  have raised : exec .inSilentRaised s = finish (silentNotice u) := by
    show finish (if silentDue s then raiseSilent s else s) = _
    rw [if_pos due]
    rfl
  rw [raised]
  refine ⟨fun service => ?_, fun test => ?_⟩
  · rw [silentNotice, if_neg (by simp [u, service])]
    exact finish_ended_of_kept (kept_headNotice 0x17 [] u) still
  · rw [silentNotice, if_pos test]
    exact finish_ended (quiet_due still)

/-! ## Resets (R19, R201, R208, R209) -/

/-- Settles O12: the reset state by its fields. -/
theorem resetLeavesTheStatedValues : Obligations.ResetLeavesTheStatedValues := by
  refine ⟨⟨rfl, rfl, rfl, rfl, rfl, rfl, rfl, rfl, rfl, rfl, rfl⟩, rfl, rfl, rfl, ⟨rfl, rfl, rfl, rfl⟩, rfl, rfl,
    ⟨rfl, rfl, rfl, rfl, fun r hr => ?fan⟩, rfl, fun id => ?table, rfl, rfl, rfl, rfl, rfl, rfl, rfl, rfl, rfl, rfl, rfl,
    by decide, rfl⟩
  case fan =>
    obtain rfl := List.eq_of_mem_replicate hr
    decide
  case table =>
    have same : State.reset.tables.get id = Table.reset id := by cases id <;> rfl
    rw [same]
    exact ⟨rfl, rfl, fun w hw => List.eq_of_mem_replicate hw⟩

/-- R185, R187: after a reset no output is asserted. -/
theorem ended_afterReset (addr : BitVec 6) (test : Bool) (pending : List Instr) (eeprom : Eeprom) (draws : Nat) :
    ended (State.afterReset addr test pending eeprom draws) = State.afterReset addr test pending eeprom draws := rfl

/-- R201: a SOFT RESET that is due leaves the post-reset state with ADDR read from the pins. -/
theorem finish_softReset {s : State} (due : s.chip.softResetDue = true) (service : s.chip.testMode = false) :
    finish s = .next (State.afterReset s.chip.pinAddr false s.pending s.eeprom s.draws) := by
  simp only [finish_eq, settle, due, softResetNow, service]
  rfl

/-- R209: the continuity test begins with test frame 0 on OUT. -/
def testBegun (addr : BitVec 6) (s : State) : State :=
  { State.afterReset addr true s.pending s.eeprom s.draws with
    tables := { TableStore.reset with port := ⟨.idle, []⟩ }
    port := { Port.reset addr with
      out := some ⟨frameBytes (0x7F00 + addr.toNat) (0x7F00 + addr.toNat) 0x5A 0 (testPayload 0), false⟩
      sequence := 1 }
    test := ⟨1, 0, 0, 0, [(0, 100)], 1, 10⟩ }

theorem noteTestFrame_first (dest : Nat) :
    noteTestFrame ⟨dest, kindTest, testPayload LoopTest.reset.number, false⟩ LoopTest.reset =
      ⟨1, 0, 0, 0, [(0, 100)], 0, 0⟩ := by
  have number : at16 (testPayload LoopTest.reset.number) 0 = 0 := by decide
  have sent : satCount 65535 LoopTest.reset.sent = 1 := by decide
  simp only [noteTestFrame, if_true, number, sent]
  rfl

/-- R209: the first test frame, offered as a reset ends. -/
theorem offerTestFrame_first {s : State} (port : s.port = .reset s.chip.strap) (test : s.test = .reset) :
    offerTestFrame s = { s with
      port := { Port.reset s.chip.strap with
        out := some ⟨frameBytes (0x7F00 + s.chip.strap.toNat) (0x7F00 + s.chip.strap.toNat) 0x5A 0 (testPayload 0), false⟩
        sequence := 1 }
      test := ⟨1, 0, 0, 0, [(0, 100)], 1, 10⟩ } := by
  have begun := fun q => (offer_idle (s := s) q (by rw [port]; rfl) (by rw [port]; rfl) (by rw [port]; rfl)
    (by rw [port]; rfl)).2
  simp only [offerTestFrame, begun, transmit, test, noteTestFrame_first, port]
  rfl

theorem endReset_test (addr : BitVec 6) (s : State) : endReset addr true s = testBegun addr s :=
  offerTestFrame_first rfl rfl

theorem finish_endReset (loop : Bool) (addr : BitVec 6) (s : State) : ∃ t, finish (endReset addr loop s) = .next t ∧
    (loop = false → t = State.afterReset addr false s.pending s.eeprom s.draws) ∧
    (loop = true → t = testBegun addr s) := by
  cases loop
  · exact ⟨_, finish_ended rfl, fun _ => ended_afterReset _ _ _ _ _, by simp⟩
  · rw [endReset_test]
    exact ⟨_, finish_ended rfl, by simp, fun _ => rfl⟩

/-- Settles O13: each reset command ends in `endReset` or `assertReset`. -/
theorem resetCommandsLeaveThePostResetState : Obligations.ResetCommandsLeaveThePostResetState := by
  unfold Obligations.ResetCommandsLeaveThePostResetState
  intro after loop addr s
  have ends : ∀ l, ∃ t, finish (endReset addr l s) = .next t ∧ after l addr s t := fun l => by
    obtain ⟨t, next, service, test⟩ := finish_endReset l addr s
    refine ⟨t, next, service, fun h => ?_⟩
    obtain rfl := test h
    exact ⟨_, rfl, rfl, rfl, rfl⟩
  refine ⟨ends loop, fun held => ?_, _, finish_ended rfl, rfl, rfl⟩
  show ∃ t, finish (if s.chip.inReset then endReset addr s.chip.testMode s else s) = .next t ∧ _
  rw [if_pos held]
  exact ends _

end Sys2Proof.Machine
end

section
/-!
Frames on ring IN: what the Frame Classifier makes of a valid frame (R22 to R34), and what no frame touches.
-/

namespace Sys2Proof.Machine

open Sys2Proof

/-! ## What a valid frame touches -/

/-- What a frame on ring IN may change: queues and counters of the Ring Port, the dispatched frames, and what an
interception changes of authority. -/
structure RingTouched (s t : State) : Prop where
  quiet : quiet s = true → Machine.quiet t = true
  alone : Machine.quiet s = true → t = { s with
    dispatched := t.dispatched
    port := t.port
    auth := { s.auth with
      holdRemaining := t.auth.holdRemaining
      lastHold := t.auth.lastHold
      intercepted := t.auth.intercepted } }
  link : SameLink s.port t.port

theorem RingTouched.refl (s : State) : RingTouched s s := ⟨id, fun _ => rfl, .refl _⟩

theorem RingTouched.trans {s t u : State} (a : RingTouched s t) (b : RingTouched t u) : RingTouched s u where
  quiet := fun h => b.quiet (a.quiet h)
  alone := fun h => (b.alone (a.quiet h)).trans <| congrArg (fun x : State => { x with
    dispatched := u.dispatched
    port := u.port
    auth := { x.auth with
      holdRemaining := u.auth.holdRemaining
      lastHold := u.auth.lastHold
      intercepted := u.auth.intercepted } }) (a.alone h)
  link := a.link.trans b.link

theorem RingTouched.ite {s t u : State} {c : Prop} [Decidable c] (a : RingTouched s t) (b : RingTouched s u) :
    RingTouched s (if c then t else u) := by split <;> assumption

theorem Relayed.touched {s t : State} (r : Relayed s t) : RingTouched s t where
  quiet := r.kept.quiet
  alone := fun h => by rw [r.eq_setPort h]; rfl
  link := r.link

/-- A counter other than those of receipt counts. -/
theorem touched_count (s : State) (f : Counters → Counters)
    (h : ∀ c, (f c).good = c.good ∧ (f c).bad = c.bad ∧ (f c).activity = c.activity) : RingTouched s (s.count f) := by
  unfold State.count
  split
  · exact .refl s
  · obtain ⟨good, bad, activity⟩ := h s.port.counters
    exact ⟨id, fun _ => rfl, rfl, rfl, rfl, rfl, rfl, good, bad, activity⟩

theorem touched_countMismatch (s : State) : RingTouched s (countMismatch s) := touched_count s _ fun _ => ⟨rfl, rfl, rfl⟩
theorem touched_countUnknown (s : State) : RingTouched s (countUnknown s) := touched_count s _ fun _ => ⟨rfl, rfl, rfl⟩
theorem touched_dispatch (d : Dispatch) (s : State) : RingTouched s (dispatch d s) := ⟨id, fun _ => rfl, .refl _⟩

theorem touched_setAuth (s : State) (x : Authority)
    (h : x.state = s.auth.state ∧ x.dryRun = s.auth.dryRun) : RingTouched s (s.setAuth x) := by
  obtain ⟨state, holdRemaining, lastHold, intercepted, dryRun⟩ := x
  obtain ⟨rfl, rfl⟩ := h
  exact ⟨id, fun _ => rfl, .refl _⟩

/-- R182: a hold is a frame of the command class, and two fields of authority. -/
theorem touched_claimHold (s : State) : RingTouched s (claimHold s) := by
  have offered := relayed_offerCommand ⟨noticeDest s, kindHold, [byte s.params.holdTime, byte (headNumber s)], false⟩ s
    rfl (by simp [kindHold, kindTest])
  refine offered.touched.trans (touched_setAuth _ _ ?_)
  rw [offered.rest]
  exact ⟨rfl, rfl⟩

theorem touched_interception (s : State) : RingTouched s (interception s) :=
  (touched_setAuth s { s.auth with intercepted := satCount 255 s.auth.intercepted } ⟨rfl, rfl⟩).trans
    (.ite (touched_claimHold _) (.refl _))

theorem touched_observe (f : Frame) (s : State) : RingTouched s (observe f s) := by
  unfold observe
  split
  · exact touched_countUnknown s
  · split
    · exact touched_countMismatch s
    · split
      · split
        · exact touched_countMismatch s
        · exact touched_dispatch _ s
      · exact .refl s

theorem touched_useOrCount (f : Frame) (s : State) : RingTouched s (useOrCount f s) :=
  .ite (.refl s) (.ite (touched_countUnknown s) (.ite (touched_observe f s) (.refl s)))

theorem touched_dispatchRequest (f : Frame) (l : Lookup) (s : State) : RingTouched s (dispatchRequest f l s) :=
  .ite ((touched_countMismatch s).trans (touched_dispatch _ _)) (touched_dispatch _ s)

theorem touched_dispatchCentre (f : Frame) (s : State) : RingTouched s (dispatchCentre f s) := by
  unfold dispatchCentre
  split
  · split
    · exact touched_countMismatch s
    · exact touched_dispatch _ s
  · exact touched_countMismatch s

theorem touched_consume (f : Frame) (s : State) : RingTouched s (consume f s) :=
  .ite (.refl s) <| .ite (.ite (touched_dispatchRequest f _ s) (.refl s)) <|
    .ite (touched_dispatchRequest f _ s) <| .ite (touched_dispatchCentre f s) (touched_useOrCount f s)

theorem touched_restoredNotice (restored : Bool) (s : State) : RingTouched s (restoredNotice restored s) :=
  .ite (relayed_headNotice _ _ s).touched (.refl s)

theorem touched_classify (restored : Bool) (bytes : List Byte) (f : Frame) (s : State) :
    RingTouched s (classify restored bytes f s) :=
  .ite (relayed_forwardFrame _ _ s).touched <|
    .ite ((touched_restoredNotice restored s).trans (touched_interception _))
      ((touched_useOrCount f s).trans (relayed_forwardFrame _ _ _).touched)

theorem touched_route (restored : Bool) (bytes : List Byte) (s : State) : RingTouched s (route restored bytes s) :=
  .ite (touched_restoredNotice _ s) <|
    .ite ((touched_restoredNotice _ s).trans (touched_consume _ _)) (touched_classify _ _ _ s)

/-- Settles O15: what the route leaves of the frame's own count. -/
theorem validFrameIsCountedAndTouchesTheRingAlone : Obligations.ValidFrameIsCountedAndTouchesTheRingAlone := by
  intro bytes s ring still valid
  have went := touched_route s.port.inSilent bytes (received s)
  refine ⟨ended (route s.port.inSilent bytes (received s)), ?_, went.link.good, went.link.activity, went.link.bad,
    went.link.silence, went.link.inSilent, went.link.ownAddr, ?_⟩
  · rw [exec_frameReceived_valid ring ((isBad_false_iff bytes).2 valid)]
    exact finish_ended (quiet_due (went.quiet still))
  · rw [went.alone still]
    rfl

/-- Settles O14: a bad frame by its bytes, and a valid one by what the route leaves. -/
theorem badFrameIsOnlyCounted : Obligations.BadFrameIsOnlyCounted := by
  intro bytes s ring due bad
  refine ⟨fun h => ?bad, fun h => ⟨(isBad_false_iff bytes).2 h, ?valid⟩⟩
  case bad =>
    have counted : receive bytes s = { s with port := { s.port with counters := { s.port.counters with
        bad := min 255 (s.port.counters.bad + 1) } } } := by
      rw [receive, if_pos ((isBad_iff bytes).2 h), countBad, count_of_service _ ((onRing_iff s).1 ring).2]
      simp only [satCount_eq_min]
      rfl
    rw [exec_frameReceived ring, counted]
    exact finish_ended due
  case valid =>
    refine ⟨settle (route s.port.inSilent bytes (received s)),
      exec_frameReceived_valid ring ((isBad_false_iff bytes).2 h), fun still => ?_⟩
    have went := touched_route s.port.inSilent bytes (received s)
    rw [settle_of_none_due (quiet_due (went.quiet still))]
    exact ⟨went.link.bad, went.link.activity, went.link.silence⟩

/-! ## Forwarding (R9, R14, R18) -/

/-- What a frame leaves of the forward queue and its overrun counter. -/
def passed (forward : List (List Byte)) (overrun : Nat) (s : State) : State :=
  { s with port := { s.port with forward := forward, counters := { s.port.counters with forwardOverrun := overrun } } }

/-- R9: a frame forwarded behind a busy OUT. -/
theorem offerForward_busy {s : State} {x : TxFrame} (bytes : List Byte) (busy : s.port.out = some x)
    (room : s.port.forward.length < 8) :
    offerForward bytes s = passed (s.port.forward ++ [bytes]) s.port.counters.forwardOverrun s := by
  rw [offerForward_of_room bytes room]
  exact serve_of_busy (f := x) busy

/-- R9: a frame that finds 8 waiting is dropped and counted. -/
theorem offerForward_full {s : State} (bytes : List Byte) (service : s.chip.testMode = false)
    (full : 8 ≤ s.port.forward.length) :
    offerForward bytes s = passed s.port.forward (min 255 (s.port.counters.forwardOverrun + 1)) s := by
  rw [offerForward_of_full bytes (Nat.not_lt.2 full), count_of_service _ service]
  simp only [satCount_eq_min]
  rfl

/-- R14, R18: a forwarded frame that ended IN SILENT, with its notice, where nothing waits. -/
theorem forwardFrame_restored_empty {s : State} (bytes : List Byte) (forward : s.port.forward = [])
    (commands : s.port.commands = []) (reports : s.port.reports = []) :
    forwardFrame true bytes s = serve { s with port := { s.port with
      forward := [bytes], reports := [report (noticeDest s) 0x49 [0x18, byte (headNumber s)]] } } := by
  have room : insertCount s.port < Config.insertCapacity := by
    simp [insertCount, commands, reports, Config.insertCapacity]
  have waits : s.port.forward.length < Config.forwardCapacity := by simp [forward, Config.forwardCapacity]
  rw [forwardFrame_restored, enterReport, if_pos room, enterForward, if_pos (by exact waits)]
  simp only [State.setPort_port, forward, reports, List.nil_append]
  rfl

/-- R8, R9: a frame from outside the strip set that is not addressed to the part. -/
theorem route_elsewhere {restored : Bool} {bytes : List Byte} {s : State}
    (source : inStripSet s.port (at16 bytes 2) = false) (dest : at16 bytes 0 ≠ s.port.ownAddr) :
    route restored bytes s = classify restored bytes (frameOf bytes) s := by
  rw [route, if_neg (by exact Bool.eq_false_iff.1 source), if_neg (by exact dest)]

/-- R8: a frame from outside the strip set that is addressed to the part. -/
theorem route_addressed {restored : Bool} {bytes : List Byte} {s : State}
    (source : inStripSet s.port (at16 bytes 2) = false) (dest : at16 bytes 0 = s.port.ownAddr) :
    route restored bytes s = consume (frameOf bytes) (restoredNotice restored s) := by
  rw [route, if_neg (by exact Bool.eq_false_iff.1 source), if_pos (by exact dest)]

/-- R32, R33: where no frame is examined. -/
theorem classify_unexamined {restored : Bool} {bytes : List Byte} {f : Frame} {s : State}
    (h : s.auth.state = .starting ∨ s.tables.geometryValid = false) :
    classify restored bytes f s = forwardFrame restored bytes s := by
  rw [classify, if_pos]
  rcases h with starting | geometry
  · simp [starting]
  · simp [geometryValid, geometry]

/-- Settles O17: the route of a frame that no block examines, by the forward queue and the arbiter. -/
theorem unexaminedFramesAreForwarded : Obligations.UnexaminedFramesAreForwarded := by
  refine ⟨?restored, ?plain⟩
  case restored =>
    intro bytes s ring still valid silent source earlier dest unexamined idle forward commands reports restored
    have due := quiet_due still
    have stripped := not_inStripSet (p := (received s).port) source earlier
    have entered : exec (.frameReceived bytes) s = finish (serve { received s with port := { (received s).port with
        forward := [bytes], reports := [restored] } }) := by
      rw [exec_frameReceived_valid ring valid, silent, route_elsewhere stripped dest, classify_unexamined (s := received s) unexamined,
        forwardFrame_restored_empty bytes (by exact forward) (by exact commands) (by exact reports)]
      rfl
    rw [entered]
    refine ⟨fun mark => ?_, fun mark => ?_⟩
    · rw [serve_forward (f := bytes) (fs := s.port.forward) (by exact idle) (by rw [forward]) (.inl (by exact mark))]
      exact finish_ended due
    · rw [serve_report (q := restored) (qs := s.port.reports) (by exact idle) (by exact commands) (by rw [reports])
        (.inl (by exact mark)), transmit_plain _ (by simp [restored, report, kindTest])]
      exact finish_ended due
  case plain =>
    intro bytes s ring still valid heard source earlier
    have due := quiet_due still
    have stripped := not_inStripSet (p := (received s).port) source earlier
    have service := ((onRing_iff s).1 ring).2
    rw [exec_frameReceived_valid ring valid, heard]
    refine ⟨fun dest unexamined => ?forwarded, fun dest starting => ?removed⟩
    case forwarded =>
      rw [route_elsewhere stripped dest, classify_unexamined (s := received s) unexamined, forwardFrame_plain]
      refine ⟨fun x busy room => ?_, fun full => ?_, fun idle forward commands reports => ?_⟩
      · rw [offerForward_busy bytes (by exact busy) (by exact room)]
        exact finish_ended due
      · rw [offerForward_full (s := received s) bytes service (by exact full)]
        exact finish_ended due
      · have room : (received s).port.forward.length < Config.forwardCapacity := by
          show s.port.forward.length < 8
          simp [forward]
        rw [offerForward_of_room bytes room, serve_forward (f := bytes) (fs := s.port.forward) (by exact idle)
          (by show s.port.forward ++ [bytes] = _; simp [forward]) (.inr ⟨by exact commands, by exact reports⟩)]
        exact finish_ended due
    case removed =>
      rw [route_addressed stripped dest, consume, if_pos (by exact starting)]
      exact finish_ended due

end Sys2Proof.Machine
end

section
/-!
The Frame Classifier on frames it examines: the source lookup (R22), frames of the observation kinds (R23 to R28), and
the frames addressed to the part (R29, R30, R33, R34).
-/

namespace Sys2Proof.Machine

open Sys2Proof

/-! ## Source lookup (R22) -/

/-- The first number below a bound that meets a test is the first that has the property tested. -/
theorem find?_range_iff {n : Nat} {p : Nat → Bool} {P : Nat → Prop} (h : ∀ i, P i ↔ i < n ∧ p i = true) (i : Nat) :
    (List.range n).find? p = some i ↔ P i ∧ ∀ j < i, ¬ P j := by
  rw [List.find?_range_eq_some, List.mem_range]
  constructor
  · rintro ⟨holds, below, first⟩
    refine ⟨(h i).2 ⟨below, holds⟩, fun j hj hP => ?_⟩
    have fails := first j hj
    rw [((h j).1 hP).2] at fails
    cases fails
  · rintro ⟨hP, first⟩
    obtain ⟨below, holds⟩ := (h i).1 hP
    refine ⟨holds, below, fun j hj => ?_⟩
    have fails : ¬ p j = true := fun hp => first j hj ((h j).2 ⟨hj.trans below, hp⟩)
    simpa using fails

theorem find?_range_none {n : Nat} {p : Nat → Bool} {P : Nat → Prop} (h : ∀ i, P i ↔ i < n ∧ p i = true) :
    (List.range n).find? p = none ↔ ∀ i, ¬ P i := by
  rw [List.find?_range_eq_none]
  constructor
  · intro fails i hP
    obtain ⟨below, holds⟩ := (h i).1 hP
    have := fails i below
    rw [holds] at this
    cases this
  · intro none_holds i below
    have fails : ¬ p i = true := fun hp => none_holds i ((h i).2 ⟨below, hp⟩)
    simpa using fails

/-- R22: a station entry that is in use has the address. -/
def isSourceStation (t : TableStore) (source i : Nat) : Prop :=
  i < t.stations.count ∧ at8 (t.stations.fields i) 0 = 1 ∧ stationAddr t i = source

/-- R22: a fan entry below the loaded count has the drive address. -/
def isSourceDrive (t : TableStore) (source f : Nat) : Prop := f < t.fans.count ∧ fanAddr t f = source

theorem isSourceStation_iff (t : TableStore) (source i : Nat) : isSourceStation t source i ↔
    i < t.stations.count ∧ (stationInUse t i && decide (stationAddr t i = source)) = true := by
  simp only [isSourceStation, stationInUse, Bool.and_eq_true, decide_eq_true_eq]
  constructor
  · rintro ⟨below, enabled, address⟩; exact ⟨below, ⟨below, enabled⟩, address⟩
  · rintro ⟨below, ⟨_, enabled⟩, address⟩; exact ⟨below, enabled, address⟩

theorem isSourceDrive_iff (t : TableStore) (source f : Nat) : isSourceDrive t source f ↔
    f < t.fans.count ∧ decide (fanAddr t f = source) = true := by
  simp only [isSourceDrive, decide_eq_true_eq]

/-- R22: the first station in use with the address decides, else the lowest fan, else the source is unknown. -/
theorem lookupSource_of_station {t : TableStore} {source i : Nat} (h : isSourceStation t source i)
    (first : ∀ j < i, ¬ isSourceStation t source j) :
    lookupSource t source = match stationRole t i with
      | some r => .station i r
      | none => .unknown := by
  unfold lookupSource
  rw [(find?_range_iff (isSourceStation_iff t source) i).2 ⟨h, first⟩] <;> rfl

theorem lookupSource_of_drive {t : TableStore} {source f : Nat} (none_station : ∀ i, ¬ isSourceStation t source i)
    (h : isSourceDrive t source f) (first : ∀ g < f, ¬ isSourceDrive t source g) :
    lookupSource t source = .drive f := by
  unfold lookupSource
  rw [(find?_range_none (isSourceStation_iff t source)).2 none_station,
    (find?_range_iff (isSourceDrive_iff t source) f).2 ⟨h, first⟩]

theorem lookupSource_of_none {t : TableStore} {source : Nat} (none_station : ∀ i, ¬ isSourceStation t source i)
    (none_drive : ∀ f, ¬ isSourceDrive t source f) : lookupSource t source = .unknown := by
  unfold lookupSource
  rw [(find?_range_none (isSourceStation_iff t source)).2 none_station,
    (find?_range_none (isSourceDrive_iff t source)).2 none_drive]

/-! ## What the classifier leaves (R15, R26, R35) -/

/-- What the classifier leaves of its two counters and of the dispatched frames. -/
def noted (unknown mismatch : Nat) (dispatched : List Dispatch) (s : State) : State :=
  { s with
    dispatched := dispatched
    port := { s.port with counters := { s.port.counters with unknownSource := unknown, roleMismatch := mismatch } } }

theorem countUnknown_eq {s : State} (service : s.chip.testMode = false) : countUnknown s =
    noted (min 255 (s.port.counters.unknownSource + 1)) s.port.counters.roleMismatch s.dispatched s := by
  rw [countUnknown, count_of_service _ service]
  simp only [satCount_eq_min]
  rfl

theorem countMismatch_eq {s : State} (service : s.chip.testMode = false) : countMismatch s =
    noted s.port.counters.unknownSource (min 255 (s.port.counters.roleMismatch + 1)) s.dispatched s := by
  rw [countMismatch, count_of_service _ service]
  simp only [satCount_eq_min]
  rfl

theorem dispatch_eq (d : Dispatch) (s : State) : dispatch d s =
    noted s.port.counters.unknownSource s.port.counters.roleMismatch (s.dispatched ++ [d]) s := rfl

/-- R24: the destinations accepted for use. -/
theorem destAccepted_iff (t : TableStore) (own dest : Nat) : destAccepted t own dest = true ↔
    dest = own ∨ dest = 0xFFFF ∨ (0x8000 ≤ dest ∧ dest ≤ 0xFFFE ∧
      at8 (t.hash.fields (crc16 [byte (dest / 256), byte dest] % 64)) 0 = 1) := by
  simp only [destAccepted, Bool.or_eq_true, Bool.and_eq_true, decide_eq_true_eq, or_assoc, and_assoc]
  exact Iff.rfl

/-! ## Observation frames (R23 to R28) -/

/-- R26, R28: an observation frame from a known source, by its use kind, destination and form. -/
theorem observe_known {f : Frame} {l : Lookup} {s : State} (looked : lookupSource s.tables f.source = l)
    (known : l ≠ .unknown) : observe f s = match useIndex f.kind l with
      | none => countMismatch s
      | some i =>
        if destAccepted s.tables s.port.ownAddr f.dest then
          match observationCommand f.kind i f.payload with
          | none => countMismatch s
          | some c => dispatch ⟨f, l, some c⟩ s
        else s := by
  unfold observe
  rw [looked]
  cases l with
  | station i r => rfl
  | drive f => rfl
  | unknown => exact absurd rfl known

theorem observe_unknown {f : Frame} {s : State} (h : lookupSource s.tables f.source = .unknown) :
    observe f s = countUnknown s := by
  unfold observe
  rw [h]

/-- The kinds of R23. -/
theorem isObservation_iff (kind : Nat) : isObservation kind = true ↔ kind ∈ [0x10, 0x11, 0x12, 0x13, 0x20, 0x31] := by
  simp [isObservation, kindVelocity, kindOpacity, kindTemperature, kindHeatLine, kindTrain, kindFanStatus, or_assoc]

/-- The kinds of R30. -/
theorem isCentreKind_iff (kind : Nat) : isCentreKind kind = true ↔ kind ∈ [0x40, 0x41, 0x42, 0x43] := by
  simp [isCentreKind, kindDeclare, kindClear, kindRelease, kindResume, or_assoc]

theorem isCentreKind_of_observation {kind : Nat} (h : kind ∈ [0x10, 0x11, 0x12, 0x13, 0x20, 0x31]) :
    isCentreKind kind = false := by
  rw [Bool.eq_false_iff, ne_eq, isCentreKind_iff]
  intro centre
  simp only [List.mem_cons, List.not_mem_nil, or_false] at h centre
  omega

/-- R25 to R28, R34: an observation frame is counted, passed over or dispatched. -/
theorem useOrCount_observation {f : Frame} {l : Lookup} {s : State} (service : s.chip.testMode = false)
    (looked : lookupSource s.tables f.source = l) (kind : f.kind ∈ [0x10, 0x11, 0x12, 0x13, 0x20, 0x31]) :
    let unknowns := s.port.counters.unknownSource
    let mismatches := s.port.counters.roleMismatch
    ∃ unknown mismatch dispatched, useOrCount f s = noted unknown mismatch dispatched s ∧
      (s.params.passAll = true ∨ l = .unknown →
        unknown = min 255 (unknowns + 1) ∧ mismatch = mismatches ∧ dispatched = s.dispatched) ∧
      (s.params.passAll = false → l ≠ .unknown →
        useIndex f.kind l = none ∨ (destAccepted s.tables s.port.ownAddr f.dest = true ∧
          ∃ i, useIndex f.kind l = some i ∧ observationCommand f.kind i f.payload = none) →
        mismatch = min 255 (mismatches + 1) ∧ unknown = unknowns ∧ dispatched = s.dispatched) ∧
      (s.params.passAll = false → ∀ i, useIndex f.kind l = some i →
        ¬ destAccepted s.tables s.port.ownAddr f.dest = true →
        mismatch = mismatches ∧ unknown = unknowns ∧ dispatched = s.dispatched) ∧
      (s.params.passAll = false → ∀ i c, useIndex f.kind l = some i →
        destAccepted s.tables s.port.ownAddr f.dest = true → observationCommand f.kind i f.payload = some c →
        mismatch = mismatches ∧ unknown = unknowns ∧ dispatched = s.dispatched ++ [⟨f, l, some c⟩]) := by
  intro unknowns mismatches
  have examined : useOrCount f s = if s.params.passAll = true then countUnknown s else observe f s := by
    rw [useOrCount, isCentreKind_of_observation kind, (isObservation_iff f.kind).2 kind]
    rfl
  by_cases pass : s.params.passAll = true
  case pos =>
    rw [examined, if_pos pass, countUnknown_eq service]
    exact ⟨_, _, _, rfl, by simp [unknowns, mismatches], by simp [pass], by simp [pass], by simp [pass]⟩
  rw [examined, if_neg pass]
  by_cases source : l = .unknown
  case pos =>
    rw [observe_unknown (looked.trans source), countUnknown_eq service]
    exact ⟨_, _, _, rfl, by simp [unknowns, mismatches], by simp [source], by simp [source, useIndex],
      by simp [source, useIndex]⟩
  rw [observe_known looked source]
  rcases use : useIndex f.kind l with _ | i
  case none =>
    refine ⟨_, _, _, countMismatch_eq service, by simp [pass, source], by simp [unknowns, mismatches], by simp, by simp⟩
  by_cases accepted : destAccepted s.tables s.port.ownAddr f.dest = true
  case neg =>
    exact ⟨unknowns, mismatches, s.dispatched, if_neg accepted, by simp [pass, source], by simp [accepted],
      by simp, by simp [accepted]⟩
  rcases form : observationCommand f.kind i f.payload with _ | c
  case none =>
    refine ⟨unknowns, min 255 (mismatches + 1), s.dispatched, ?malformed, by simp [pass, source], fun _ _ _ => ⟨rfl, rfl, rfl⟩, by simp [accepted],
      fun _ i' c' hi _ hc => ?wellFormed⟩
    case malformed =>
      simp only [accepted, if_true, form]
      exact countMismatch_eq service
    case wellFormed =>
      obtain rfl : i = i' := by simpa using hi
      simp [form] at hc
  case some =>
    refine ⟨unknowns, mismatches, s.dispatched ++ [⟨f, l, some c⟩], ?wellFormed, by simp [pass, source], by simp [form], by simp [accepted],
      fun _ i' c' hi _ hc => ?dispatched⟩
    case wellFormed =>
      simp only [accepted, if_true, form]
      exact dispatch_eq _ s
    case dispatched =>
      obtain rfl : i = i' := by simpa using hi
      obtain rfl : c = c' := by simpa [form] using hc
      exact ⟨rfl, rfl, rfl⟩

/-- R8, R9, R25: where a frame that was examined goes, OUT being busy unless it is addressed to the part. -/
theorem route_examined {bytes : List Byte} {s : State} (service : s.chip.testMode = false)
    (running : s.auth.state ≠ .starting) (geometry : s.tables.geometryValid = true)
    (source : inStripSet s.port (at16 bytes 2) = false)
    (request : at16 bytes 0 = s.port.ownAddr → at8 bytes 4 ≠ kindRequest ∧ isCentreKind (at8 bytes 4) = false)
    (free : at16 bytes 0 ≠ s.port.ownAddr → intercepts s (frameOf bytes) = false)
    (out : at16 bytes 0 = s.port.ownAddr ∨ s.port.out ≠ none) {unknown mismatch : Nat} {dispatched : List Dispatch}
    (used : useOrCount (frameOf bytes) s = noted unknown mismatch dispatched s) :
    ∃ forward overrun, route false bytes s = passed forward overrun (noted unknown mismatch dispatched s) ∧
      (at16 bytes 0 = s.port.ownAddr → forward = s.port.forward ∧ overrun = s.port.counters.forwardOverrun) ∧
      (at16 bytes 0 ≠ s.port.ownAddr → s.port.forward.length < 8 →
        forward = s.port.forward ++ [bytes] ∧ overrun = s.port.counters.forwardOverrun) ∧
      (at16 bytes 0 ≠ s.port.ownAddr → 8 ≤ s.port.forward.length →
        forward = s.port.forward ∧ overrun = min 255 (s.port.counters.forwardOverrun + 1)) := by
  by_cases dest : at16 bytes 0 = s.port.ownAddr
  case pos =>
    obtain ⟨other, centre⟩ := request dest
    refine ⟨s.port.forward, s.port.counters.forwardOverrun, ?_, by simp, by simp [dest], by simp [dest]⟩
    rw [route_addressed source dest, consume, if_neg (by exact running), if_neg (by simp [restoredNotice, geometryValid, geometry]),
      if_neg (by exact other), if_neg (by exact Bool.eq_false_iff.1 centre)]
    exact used
  case neg =>
    obtain ⟨x, busy⟩ := Option.ne_none_iff_exists'.1 (out.resolve_left dest)
    have forwarded : route false bytes s = offerForward bytes (noted unknown mismatch dispatched s) := by
      rw [route_elsewhere source dest, classify, if_neg (by simp [running, geometryValid, geometry]),
        if_neg (by simp [free dest]), used, forwardFrame_plain]
    rw [forwarded]
    by_cases room : s.port.forward.length < 8
    · exact ⟨_, _, offerForward_busy bytes (by exact busy) (by exact room), by simp [dest], fun _ _ => ⟨rfl, rfl⟩,
        fun _ full => absurd room (Nat.not_lt.2 full)⟩
    · exact ⟨_, _, offerForward_full bytes (by exact service) (by exact Nat.not_lt.1 room), by simp [dest],
        fun _ h => absurd h room, fun _ _ => ⟨rfl, rfl⟩⟩

/-- R27: a frame of another kind than FAN COMMAND is not intercepted. -/
theorem intercepts_other {f : Frame} (s : State) (h : f.kind ≠ kindFanCommand) : intercepts s f = false := by
  simp [intercepts, isManualCommand, h]

/-- R23: the use kinds of the roles, as the statements list them. -/
theorem useIndex_station {kind i : Nat} {r : Role} {k : Nat} (used : kind ≠ 0)
    (h : useKind r = if k = 0 then none else some k) :
    useIndex kind (.station i r) = if k = kind then some i else none := by
  simp only [useIndex, h]
  by_cases k0 : k = 0
  · simp [k0, used.symm]
  · simp [k0]

/-- Settles O22: the lookup, the use or the count, and the forwarding, each by its lemma. -/
theorem observationIsUsedOrCounted : Obligations.ObservationIsUsedOrCounted := by
  intro bytes l s serves valid geometry heard earlier source kinds out dest kind isStation isDrive useKinds found use
    accepted payload
  obtain ⟨⟨_, service, running⟩, still⟩ := (serving_iff s).1 serves
  have looked : lookupSource s.tables (at16 bytes 2) = l := by
    rcases found with ⟨i, r, h, first, role, rfl⟩ | ⟨i, h, first, role, rfl⟩ | ⟨none_station, f, h, first, rfl⟩ |
        ⟨none_station, none_drive, rfl⟩
    · rw [lookupSource_of_station h first, role]
    · rw [lookupSource_of_station h first, role]
    · exact lookupSource_of_drive none_station h first
    · exact lookupSource_of_none none_station none_drive
  have kind_ne : kind ≠ 0 := by
    rintro h
    simp only [kind] at h
    simp [h] at kinds
  have use_eq : use = useIndex kind l := by
    simp only [use]
    cases l with
    | unknown => rfl
    | drive f => rfl
    | station i r =>
      refine (useIndex_station kind_ne ?_).symm
      cases r <;> rfl
  have accepted_iff : accepted ↔ destAccepted s.tables s.port.ownAddr dest = true :=
    (destAccepted_iff s.tables s.port.ownAddr dest).symm
  refine ⟨looked, ?_⟩
  obtain ⟨unknown, mismatch, dispatched, used, counted, failed, passedOver, taken⟩ :=
    useOrCount_observation (f := frameOf bytes) (s := received s) service looked kinds
  have centre := isCentreKind_of_observation kinds
  have other : at8 bytes 4 ≠ kindRequest ∧ at8 bytes 4 ≠ kindFanCommand := by
    simp only [List.mem_cons, List.not_mem_nil, or_false] at kinds
    simp only [kindRequest, kindFanCommand]
    omega
  obtain ⟨forward, overrun, went, own, room, full⟩ := route_examined (s := received s) service running geometry
    (not_inStripSet source earlier) (fun _ => ⟨other.1, centre⟩) (fun _ => intercepts_other _ other.2) out used
  refine ⟨ended (passed forward overrun (noted unknown mismatch dispatched (received s))), ?_, own, room, full, counted,
    ?_, ?_, ?_, rfl⟩
  · rw [exec_frameReceived_valid (serving_onRing serves) valid, heard, went]
    exact finish_ended (quiet_due still)
  · rw [use_eq, accepted_iff]
    exact failed
  · rw [use_eq, accepted_iff]
    exact passedOver
  · rw [use_eq, accepted_iff]
    exact taken

end Sys2Proof.Machine
end

section
/-!
Frames addressed to the part and dispatched requests (R29, R30, R33, R34, R191), and how the Management Responder takes a
request.
-/

namespace Sys2Proof.Machine

open Sys2Proof

/-! ## The checks of R191 -/

/-- R191: the source of a request is permitted. -/
theorem permitted_iff (r : Request) (s : State) : permitted r s = true ↔ allowed s r := by
  unfold permitted allowed geometryValid
  by_cases geometry : s.tables.geometryValid = true
  · rw [if_pos geometry]
    rcases r.lookup with ⟨i, role⟩ | f | _
    · cases role <;> simp [geometry]
    · simp [geometry]
    · simp [geometry]
  · simp [geometry]

theorem answerData_eq (code : Nat) (r : Request) (st : Status) (data : List Byte) (s : State) :
    answerData code r st data s =
      offerReport (reply r code (statusCode st) (echoTable code r) (echoIndex code r) data) s := rfl

theorem answer_eq (code : Nat) (r : Request) (st : Status) (s : State) :
    answer code r st s = offerReport (reply r code (statusCode st) (echoTable code r) (echoIndex code r) []) s := rfl

/-- R191: a permitted request of good form comes to its own rule. -/
theorem checked_allowed {code : Nat} {r : Request} {rule : State → State} {s : State} (h : allowed s r) :
    checked code r true rule s = rule s := by
  simp [checked, (permitted_iff r s).2 h]

/-- R191: a request whose form fails, by its source. -/
theorem checked_malformed (code : Nat) (r : Request) (rule : State → State) (s : State) :
    checked code r false rule s = answer code r (if permitted r s = true then .badValue else .notPermitted) s := by
  unfold checked
  cases permitted r s <;> rfl

/-- R191, R20: the requests whose response carries a table code. -/
theorem hasTable_iff (code : Nat) : hasTable code = true ↔ 1 ≤ code ∧ code ≤ 4 := by
  simp only [hasTable, Bool.or_eq_true, beq_iff_eq]
  omega

theorem hasIndex_iff (code : Nat) : hasIndex code = true ↔ code = 2 ∨ code = 4 := by
  simp [hasIndex]

theorem echoTable_eq (code : Nat) (r : Request) :
    echoTable code r = if 1 ≤ code ∧ code ≤ 4 then r.table else 0 := by
  simp only [echoTable, hasTable_iff]

theorem echoIndex_eq (code : Nat) (r : Request) : echoIndex code r = if code = 2 ∨ code = 4 then r.index else 0 := by
  simp only [echoIndex, hasIndex_iff]

/-! ## A dispatched request that no command spells (R29, R191) -/

theorem idle_of_unspelled {s : State} {d : Dispatch} {rest : List Dispatch} (h : s.dispatched = d :: rest)
    (hc : d.command = none) : idle s = settle (takeBadRequest d (s.setDispatched rest)) := by
  simp [idle, takeDispatch, h, hc]

/-- R191: it is answered BAD_VALUE, or NOT_PERMITTED by its source. -/
theorem takeBadRequest_eq {d : Dispatch} {s : State} (service : inService s = true) :
    takeBadRequest d s = answer (at8 d.frame.payload 0) (requestOf d.frame d.lookup)
      (if permitted (requestOf d.frame d.lookup) s = true then .badValue else .notPermitted) s := by
  rw [takeBadRequest, if_pos service, checked_malformed]

theorem serving_inService {s : State} (h : serving s = true) : inService s = true := by
  simp only [serving, Bool.and_eq_true] at h
  exact h.1

/-! ## Frames of other kinds (R25, R30, R34) -/

/-- R30, R34: a frame of no observation kind is counted with pass-all on, but for the control-centre kinds. -/
theorem useOrCount_other {f : Frame} {s : State} (service : s.chip.testMode = false)
    (kind : f.kind ∉ [0x10, 0x11, 0x12, 0x13, 0x20, 0x31]) :
    useOrCount f s = noted (if s.params.passAll = true ∧ f.kind ∉ [0x40, 0x41, 0x42, 0x43]
      then min 255 (s.port.counters.unknownSource + 1) else s.port.counters.unknownSource)
      s.port.counters.roleMismatch s.dispatched s := by
  have unused : isObservation f.kind = false := by rwa [Bool.eq_false_iff, ne_eq, isObservation_iff]
  unfold useOrCount
  by_cases centre : isCentreKind f.kind = true
  · rw [if_pos centre, if_neg (fun h => h.2 ((isCentreKind_iff f.kind).1 centre))]
    rfl
  rw [if_neg centre]
  have plain : f.kind ∉ [0x40, 0x41, 0x42, 0x43] := fun h => centre ((isCentreKind_iff f.kind).2 h)
  by_cases pass : s.params.passAll = true
  · rw [if_pos pass, if_pos ⟨pass, plain⟩, countUnknown_eq service]
  · rw [if_neg pass, if_neg (Bool.eq_false_iff.1 unused), if_neg fun h => pass h.1]
    rfl

/-- R27: what the classifier intercepts, as the statements say it. -/
theorem intercepts_iff (s : State) (f : Frame) : intercepts s f = true ↔
    s.auth.state = .autonomous ∧ s.auth.dryRun = false ∧ s.tables.geometryValid = true ∧ f.kind = kindFanCommand ∧
      (∃ i, lookupSource s.tables f.source = .station i .controlCentre) ∧
      ∃ g < s.tables.fans.count, fanAddr s.tables g = f.dest := by
  unfold intercepts isManualCommand isDriveAddr geometryValid
  rcases lookupSource s.tables f.source with ⟨i, role⟩ | g | _
  · cases role <;> simp [and_assoc]
  · simp
  · simp

/-! ## Frames addressed to the part (R29, R30, R33) -/

theorem consume_unexamined {f : Frame} {s : State} (running : s.auth.state ≠ .starting)
    (geometry : s.tables.geometryValid = false) :
    consume f s = if f.kind = 0x50 then dispatchRequest f .unknown s else s := by
  rw [consume, if_neg running, if_pos (by simp [geometryValid, geometry])]
  rfl

theorem consume_examined {f : Frame} {s : State} (running : s.auth.state ≠ .starting)
    (geometry : s.tables.geometryValid = true) :
    consume f s =
      if f.kind = 0x50 then dispatchRequest f (lookupSource s.tables f.source) s
      else if isCentreKind f.kind = true then dispatchCentre f s else useOrCount f s := by
  rw [consume, if_neg running, if_neg (by simp [geometryValid, geometry])]
  rfl

/-- R29: a request of at least 4 bytes is dispatched by its code. -/
theorem dispatchRequest_whole {f : Frame} (l : Lookup) (s : State) (h : 4 ≤ f.payload.length) :
    dispatchRequest f l s = noted s.port.counters.unknownSource s.port.counters.roleMismatch
      (s.dispatched ++ [⟨f, l, requestCommand (at8 f.payload 0)
        ⟨f.source, l, f.sequence, at8 f.payload 1, at16 f.payload 2, f.payload.drop 4⟩⟩]) s := by
  rw [dispatchRequest, if_neg (by simpa [requestMalformed] using h)]
  rfl

/-- R29: a shorter one is counted, and dispatched marked malformed. -/
theorem dispatchRequest_short {f : Frame} (l : Lookup) {s : State} (service : s.chip.testMode = false)
    (h : f.payload.length < 4) :
    dispatchRequest f l s = noted s.port.counters.unknownSource (min 255 (s.port.counters.roleMismatch + 1))
      (s.dispatched ++ [⟨f, l, none⟩]) s := by
  rw [dispatchRequest, if_pos (by simpa [requestMalformed] using h), countMismatch_eq service]
  rfl

/-- R30: a control-centre frame from a CONTROL_CENTRE station is dispatched when well formed. -/
theorem dispatchCentre_taken {f : Frame} {s : State} {i : Nat} {c : Instr}
    (source : lookupSource s.tables f.source = .station i .controlCentre) (form : centreCommand f = some c) :
    dispatchCentre f s = noted s.port.counters.unknownSource s.port.counters.roleMismatch
      (s.dispatched ++ [⟨f, .station i .controlCentre, some c⟩]) s := by
  simp only [dispatchCentre, source, form]
  rfl

/-- R30: any other is counted. -/
theorem dispatchCentre_counted {f : Frame} {s : State} (service : s.chip.testMode = false)
    (h : (∀ i, lookupSource s.tables f.source ≠ .station i .controlCentre) ∨ centreCommand f = none) :
    dispatchCentre f s = noted s.port.counters.unknownSource (min 255 (s.port.counters.roleMismatch + 1))
      s.dispatched s := by
  rw [← countMismatch_eq service]
  unfold dispatchCentre
  split
  · rename_i i source
    rw [h.resolve_left fun other => other i source]
  · rfl

/-- Settles O23: the dispatched request, the frame for another node, and the frame for the part. -/
theorem consumedFramesAreDispatched : Obligations.ConsumedFramesAreDispatched := by
  refine ⟨?unspelled, ?elsewhere, ?addressed⟩
  case unspelled =>
    intro f l rest s serves empty waits code table index
    let r := requestOf f l
    let u := s.setDispatched rest
    have service : inService u = true := serving_inService serves
    refine ⟨if permitted r u = true then 3 else 5, ?_, fun geometry other => ?_, fun terminal => ?_⟩
    · have taken : takeBadRequest ⟨f, l, none⟩ u = offerReport
          (report f.source 0x51 ([byte f.sequence, byte code] ++ be16 (if permitted r u = true then 3 else 5) ++
            [byte table] ++ be16 index)) u := by
        rw [takeBadRequest_eq service, answer_eq, echoTable_eq, echoIndex_eq, apply_ite statusCode]
        rfl
      have kept := kept_offerReport (report f.source 0x51 ([byte f.sequence, byte code] ++
        be16 (if permitted r u = true then 3 else 5) ++ [byte table] ++ be16 index)) u rfl (by simp [report, kindTest])
      rw [step_of_no_command empty, idle_of_unspelled waits rfl, taken]
      exact finish_ended_of_kept kept (serving_quiet serves)
    · rw [if_neg]
      rw [permitted_iff]
      exact fun h => (h geometry).elim fun i terminal => other i terminal
    · rw [if_pos]
      rw [permitted_iff]
      intro geometry
      rcases terminal with unset | station
      · exact absurd (geometry.symm.trans unset) (by simp)
      · exact station
  case elsewhere =>
    intro bytes x s serves valid heard earlier source dest geometry busy kind manual unknown kinds free
    obtain ⟨⟨_, service, running⟩, still⟩ := (serving_iff s).1 serves
    have passes : intercepts (received s) (frameOf bytes) = false := by
      rw [Bool.eq_false_iff, ne_eq, intercepts_iff]
      rintro ⟨autonomous, dry, _, command, centre, drive⟩
      exact free ⟨command, autonomous, dry, centre, drive⟩
    obtain ⟨forward, overrun, went, _, room, full⟩ := route_examined (s := received s) service running geometry
      (not_inStripSet source earlier) (fun h => absurd h dest) (fun _ => passes)
      (.inr (by rw [show (received s).port.out = some x from busy]; simp))
      (useOrCount_other service kinds)
    have ends : exec (.frameReceived bytes) s = .next (ended (passed forward overrun
        (noted unknown (received s).port.counters.roleMismatch (received s).dispatched (received s)))) := by
      rw [exec_frameReceived_valid (serving_onRing serves) valid, heard, went]
      exact finish_ended (quiet_due still)
    refine ⟨fun less => ?_, fun more => ?_⟩
    · obtain ⟨rfl, rfl⟩ := room dest less
      exact ends
    · obtain ⟨rfl, rfl⟩ := full dest more
      exact ends
  case addressed =>
    intro bytes s serves valid heard earlier source dest f dispatches counts unknowns mismatches requests
    obtain ⟨⟨_, service, running⟩, still⟩ := (serving_iff s).1 serves
    have ends : ∀ (unknown mismatch : Nat) (dispatched : List Dispatch),
        consume f (received s) = noted unknown mismatch dispatched (received s) →
        exec (.frameReceived bytes) s = .next (ended (noted unknown mismatch dispatched (received s))) := by
      intro unknown mismatch dispatched consumed
      rw [exec_frameReceived_valid (serving_onRing serves) valid, heard,
        route_addressed (s := received s) (not_inStripSet source earlier) dest,
        show consume (frameOf bytes) (restoredNotice false (received s)) = _ from consumed]
      exact finish_ended (quiet_due still)
    have asks : ∀ l, consume f (received s) = dispatchRequest f l (received s) → requests l := fun l consumed =>
      ⟨fun whole => ends _ _ _ (consumed.trans (dispatchRequest_whole l _ whole)),
        fun short => ends _ _ _ (consumed.trans (dispatchRequest_short l service short))⟩
    refine ⟨fun geometry => ?examined, fun geometry => ?unexamined⟩
    case examined =>
      intro l
      have consumed := consume_examined (f := f) (s := received s) running geometry
      refine ⟨fun request => asks _ (consumed.trans (if_pos request)), fun centre => ?_, fun others => ?_⟩
      · have notRequest : ¬ f.kind = 0x50 := by
          rintro h
          simp [h] at centre
        rw [if_neg notRequest, if_pos ((isCentreKind_iff _).2 centre)] at consumed
        exact ⟨fun i c station form => ends _ _ _ (consumed.trans (by
            rw [dispatchCentre_taken (s := received s) station form, ← station]; rfl)),
          fun h => ends _ _ _ (consumed.trans (dispatchCentre_counted (s := received s) service h))⟩
      · simp only [List.mem_cons, List.not_mem_nil, or_false, not_or] at others
        obtain ⟨request, declare, clear, release, resume, observations⟩ := others
        have centre : ¬ f.kind ∈ [0x40, 0x41, 0x42, 0x43] := by simp [declare, clear, release, resume]
        rw [if_neg request, if_neg (fun h => centre ((isCentreKind_iff _).1 h)),
          useOrCount_other (s := received s) service (by simp [observations])] at consumed
        refine ⟨fun pass => ?_, fun pass => ?_⟩
        · rw [if_neg (by rw [show (received s).params.passAll = false from pass]; simp)] at consumed
          exact ends _ _ _ consumed
        · rw [if_pos ⟨pass, centre⟩] at consumed
          exact ends _ _ _ consumed
    case unexamined =>
      have consumed := consume_unexamined (f := f) (s := received s) running geometry
      exact ⟨fun request => asks _ (consumed.trans (if_pos request)),
        fun other => ends unknowns mismatches s.dispatched (consumed.trans (if_neg other))⟩

end Sys2Proof.Machine
end

section
/-!
The read requests (R16, R198, R206): the data of each response as the statements list it.
-/

namespace Sys2Proof.Machine

open Sys2Proof

/-! ## Requests in service -/

theorem takeRequest_serving {s : State} (serves : serving s = true) (c : Instr) (rule : State → State) :
    takeRequest c rule s = rule (taken c s) := if_pos (serving_inService serves)

/-- A request that brings its response alone. -/
theorem finish_answered {c : Instr} {r : Request} {code status table index : Nat} {data : List Byte} {s : State}
    (serves : serving s = true) :
    finish (offerReport (reply r code status table index data) (taken c s)) =
      answered c (reply r code status table index data) s :=
  finish_ended_of_kept (kept_offerReport _ (taken c s) rfl (by simp [reply, report, kindTest])) (serving_quiet serves)

/-! ## READ RECORD, READ FAN -/

theorem exec_readRecord {r : Request} {s : State} {id : TableId} (serves : serving s = true) (permits : allowed s r)
    (table : tableOfCode r.table = some id) :
    exec (.readRecord r) s = finish (readRecord r id (taken (.readRecord r) s)) := by
  show finish (takeRequest _ _ s) = _
  rw [takeRequest_serving serves, checkedTable, table]
  exact congrArg finish (checked_allowed permits)

theorem exec_readFan {r : Request} {s : State} (serves : serving s = true) (permits : allowed s r) :
    exec (.readFan r) s = finish (readFan r (taken (.readFan r) s)) := by
  show finish (takeRequest _ _ s) = _
  rw [takeRequest_serving serves]
  exact congrArg finish (checked_allowed permits)

theorem exec_readState {r : Request} {s : State} (serves : serving s = true) (permits : allowed s r) :
    exec (.readState r) s = finish (readState r (taken (.readState r) s)) := by
  show finish (takeRequest _ _ s) = _
  rw [takeRequest_serving serves]
  exact congrArg finish (checked_allowed permits)

theorem exec_readCounters {r : Request} {s : State} (serves : serving s = true) (permits : allowed s r) :
    exec (.readCounters r) s = finish (readCounters r (taken (.readCounters r) s)) := by
  show finish (takeRequest _ _ s) = _
  rw [takeRequest_serving serves]
  exact congrArg finish (checked_allowed permits)

/-- R206: seconds, a part of one counting as one. -/
theorem secondsUp_eq (ms : Nat) : secondsUp ms = (ms + 999) / 1000 := by
  unfold secondsUp ceilDiv
  congr 1

theorem timerSeconds_eq (t : Option Nat) : timerSeconds t = (t.getD 0 + 999) / 1000 := secondsUp_eq _

/-- R206: the status age, 255 where no status was taken. -/
theorem statusAge_eq (s : State) (p : Reported) :
    statusAge s p = match p.takenAt with | none => 255 | some h => min 254 ((s.clock - h) / 1000) := by
  unfold statusAge
  cases p.takenAt <;> rfl

/-- R206: the place of a fan in the start queue, counted from 1. -/
theorem queuePosition_eq {s : State} {f position : Nat} (out : f ∉ s.fans.queue → position = 0)
    (within : f ∈ s.fans.queue → ∃ k, position = k + 1 ∧ s.fans.queue[k]? = some f ∧
      ∀ j < k, s.fans.queue[j]? ≠ some f) : queuePosition s f = position := by
  unfold queuePosition
  by_cases queued : f ∈ s.fans.queue
  · obtain ⟨k, rfl, here, first⟩ := within queued
    obtain ⟨below, at_k⟩ := List.getElem?_eq_some_iff.1 here
    have found : s.fans.queue.findIdx? (fun g => decide (g = f)) = some k := by
      rw [List.findIdx?_eq_some_iff_getElem]
      refine ⟨below, by simpa using at_k, fun j hj => ?_⟩
      have other := first j hj
      rw [List.getElem?_eq_getElem (hj.trans below)] at other
      simpa using other
    rw [found]
  · have none_found : s.fans.queue.findIdx? (fun g => decide (g = f)) = none := by
      rw [List.findIdx?_eq_none_iff]
      intro g hg
      simp only [decide_eq_false_iff_not]
      rintro rfl
      exact queued hg
    rw [none_found, out queued]

/-! ## READ STATE -/

/-- R206: page 0 as the statements list it. -/
theorem pageZero_eq (s : State) : pageZero s = [0x64, 0x12, 0x01, byte (authCode s.auth.state),
    byte (flagCode s.auth.dryRun), byte (flagCode s.port.inSilent), (if s.tables.store = .idle then 0 else 1),
    byte (flagCode s.tables.imageFault),
    byte (validityCode s.tables.global.validity), byte (validityCode s.tables.zones.validity),
    byte (validityCode s.tables.stations.validity), byte (validityCode s.tables.fans.validity),
    byte (validityCode s.tables.groups.validity), byte (validityCode s.tables.hash.validity),
    byte (validityCode s.tables.directory.validity), byte (validityCode s.tables.scenarios.validity),
    byte s.incidents.list.length, byte (headNumber s), byte (s.incidents.candidates.countP Option.isSome),
    byte (s.trains.countP Option.isSome),
    byte (s.trains.countP fun o => o.any fun q => decide (q.takenAt + 10000 < s.clock)),
    byte (bit s.outs.incident 1 + bit s.outs.auth 2 + bit s.outs.fault 4)] := by
  have store : byte (flagCode (decide (s.tables.store ≠ .idle))) = if s.tables.store = .idle then 0 else 1 := by
    by_cases idle : s.tables.store = .idle <;> simp [idle, flagCode, bit]
  have candidates : candidatesInUse s = s.incidents.candidates.countP Option.isSome := 
    List.length_filterMap_eq_countP
  have trains : trainsInUse s = s.trains.countP Option.isSome := 
    List.length_filterMap_eq_countP
  have stale : trainsStale s = s.trains.countP fun o => o.any fun q => decide (q.takenAt + 10000 < s.clock) := by
    refine List.countP_filterMap.trans (List.countP_congr fun o _ => ?_)
    cases o <;> rfl
  rw [pageZero, store, candidates, trains, stale]
  rfl

theorem trainFields_eq (x : Option Nat) :
    trainFields x = match x with | none => [0, 0, 0] | some n => (1 : Byte) :: be16 n := by
  cases x <;> rfl

theorem scenarioByte_eq (x : ScenarioRef) :
    byte (scenarioCode x) = match x with | .record n => byte n | .fallback => 255 | .none => 254 := by
  cases x <;> rfl

theorem phaseByte_eq (x : Option Phase) : phaseByte x = match x with
    | none => (255 : Byte) | some .delay => 0 | some .staging => 1 | some .regulating => 2 := by
  rcases x with _ | p
  · rfl
  · cases p <;> rfl

/-- R95: a direction byte, 0 where there is none. -/
theorem dirByte_eq (x : Option Dir) :
    byte ((x.map dirCode).getD 0) = match x with | some .towardB => (1 : Byte) | _ => 0 := by
  rcases x with _ | d
  · rfl
  · cases d <;> rfl

theorem liveDirCode_eq (l : Live) : liveDirCode l = (l.dir.map dirCode).getD 0 := by
  unfold liveDirCode
  cases l.dir <;> rfl

theorem lockSeconds_eq (t : Option Nat) : lockSeconds t = be16 ((t.getD 0 + 999) / 1000) :=
  congrArg be16 (timerSeconds_eq t)

/-- R206: a position of the selection, 255 past its end. -/
theorem selectionByte_eq (l : List Nat) (k : Nat) :
    byte (l.getD k 255) = match l[k]? with | some f => byte f | none => 255 := by
  rw [List.getD_eq_getElem?_getD]
  cases l[k]? <;> rfl

/-- R198: which pages there are. -/
theorem statePage_none {s : State} {page : Nat}
    (h : 15 < page ∨ (1 ≤ page ∧ page ≤ 4 ∧ s.incidents.list.length < page)) : statePage s page = none := by
  unfold statePage
  rcases h with beyond | ⟨low, high, missing⟩
  · rw [if_neg (by omega), if_neg (by omega), if_neg (by omega), if_neg (by omega), if_neg (by omega),
      if_neg (by omega)]
  · rw [if_neg (by omega), if_pos high, List.getElem?_eq_none (by omega)]
    rfl

theorem statePage_incident {s : State} {k : Nat} (h : k < 4) :
    statePage s (k + 1) = (s.incidents.list[k]?).map (incidentPage s) := by
  rw [statePage, if_neg (by omega), if_pos (by omega)]
  rfl

theorem statePage_candidate {s : State} {k : Nat} (h : k < 8) : statePage s (8 + k) = some (candidatePage s k) := by
  rw [statePage, if_neg (by omega), if_neg (by omega), if_neg (by omega), if_neg (by omega), if_neg (by omega),
    if_pos (by omega), Nat.add_sub_cancel_left]

/-- Settles O54: each read by its rule, and its data by the equations above. -/
theorem readsAnswerWithData : Obligations.ReadsAnswerWithData := by
  intro r s serves permits
  refine ⟨fun id table => ⟨fun beyond => ?noRecord, fun within fields held => ?record⟩, fun beyond => ?noFan,
    fun within u held => ?fan, fun h => ?noPage, fun page h => ?page, congrArg some (pageZero_eq s), ?pages, ?counters⟩
  case noRecord =>
    rw [exec_readRecord serves permits table, readRecord, if_pos beyond, answer_eq]
    exact finish_answered serves
  case record =>
    have read : ((taken (.readRecord r) s).tables.get id).fields r.index = fields := by
      show (s.tables.get id).recs.getD r.index [] = fields
      simp [held]
    rw [exec_readRecord serves permits table, readRecord, if_neg (Nat.not_le.2 within), read, answerData_eq]
    exact finish_answered serves
  case noFan =>
    rw [exec_readFan serves permits, readFan, if_pos (by exact beyond), answer_eq]
    exact finish_answered serves
  case fan =>
    intro p seconds age exchange position out queued
    have data : fanData (taken (.readFan r) s) r.index =
        [byte (driveStateCode p.drive), byte (driveCode p.dir + 2 * stepCode p.step), byte p.number,
          byte (cmdOriginCode p.origin), byte p.seconds] ++ beS16 p.temperature ++
        [byte (tripCode p.trip), byte age, byte (fanStateCode u.state), byte (wantedCode u.wanted),
          byte (stepCode u.step), byte u.fullFails, byte u.halfFails,
          byte (bit u.failed 1 + bit u.lost 2 + bit p.injected 4), byte u.lastIssued] ++ exchange ++
        [seconds u.dwell, seconds u.start, byte position] := by
      have record : fanRec (taken (.readFan r) s) r.index = u := fanRec_of_some held
      have place : queuePosition (taken (.readFan r) s) r.index = position := queuePosition_eq out queued
      have sent : byte (exchangeCode u.exchange) :: exchangeBytes u.exchange = exchange := by
        simp only [exchange]
        rcases u.exchange with _ | ⟨c, n, w⟩
        · rfl
        · cases w <;> rfl
      rw [fanData, record, place, ← sent, statusAge_eq, timerSeconds_eq, timerSeconds_eq]
      rfl
    rw [exec_readFan serves permits, readFan, if_neg (by exact Nat.not_le.2 within), data, answerData_eq]
    exact finish_answered serves
  case noPage =>
    rw [exec_readState serves permits, readState, show statePage (taken _ s) _ = none from statePage_none h]
    exact finish_answered serves
  case page =>
    rw [exec_readState serves permits, readState, show statePage (taken _ s) _ = some page from h]
    exact finish_answered serves
  case pages =>
    intro up train scenario way phase place
    refine ⟨fun k i hk hi => ?incident, ?plan, ?front, ?back, fun k hk => ⟨fun c hc => ?candidate, fun absent => ?free⟩⟩
    case incident =>
      rw [statePage_incident hk, hi]
      refine congrArg some ?_
      have saved : savedBytes i.saved = match i.saved with
          | none => [0, 0, 0, 0, 0, 0, 0, 0, 0]
          | some p => [1, scenario p.scenario, way p.dir, byte (flagCode p.locked)] ++ up p.lockTimer ++ be16 p.demand ++
              [byte (flagCode p.saturated)] := by
        rcases i.saved with _ | p
        · rfl
        · simp only [savedBytes, scenarioByte_eq, dirByte_eq, lockSeconds_eq]
          rfl
      rw [incidentPage, saved, trainFields_eq, phaseByte_eq]
      cases i.state <;> rfl
    case plan =>
      have live : liveBytes s.live = match s.live with
          | none => [254, 0, 0, 0, 0, 0, 0, 0]
          | some l => [scenario l.scenario, byte (causeCode l.cause), way l.dir, byte (flagCode l.locked)] ++
              up l.lockTimer ++ (match l.under with | none => [0, 0] | some u => [byte u.1, byte u.2]) := by
        rcases s.live with _ | l
        · rfl
        · simp only [liveBytes, scenarioByte_eq, liveDirCode_eq, dirByte_eq, lockSeconds_eq]
          rfl
      show some (planPage s) = _
      rw [planPage, live, phaseByte_eq] <;> rfl
    case front =>
      show some (selectionPage s 0) = _
      simp only [selectionPage, selectionByte_eq, Nat.zero_add]
      rfl
    case back =>
      show some (selectionPage s 24) = _
      simp only [selectionPage, selectionByte_eq]
      rfl
    case candidate =>
      have held : candidateAt s k = some c := by simp [candidateAt, hc]
      have confirmed : byte (if c.confirmedAt.isSome then 2 else 1) = if c.confirmedAt = none then 1 else 2 := by
        cases c.confirmedAt <;> rfl
      rw [statePage_candidate hk, candidatePage, held]
      simp only [confirmed, trainFields_eq, secondsUp_eq]
      rfl
    case free =>
      have empty : candidateAt s k = none := by
        rcases h : s.incidents.candidates[k]? with _ | _ | c
        · simp [candidateAt, h]
        · simp [candidateAt, h]
        · exact absurd h (absent c)
      rw [statePage_candidate hk, candidatePage, empty]
  case counters =>
    have data : counterData (taken (.readCounters r) s) = be16 s.port.counters.good ++
        [byte s.port.counters.bad, byte s.port.counters.forwardOverrun, byte s.port.counters.reportDrop,
          byte s.port.counters.commandDrop, byte s.port.counters.unknownSource, byte s.port.counters.roleMismatch,
          (if s.port.counters.activity = true then 1 else 0), byte s.auth.intercepted] := by
      have activity : byte (flagCode s.port.counters.activity) = if s.port.counters.activity = true then 1 else 0 := by
        cases s.port.counters.activity <;> rfl
      rw [← activity]
      rfl
    rw [exec_readCounters serves permits, readCounters, data, answerData_eq]
    exact finish_ended_of_kept (kept_offerReport _ _ rfl (by simp [reply, report, kindTest])) (serving_quiet serves)

end Sys2Proof.Machine
end

section
/-!
SOFT RESET (R201): its response is sent, discarded or displaced, and the part resets unless authority is AUTONOMOUS.
-/

namespace Sys2Proof.Machine

open Sys2Proof

/-! ## A reset that is due -/

/-- R201: a step that leaves a SOFT RESET due ends in the post-reset state, whatever it did before. -/
theorem finish_due {s t : State} (k : Kept s t) (draws : t.draws = s.draws) (service : s.chip.testMode = false)
    (due : t.chip.softResetDue = true) :
    finish t = .next (State.afterReset s.chip.pinAddr false s.pending s.eeprom s.draws) := by
  have pins : t.chip.pinAddr = s.chip.pinAddr ∧ t.chip.testMode = s.chip.testMode := by
    rw [k.pins]
    exact ⟨rfl, rfl⟩
  rw [finish_softReset due (pins.2.trans service), pins.1, k.pending, k.eeprom, draws]

theorem due_dropReport {s : State} (q : QFrame) (due : s.chip.softResetDue = true) :
    (dropReport q s).chip.softResetDue = true := by
  unfold dropReport responseGone State.count
  repeat' split
  all_goals first | rfl | exact due

/-- R201: where the response of a SOFT RESET is dropped, the reset is due. -/
theorem dropReport_marked {s : State} {q : QFrame} (marked : q.softReset = true) (left : s.auth.state ≠ .autonomous) :
    dropReport q s = (dropCounted s).setChip { s.chip with softResetDue := true } := by
  have same : (dropCounted s).auth = s.auth ∧ (dropCounted s).chip = s.chip := by
    rw [dropCounted_eq]
    exact ⟨rfl, rfl⟩
  show responseGone q (dropCounted s) = _
  simp [responseGone, marked, same, left]

/-- R201: in AUTONOMOUS the response is dropped like any report. -/
theorem dropReport_autonomous {s : State} (q : QFrame) (stays : s.auth.state = .autonomous) :
    dropReport q s = dropCounted s := by
  have same : (dropCounted s).auth.state = .autonomous := by
    rw [dropCounted_eq]
    exact stays
  show responseGone q (dropCounted s) = _
  simp [responseGone, same]

theorem finish_dropReport_marked {s : State} {q : QFrame} (marked : q.softReset = true)
    (left : s.auth.state ≠ .autonomous) (service : s.chip.testMode = false) :
    finish (dropReport q s) = .next (State.afterReset s.chip.pinAddr false s.pending s.eeprom s.draws) := by
  rw [dropReport_marked marked left, dropCounted_eq]
  exact finish_softReset rfl service

theorem serve_draws (s : State) : (serve s).draws = s.draws := by rw [serve_rest]

theorem finish_serve_due {s : State} (due : s.chip.softResetDue = true) (service : s.chip.testMode = false) :
    finish (serve s) = .next (State.afterReset s.chip.pinAddr false s.pending s.eeprom s.draws) :=
  finish_due (kept_serve s) (serve_draws s) service (by rw [serve_chip]; exact due)

theorem finish_serve_dropReport_marked {s : State} {q : QFrame} (marked : q.softReset = true)
    (left : s.auth.state ≠ .autonomous) (service : s.chip.testMode = false) :
    finish (serve (dropReport q s)) = .next (State.afterReset s.chip.pinAddr false s.pending s.eeprom s.draws) := by
  rw [dropReport_marked marked left, dropCounted_eq]
  exact finish_serve_due rfl service

theorem due_offerReport {s : State} (q : QFrame) (due : s.chip.softResetDue = true) :
    (offerReport q s).chip.softResetDue = true := by
  by_cases room : insertCount s.port < Config.insertCapacity
  · rw [offerReport_of_room q room, serve_chip]
    exact due
  · rw [offerReport_of_full q room]
    exact due_dropReport q due

/-- R12: the last report gives way to a command. -/
def displacedBy (q : QFrame) (s : State) : State :=
  s.setPort { s.port with reports := s.port.reports.dropLast, commands := s.port.commands ++ [q] }

theorem offerCommand_displaces {s : State} {y : QFrame} {rs : List QFrame} (q : QFrame)
    (full : 16 ≤ s.port.commands.length + s.port.reports.length) (reports : s.port.reports = rs ++ [y]) :
    offerCommand q s = serve (dropReport y (displacedBy q s)) :=
  offerCommand_of_report q y (Nat.not_lt.2 full) (by simp [reports])

/-- R12, R201: a command displaces the response of a SOFT RESET. -/
theorem due_of_displaced {s : State} {y : QFrame} {rs : List QFrame} (q : QFrame)
    (full : 16 ≤ s.port.commands.length + s.port.reports.length) (reports : s.port.reports = rs ++ [y])
    (marked : y.softReset = true) (left : s.auth.state ≠ .autonomous) :
    (offerCommand q s).chip.softResetDue = true := by
  rw [offerCommand_displaces q full reports, serve_chip, dropReport_marked marked (by exact left)]
  rfl

theorem offerReport_draws (q : QFrame) (s : State) : (offerReport q s).draws = s.draws := by
  by_cases room : insertCount s.port < Config.insertCapacity
  · rw [offerReport_of_room q room, serve_rest]
    rfl
  · rw [offerReport_of_full q room, dropReport_rest]

theorem offerCommand_draws (q : QFrame) (s : State) : (offerCommand q s).draws = s.draws := by rw [offerCommand_rest]

/-! ## The release of authority with a full queue (R147, R179) -/

/-- What a full insert queue still holds, with the authority and the count of draws. -/
structure SameQueue (s t : State) : Prop where
  commands : t.port.commands = s.port.commands
  reports : t.port.reports = s.port.reports
  auth : t.auth = s.auth
  draws : t.draws = s.draws

theorem sameQueue_dropReport {q : QFrame} (s : State) (plain : q.softReset = false) : SameQueue s (dropReport q s) := by
  rw [dropReport_plain s plain, dropCounted_eq]
  exact ⟨rfl, rfl, rfl, rfl⟩

theorem sameQueue_phaseNotice (p : Phase) {s : State} (full : 16 ≤ s.port.commands.length + s.port.reports.length) :
    SameQueue s (phaseNotice p s) := by
  show SameQueue s (offerReport _ s)
  rw [offerReport_of_full _ (Nat.not_lt.2 full)]
  exact sameQueue_dropReport s rfl

/-- R12: the notice of a phase is dropped at a full queue. -/
theorem sameQueue_phaseTest {s : State} (full : 16 ≤ s.port.commands.length + s.port.reports.length) :
    SameQueue s (phaseTest s) := by
  have told : ∀ (p : Phase) (x : Option Nat), SameQueue s (setTrim x (phaseNotice p (setPhase p s))) := fun p x => by
    obtain ⟨commands, reports, auth, draws⟩ := sameQueue_phaseNotice p (s := setPhase p s) full
    exact ⟨commands, reports, auth, draws⟩
  unfold phaseTest
  split
  · exact told _ _
  · exact told _ _
  · exact ⟨rfl, rfl, rfl, rfl⟩

/-- R147: with no FAN COMMAND frame waiting, the leaving of command takes nothing from a full queue. -/
theorem sameQueue_leaveCommand {s : State} (full : 16 ≤ s.port.commands.length + s.port.reports.length)
    (others : ∀ c ∈ s.port.commands, c.kind ≠ 0x30) : SameQueue s (leaveCommand s) := by
  have stays : s.port.commands.filter (fun q => q.kind != kindFanCommand) = s.port.commands :=
    List.filter_eq_self.2 fun c hc => bne_iff_ne.2 (others c hc)
  unfold leaveCommand
  split
  · refine { commands := ?_, reports := ?_, auth := ?_, draws := ?_ }
    all_goals
      have tested := sameQueue_phaseTest (s := removeFanCommands (s.setFans { s.fans with
          recs := s.fans.recs.mapIdx fun f r => if f < s.tables.fans.count then handsOff r else r
          queue := []
          inCommand := false })) (by
        show 16 ≤ (s.port.commands.filter _).length + _
        rw [stays]
        exact full)
    · exact tested.commands.trans stays
    · exact tested.reports
    · exact tested.auth
    · exact tested.draws
  · exact ⟨rfl, rfl, rfl, rfl⟩

/-- R179, R201: the hold of 0 displaces the response of a SOFT RESET. -/
theorem endHold_due {s : State} {y : QFrame} {rs : List QFrame}
    (full : 16 ≤ s.port.commands.length + s.port.reports.length) (reports : s.port.reports = rs ++ [y])
    (marked : y.softReset = true) (left : s.auth.state ≠ .autonomous) (held : 0 < s.auth.holdRemaining) :
    (endHold s).chip.softResetDue = true ∧ (endHold s).draws = s.draws := by
  simp only [endHold, if_pos held]
  exact ⟨due_of_displaced _ full reports marked left, offerCommand_draws _ _⟩

theorem exitAutonomous_due {s : State} {y : QFrame} {rs : List QFrame}
    (full : 16 ≤ s.port.commands.length + s.port.reports.length) (reports : s.port.reports = rs ++ [y])
    (marked : y.softReset = true) (held : 0 < s.auth.holdRemaining) (others : ∀ c ∈ s.port.commands, c.kind ≠ 0x30) :
    (exitAutonomous .released s).chip.softResetDue = true ∧ (exitAutonomous .released s).draws = s.draws := by
  have same := sameQueue_leaveCommand (s := setAuthState .released s) full others
  obtain ⟨due, draws⟩ := endHold_due (by rw [same.commands, same.reports]; exact full) (same.reports.trans reports)
    marked (by rw [same.auth]; exact AuthState.noConfusion) (by rw [same.auth]; exact held)
  exact ⟨due_offerReport _ due, (offerReport_draws _ _).trans (draws.trans same.draws)⟩

theorem exec_authorityRelease {s : State} (number : Nat) (inServ : inService s = true) :
    exec (.authorityRelease number) s = finish (releaseAuthority number (took (.authorityRelease number) s)) :=
  congrArg finish (if_pos (by exact inServ))

/-! ## The request -/

theorem exec_softReset {r : Request} {s : State} (serves : serving s = true) (permits : allowed s r) :
    exec (.softReset r) s = finish (softReset r (taken (.softReset r) s)) := by
  show finish (takeRequest _ _ s) = _
  rw [takeRequest_serving serves]
  exact congrArg finish (checked_allowed permits)

/-- Settles O59: the response by the room in the queue; then what becomes of a response that waits or is on OUT. -/
theorem softResetWaitsForItsResponse : Obligations.SoftResetWaitsForItsResponse := by
  refine ⟨fun r s serves permits => ⟨fun autonomous => ?refused, fun left => ⟨fun room x busy => ?queued,
      fun idle forward commands reports => ?sent, fun full => ?discarded⟩⟩,
    fun q y rs s service due full reports marked => ⟨fun left => ?displaced, fun autonomous x busy => ?counted,
      fun inServ autonomous held others => ?released⟩,
    fun s bytes service due out => ⟨fun left => ?ends, fun autonomous forward commands reports => ?stays⟩⟩
  case refused =>
    rw [exec_softReset serves permits, softReset, if_pos (by exact autonomous), answer_eq]
    exact finish_answered serves
  case queued =>
    have due := quiet_due (serving_quiet serves)
    rw [exec_softReset serves permits, softReset, if_neg (by exact left),
      offerReport_busy (s := taken (.softReset r) s) _ busy room]
    exact finish_ended due
  case sent =>
    have due := quiet_due (serving_quiet serves)
    rw [exec_softReset serves permits, softReset, if_neg (by exact left),
      (offer_idle (s := taken (.softReset r) s) _ idle forward commands reports).1,
      transmit_plain _ (by simp [kindResponse, kindTest])]
    exact finish_ended due
  case discarded =>
    obtain ⟨⟨_, service, _⟩, _⟩ := (serving_iff s).1 serves
    rw [exec_softReset serves permits, softReset, if_neg (by exact left)]
    rw [offerReport_of_full _ (by exact Nat.not_lt.2 full)]
    exact finish_dropReport_marked rfl (by exact left) (by exact service)
  case displaced =>
    rw [offerCommand_displaces q full reports]
    exact finish_serve_dropReport_marked marked (by exact left) (by exact service)
  case counted =>
    rw [offerCommand_displaces q full reports, dropReport_autonomous _ (by exact autonomous), dropCounted_eq]
    refine (serve_of_busy (f := x) (by exact busy)).trans ?_
    simp [displacedBy, reports, service]
  case released =>
    obtain ⟨due, draws⟩ := exitAutonomous_due (s := took (.authorityRelease 0) s) full reports marked held others
    have releases : releaseAuthority 0 (took (.authorityRelease 0) s) =
        exitAutonomous .released (took (.authorityRelease 0) s) := if_pos ⟨autonomous, .inl rfl⟩
    rw [exec_authorityRelease 0 inServ, releases]
    exact finish_due (s := took (.authorityRelease 0) s) (kept_exitAutonomous _ _) draws service due
  case ends =>
    have resets : endTransmission s = (outFreed s).setChip { s.chip with softResetDue := true } := by
      simp [endTransmission, outFreed, out, left]
    show finish (endTransmission s) = _
    rw [resets]
    exact finish_softReset rfl service
  case stays =>
    have stays : endTransmission s = outFreed s := by
      simp only [endTransmission, out, autonomous]
      exact serve_nothing (s := outFreed s) forward commands reports
    show finish (endTransmission s) = _
    rw [stays]
    exact finish_ended due

end Sys2Proof.Machine
end

section
/-!
What a step that offers reports alone leaves; the own address (R6, R7); the candidates emptied (R77); and OPEN LOAD (R192,
R193).
-/

namespace Sys2Proof.Machine

open Sys2Proof

/-! ## Reports alone -/

/-- The state `t` differs from `s` by reports offered to ring OUT: where OUT is busy those that waited wait still. -/
structure Announced (s t : State) : Prop where
  relayed : Relayed s t
  busy : ∀ x, s.port.out = some x → t.port.out = some x ∧ t.port.commands = s.port.commands ∧
    ∃ more, t.port.reports = s.port.reports ++ more

theorem Announced.refl (s : State) : Announced s s := ⟨.refl s, fun _ h => ⟨h, rfl, [], by simp⟩⟩

theorem Announced.trans {s t u : State} (a : Announced s t) (b : Announced t u) : Announced s u where
  relayed := a.relayed.trans b.relayed
  busy := fun x h => by
    obtain ⟨out, commands, more, reports⟩ := a.busy x h
    obtain ⟨out', commands', more', reports'⟩ := b.busy x out
    exact ⟨out', commands'.trans commands, more ++ more', by rw [reports', reports, List.append_assoc]⟩

theorem Announced.ite {s t u : State} {c : Prop} [Decidable c] (a : Announced s t) (b : Announced s u) :
    Announced s (if c then t else u) := by split <;> assumption

/-- What leaves no mark on another block carries over to a state with another of those blocks. -/
theorem Relayed.setIncidents {s t : State} (r : Relayed s t) (x : IncidentManager) :
    Relayed (s.setIncidents x) (t.setIncidents x) where
  kept := ⟨r.kept.pending, r.kept.dispatched, r.kept.clock, r.kept.samples, r.kept.trains, r.kept.tables, r.kept.eeprom,
    r.kept.outs, r.kept.pins, r.kept.quiet, r.kept.test, r.kept.ranges⟩
  rest := congrArg (fun u : State => u.setIncidents x) r.rest
  link := r.link

theorem Relayed.setAuth {s t : State} (r : Relayed s t) (x : Authority) : Relayed (s.setAuth x) (t.setAuth x) where
  kept := ⟨r.kept.pending, r.kept.dispatched, r.kept.clock, r.kept.samples, r.kept.trains, r.kept.tables, r.kept.eeprom,
    r.kept.outs, r.kept.pins, r.kept.quiet, r.kept.test, r.kept.ranges⟩
  rest := congrArg (fun u : State => u.setAuth x) r.rest
  link := r.link

theorem Announced.setAuth {s t : State} (r : Announced s t) (x : Authority) :
    Announced (s.setAuth x) (t.setAuth x) := ⟨r.relayed.setAuth x, r.busy⟩

theorem Announced.setIncidents {s t : State} (r : Announced s t) (x : IncidentManager) :
    Announced (s.setIncidents x) (t.setIncidents x) := ⟨r.relayed.setIncidents x, r.busy⟩

theorem announced_offerReport (q : QFrame) (s : State) (h : q.softReset = false) (k : q.kind ≠ kindTest) :
    Announced s (offerReport q s) := by
  refine ⟨relayed_offerReport q s h k, fun x busy => ?_⟩
  by_cases room : insertCount s.port < Config.insertCapacity
  · rw [offerReport_busy q busy room]
    exact ⟨busy, rfl, [q], rfl⟩
  · rw [offerReport_of_full q room, dropReport_plain s h, dropCounted_eq]
    exact ⟨busy, rfl, [], (List.append_nil _).symm⟩

theorem announced_notice (c n : Nat) (f : List Byte) (s : State) : Announced s (notice c n f s) :=
  announced_offerReport _ s rfl (by simp [noticeFrame, kindNotice, kindTest])

theorem announced_tableNotice (c : Nat) (v : Validity) (x b : Nat) (s : State) : Announced s (tableNotice c v x b s) :=
  announced_notice _ _ _ s

theorem announced_authorityNotice (a b : AuthState) (s : State) : Announced s (authorityNotice a b s) :=
  announced_notice _ _ _ s

theorem announced_respond (r : Request) (c : Nat) (st : Status) (t i : Nat) (d : List Byte) (s : State) :
    Announced s (respond r c st t i d s) := announced_offerReport _ s rfl (by simp [kindResponse, kindTest])

theorem announced_moveAuth (a : AuthState) (s : State) : Announced (setAuthState a s) (moveAuth a s) :=
  announced_authorityNotice _ _ _

/-- R95: a notice of a table, where reports alone were offered since `s`. -/
theorem tableNotice_after {s t : State} (a : Relayed s t) (code : Nat) (v : Validity) (cause bad : Nat) :
    tableNotice code v cause bad t = offerReport (report (noticeDest s) 0x49
      ([0x16, byte (headNumber s), byte code, byte (validityCode v), byte cause] ++ be16 bad)) t := by
  have dest : noticeDest t = noticeDest s := by
    rw [a.rest]
    rfl
  have head : headNumber t = headNumber s := by
    rw [a.rest]
    rfl
  rw [tableNotice, headNotice, notice, noticeFrame, dest, head]
  rfl

/-- R11: two reports offered to a busy OUT with room for both. -/
theorem offerReport_twice_busy {s : State} {x : TxFrame} (q q' : QFrame) (busy : s.port.out = some x)
    (room : s.port.commands.length + s.port.reports.length < 15) :
    offerReport q' (offerReport q s) = { s with port := { s.port with reports := s.port.reports ++ [q, q'] } } := by
  rw [offerReport_busy q busy (by omega), offerReport_busy q' (by exact busy)
    (by simp only [List.length_append, List.length_singleton]; omega)]
  simp

/-! ## The own address (R6, R7) -/

theorem updateOwnAddr_eq (s : State) : updateOwnAddr s = s.setPort { s.port with
    ownAddr := ownAddrNow s
    earlier := if ownAddrNow s = s.port.ownAddr then s.port.earlier else some (s.port.ownAddr, 1000) } := by
  unfold updateOwnAddr
  split
  · rename_i same
    rw [same]
    rfl
  · rfl

/-- R7: outside STARTING the own address is that of the global record while it is VALID. -/
theorem ownAddrNow_eq {s : State} (left : s.auth.state ≠ .starting) : ownAddrNow s =
    if s.tables.global.isValid = true then s.params.ownAddr else 0x7F00 + s.chip.strap.toNat := by
  unfold ownAddrNow
  simp only [ne_eq, left, not_false_eq_true, decide_true, Bool.true_and]
  rfl

/-! ## Candidates emptied (R77) -/

/-- The slots of a list are emptied. -/
def freed (ks : List Nat) (l : List (Option Candidate)) : List (Option Candidate) := ks.foldl (fun l k => l.set k none) l

theorem getElem?_freed {ks : List Nat} {l : List (Option Candidate)} {j : Nat} {c : Candidate}
    (h : (freed ks l)[j]? = some (some c)) : j ∉ ks ∧ l[j]? = some (some c) := by
  induction ks generalizing l with
  | nil => exact ⟨List.not_mem_nil, h⟩
  | cons k ks ih =>
    obtain ⟨later, here⟩ := ih h
    rw [List.getElem?_set] at here
    split at here
    · split at here <;> cases here
    · rename_i other
      exact ⟨by simp [Ne.symm other, later], here⟩

/-- R77: with every slot emptied no candidate is left. -/
theorem freed_all {l : List (Option Candidate)} {o : Option Candidate} (h : o ∈ freed (List.range l.length) l) :
    o = none := by
  obtain ⟨j, hj⟩ := List.getElem?_of_mem h
  rcases o with _ | c
  · rfl
  · obtain ⟨beyond, held⟩ := getElem?_freed hj
    have below := (List.getElem?_eq_some_iff.1 held).1
    exact absurd (List.mem_range.2 below) beyond

theorem Announced.incidents {s t : State} (a : Announced s t) : t.incidents = s.incidents := by
  rw [a.relayed.rest]

/-- R94: a discard empties its slot and tells it. -/
theorem announced_discard (n : Nat) (c : DiscardCause) (k : Nat) (s : State) :
    Announced (setCandidate k none s) (discard n c k s) := by
  unfold discard
  split
  · rename_i absent
    have same : s.incidents.candidates.set k none = s.incidents.candidates := by
      by_cases within : k < s.incidents.candidates.length
      · have held : s.incidents.candidates[k] = none := by simpa [candidateAt, within] using absent
        rw [← held, List.set_getElem_self]
      · exact List.set_eq_of_length_le (Nat.not_lt.1 within)
    rw [setCandidate, same]
    exact .refl s
  · exact announced_notice _ _ _ _

theorem discardWhere_all_cons (n : Nat) (c : DiscardCause) (k : Nat) (ks : List Nat) (s : State) :
    discardWhere n c (fun _ => true) (k :: ks) s = discardWhere n c (fun _ => true) ks (discard n c k s) := by
  rw [discardWhere, discard]
  cases candidateAt s k <;> rfl

theorem announced_discardAll (n : Nat) (c : DiscardCause) (ks : List Nat) (s : State) :
    Announced (s.setIncidents { s.incidents with candidates := freed ks s.incidents.candidates })
      (discardWhere n c (fun _ => true) ks s) := by
  induction ks generalizing s with
  | nil => exact .refl s
  | cons k ks ih =>
    have first := announced_discard n c k s
    have later := ih (discard n c k s)
    rw [first.incidents] at later
    rw [discardWhere_all_cons]
    exact (first.setIncidents _).trans later

/-- R77: the state with every candidate gone. -/
def candidatesGone (s : State) : State :=
  s.setIncidents { s.incidents with
    candidates := freed (List.range s.incidents.candidates.length) s.incidents.candidates }

theorem announced_emptyCandidates (s : State) : Announced (candidatesGone s) (emptyCandidates s) :=
  announced_discardAll _ _ _ s

/-! ## OPEN LOAD (R192, R193) -/

/-- R173: authority once a geometry table has been opened. -/
def authOpened (s : State) : State :=
  s.setAuth { s.auth with state := if s.auth.state = .monitor then .unconfigured else s.auth.state }

theorem announced_geometryOpened (s : State) : Announced (authOpened s) (geometryOpened s) := by
  by_cases monitor : s.auth.state = .monitor
  · rw [geometryOpened, authOpened, monitor]
    exact announced_authorityNotice _ _ _
  · have stands : geometryOpened s = s := by
      unfold geometryOpened
      split
      · contradiction
      · rfl
    rw [stands, authOpened, if_neg monitor]
    exact .refl s

/-- R173, R193: what the Authority Controller and the Incident Manager do as a table is opened. -/
def blocksOpened (id : TableId) (s : State) : State := if id.isGeometry = true then candidatesGone (authOpened s) else s

theorem blocksOpened_eq (id : TableId) (s : State) : blocksOpened id s = { s with
    incidents := if id.isGeometry = true then (candidatesGone s).incidents else s.incidents
    auth := if id.isGeometry = true then (authOpened s).auth else s.auth } := by
  unfold blocksOpened
  split <;> rfl

theorem blocksOpened_setPort (id : TableId) (s : State) (p : Port) :
    blocksOpened id (s.setPort p) = (blocksOpened id s).setPort p := by
  unfold blocksOpened
  split <;> rfl

theorem blocksOpened_port (id : TableId) (s : State) : (blocksOpened id s).port = s.port := by
  unfold blocksOpened
  split <;> rfl

theorem quiet_blocksOpened (id : TableId) (s : State) : quiet (blocksOpened id s) = quiet s := by
  unfold blocksOpened
  split <;> rfl

theorem announced_opened (id : TableId) (s : State) : Announced (blocksOpened id s)
    (if id.isGeometry = true then emptyCandidates (geometryOpened s) else s) := by
  unfold blocksOpened
  split
  · have authority := announced_geometryOpened s
    have emptied := announced_emptyCandidates (geometryOpened s)
    rw [candidatesGone, authority.incidents] at emptied
    exact (authority.setIncidents _).trans emptied
  · exact .refl s

/-- R193: what each table's own block does as the table is opened. -/
def handedOn (id : TableId) (t : State) : State :=
  { t with
    port := if id = .global then (updateOwnAddr t).port else t.port
    samples := if id = .stations then t.samples.map fun _ => .absent else t.samples
    fans := if id = .fans then (emptyFans t).fans else t.fans }

theorem handOpen_eq (id : TableId) (s : State) :
    handOpen id s = handedOn id (if id.isGeometry = true then emptyCandidates (geometryOpened s) else s) := by
  simp only [handOpen]
  generalize (if id.isGeometry = true then emptyCandidates (geometryOpened s) else s) = t
  cases id
  case global =>
    simp only [handedOn, updateOwnAddr_eq]
    rfl
  all_goals rfl

theorem handedOn_ownAddr (id : TableId) (t : State) :
    (handedOn id t).port.ownAddr = if id = .global then ownAddrNow t else t.port.ownAddr := by
  unfold handedOn
  split
  · rw [updateOwnAddr_eq]
    rfl
  · rfl

/-- R6: a change of the own address enters the earlier one in the strip set. -/
theorem handedOn_earlier (id : TableId) (t : State) : (handedOn id t).port.earlier =
    if (handedOn id t).port.ownAddr = t.port.ownAddr then t.port.earlier else some (t.port.ownAddr, 1000) := by
  rw [handedOn_ownAddr]
  unfold handedOn
  split
  · rw [updateOwnAddr_eq]
    rfl
  · exact (if_pos rfl).symm

theorem handedOn_reports (id : TableId) (t : State) : (handedOn id t).port.reports = t.port.reports := by
  unfold handedOn
  split
  · rw [updateOwnAddr_eq]
    rfl
  · rfl

theorem openLoad_refused {r : Request} {id : TableId} {s : State} (listed : s.incidents.list ≠ []) :
    openLoad r id s = answer 1 r .refused s := by
  simp [openLoad, incidentListed, listed]

theorem openLoad_inProgress {r : Request} {id : TableId} {s : State} (empty : s.incidents.list = [])
    (running : s.tables.store ≠ .idle) : openLoad r id s = answer 1 r .inProgress s := by
  simp [openLoad, incidentListed, empty, running]

/-- R192: the table is opened, with the response and the notice. -/
def opened (r : Request) (id : TableId) (s : State) : State :=
  tableNotice (tableCode id) .loading causeOpen 0 (answer 1 r .done (setTable id (openedTable id) s))

theorem openLoad_done {r : Request} {id : TableId} {s : State} (empty : s.incidents.list = [])
    (idle : s.tables.store = .idle) : openLoad r id s = handOpen id (opened r id s) := by
  simp [openLoad, opened, incidentListed, empty, idle]

/-- R173: the opening of a table does not bring STARTING. -/
theorem authOpened_left {s : State} (left : s.auth.state ≠ .starting) : (authOpened s).auth.state ≠ .starting := by
  show ite _ _ _ ≠ _
  split
  · exact AuthState.noConfusion
  · exact left

theorem announced_openedTable (r : Request) (id : TableId) (s : State) :
    Announced (setTable id (openedTable id) s) (opened r id s) :=
  (announced_respond r 1 .done _ _ _ _).trans (announced_tableNotice _ _ _ _ _)

theorem tableCode_of_code {n : Nat} {id : TableId} (h : tableOfCode n = some id) : tableCode id = n := by
  unfold tableOfCode at h
  split at h <;> cases h <;> rfl

theorem openedTable_eq (id : TableId) : openedTable id =
    { validity := .loading
      count := 0
      recs := if id = .global then [defaultPart0, defaultPart1]
        else List.replicate id.capacity (List.replicate id.recordSize 0)
      written := List.replicate id.capacity false } := by
  cases id <;> rfl

theorem get_set_same (t : TableStore) (id : TableId) (x : Table) : (t.set id x).get id = x := by cases id <;> rfl

theorem exec_openLoad {r : Request} {s : State} {id : TableId} (serves : serving s = true) (permits : allowed s r)
    (table : tableOfCode r.table = some id) :
    exec (.openLoad r) s = finish (openLoad r id (taken (.openLoad r) s)) := by
  show finish (takeRequest _ _ s) = _
  rw [takeRequest_serving serves, checkedTable, table]
  exact congrArg finish (checked_allowed permits)

/-- R192: on a busy OUT with room the response and the notice stand behind what waited. -/
theorem opened_busy {r : Request} {id : TableId} {s : State} {x : TxFrame} (table : tableOfCode r.table = some id)
    (empty : s.incidents.list = []) (busy : s.port.out = some x)
    (room : s.port.commands.length + s.port.reports.length < 15) :
    (opened r id s).port.out = some x ∧ (opened r id s).port.reports = s.port.reports ++ [reply r 1 0 r.table 0 [],
      report (if id = .global then 0xFFFF else noticeDest s) 0x49 [0x16, 0, byte r.table, 1, 0, 0, 0]] := by
  have dest : noticeDest (setTable id (openedTable id) s) = if id = .global then 0xFFFF else noticeDest s := by
    cases id <;> rfl
  have head : headNumber (setTable id (openedTable id) s) = 0 := by simp [headNumber, setTable, empty]
  have told : opened r id s = offerReport
      (report (if id = .global then 0xFFFF else noticeDest s) 0x49 [0x16, 0, byte r.table, 1, 0, 0, 0])
      (offerReport (reply r 1 0 r.table 0 []) (setTable id (openedTable id) s)) := by
    have answered := relayed_respond r 1 .done (echoTable 1 r) (echoIndex 1 r) [] (setTable id (openedTable id) s)
    rw [opened, answer, answerData, tableNotice_after answered, dest, head, tableCode_of_code table]
    rfl
  rw [told, offerReport_twice_busy _ _ (by exact busy) (by exact room)]
  exact ⟨busy, rfl⟩

/-- R192, R193: what an OPEN LOAD that is taken leaves, but for the Ring Port's queues. -/
theorem openLoad_leaves {r : Request} {id : TableId} {s : State} (still : quiet s = true)
    (empty : s.incidents.list = []) (idle : s.tables.store = .idle) :
    ∃ p, openLoad r id s = handedOn id ((blocksOpened id (setTable id (openedTable id) s)).setPort p) ∧
      SameLink s.port p ∧ ∀ x, (opened r id s).port.out = some x →
        ∃ more, p.reports = (opened r id s).port.reports ++ more := by
  have told := announced_openedTable r id s
  have blocks := announced_opened id (opened r id s)
  have before : blocksOpened id (opened r id s) =
      (blocksOpened id (setTable id (openedTable id) s)).setPort (opened r id s).port :=
    (congrArg (blocksOpened id) (told.relayed.eq_setPort (by exact still))).trans (blocksOpened_setPort _ _ _)
  have after := blocks.relayed.eq_setPort (by rw [quiet_blocksOpened]; exact told.relayed.kept.quiet still)
  have link := told.relayed.link.trans ((blocksOpened_port id (opened r id s)) ▸ blocks.relayed.link)
  refine ⟨_, ?_, link, fun x busy => ?_⟩
  · rw [openLoad_done empty idle, handOpen_eq, after, before]
    rfl
  · obtain ⟨_, _, more, grown⟩ := blocks.busy x (by rw [blocksOpened_port]; exact busy)
    exact ⟨more, by rw [grown, blocksOpened_port]⟩

/-- Settles O51: the refusals; then the table, the reports, and the word to each block. -/
theorem openLoadClearsTheTable : Obligations.OpenLoadClearsTheTable := by
  unfold Obligations.OpenLoadClearsTheTable
  intro r id s serves permits table c
  have run := exec_openLoad serves permits table
  refine ⟨fun listed => ?refused, fun empty running => ?progress, fun empty idle => ?done⟩
  case refused =>
    rw [run, openLoad_refused (by exact listed), answer_eq]
    exact finish_answered serves
  case progress =>
    rw [run, openLoad_inProgress (by exact empty) (by exact running), answer_eq]
    exact finish_answered serves
  case done =>
    obtain ⟨p, leaves, link, queue⟩ := openLoad_leaves (r := r) (id := id) (s := taken c s) (serving_quiet serves) empty idle
    have left : s.auth.state ≠ .starting := ((serving_iff s).1 serves).1.2.2
    have due : s.chip.softResetDue = false := quiet_due (serving_quiet serves)
    rw [run, leaves]
    rw [blocksOpened_eq]
    refine ⟨_, finish_ended (by exact due), congrArg (s.tables.set id) (openedTable_eq id), ?list,
      fun geometry => ⟨?candidates, ?unconfigured⟩, fun other => if_neg (by simp [other]), fun stands => ?authority, rfl,
      rfl, ?address, ?earlier, fun y busy room => ?reports, rfl⟩
    case list =>
      show (ite _ _ _ : IncidentManager).list = []
      split <;> exact empty
    case candidates =>
      show ∀ o ∈ (ite _ _ _ : IncidentManager).candidates, o = none
      rw [if_pos geometry]
      exact fun o => freed_all
    case unconfigured =>
      intro monitor
      show (ite _ _ _ : Authority).state = .unconfigured
      rw [if_pos geometry]
      exact if_pos monitor
    case authority =>
      show (ite _ _ _ : Authority) = s.auth
      split
      · rename_i geometry
        have other : s.auth.state ≠ .monitor := stands.resolve_left (by simp [geometry])
        show ({ s.auth with state := ite _ _ _ } : Authority) = s.auth
        rw [if_neg (by exact other)]
        rfl
      · rfl
    case address =>
      refine (handedOn_ownAddr _ _).trans ?_
      split
      · rename_i global
        subst global
        have closed : ∀ u : State, u.tables.global.isValid = false → u.auth.state ≠ .starting →
            ownAddrNow u = 0x7F00 + u.chip.strap.toNat := fun u invalid running => by
          rw [ownAddrNow_eq running, invalid, if_neg Bool.false_ne_true]
        exact closed _ rfl (authOpened_left (by exact left))
      · exact link.ownAddr
    case earlier =>
      have own : p.ownAddr = s.port.ownAddr := link.ownAddr
      have old : p.earlier = s.port.earlier := link.earlier
      rw [← own, ← old]
      exact handedOn_earlier _ _
    case reports =>
      obtain ⟨out, first⟩ := opened_busy (s := taken c s) table empty busy room
      obtain ⟨more, grown⟩ := queue y out
      refine ⟨more, (handedOn_reports _ _).trans ?_⟩
      exact grown.trans (congrArg (· ++ more) first)

end Sys2Proof.Machine
end

section
/-!
The Table Store: one table replaced, what the checks of CLOSE LOAD read of the other tables (R196, R197), and what closing a
table leaves (R195).
-/

namespace Sys2Proof.Machine

open Sys2Proof

/-! ## One table replaced -/

theorem get_set_other {t : TableStore} {id j : TableId} (x : Table) (h : j ≠ id) : (t.set id x).get j = t.get j := by
  cases id <;> cases j <;> first | rfl | exact absurd rfl h

/-- What is no table stands. -/
theorem set_rest (t : TableStore) (id : TableId) (x : Table) : (t.set id x).params = t.params ∧
    (t.set id x).store = t.store ∧ (t.set id x).imageFault = t.imageFault ∧ (t.set id x).port = t.port := by
  cases id <;> exact ⟨rfl, rfl, rfl, rfl⟩

theorem isValid_iff (t : Table) : t.isValid = true ↔ t.validity = .valid := by simp [Table.isValid]

/-! ## What the checks read -/

/-- Two table stores that the checks do not tell apart: the same records and written marks, the same tables VALID, the same
counts of those, and the same parameters while the global record is VALID. -/
structure SameToChecks (u v : TableStore) : Prop where
  recs : ∀ id, (v.get id).recs = (u.get id).recs
  written : ∀ id, (v.get id).written = (u.get id).written
  valid : ∀ id, (v.get id).isValid = (u.get id).isValid
  count : ∀ id, (u.get id).isValid = true → (v.get id).count = (u.get id).count
  params : u.global.isValid = true → v.params = u.params

namespace SameToChecks

variable {u v : TableStore} (h : SameToChecks u v)
include h

theorem fields (id : TableId) : (v.get id).fields = (u.get id).fields := by
  funext i
  rw [Table.fields, Table.fields, h.recs]

theorem unwritten (id : TableId) : Machine.unwritten (v.get id) = Machine.unwritten (u.get id) := by
  funext i
  rw [Machine.unwritten, Machine.unwritten, h.written]

/-- A check made while a table is VALID may use its count. -/
theorem whileValid (id : TableId) {b c : Bool}
    (e : (u.get id).isValid = true → (v.get id).count = (u.get id).count → b = c) :
    Machine.whileValid (v.get id) b = Machine.whileValid (u.get id) c := by
  rw [Machine.whileValid, Machine.whileValid, h.valid]
  cases valid : (u.get id).isValid
  · rfl
  · rw [e valid (h.count id valid)]

/-- What is read of the records of a table. -/
theorem reads {α : Type} (id : TableId) (f : List Byte → α) :
    (fun i => f ((v.get id).fields i)) = fun i => f ((u.get id).fields i) := by rw [h.fields]

theorem zoneStart : Machine.zoneStart v = Machine.zoneStart u := h.reads .zones (at16 · 0)
theorem zoneEnd : Machine.zoneEnd v = Machine.zoneEnd u := h.reads .zones (at16 · 2)
theorem groupChainage : Machine.groupChainage v = Machine.groupChainage u := h.reads .groups (at16 · 0)
theorem fanAddr : Machine.fanAddr v = Machine.fanAddr u := h.reads .fans (at16 · 0)
theorem fanGroup : Machine.fanGroup v = Machine.fanGroup u := h.reads .fans (at8 · 2)
theorem stationAddr : Machine.stationAddr v = Machine.stationAddr u := h.reads .stations (at16 · 1)
theorem stationRole : Machine.stationRole v = Machine.stationRole u := h.reads .stations fun p => roleOfCode (at8 p 3)
theorem stationChainage : Machine.stationChainage v = Machine.stationChainage u := h.reads .stations (at16 · 4)
theorem stationZone : Machine.stationZone v = Machine.stationZone u := h.reads .stations (at8 · 6)
theorem stationEnabled : Machine.stationEnabled v = Machine.stationEnabled u :=
  h.reads .stations fun p => decide (at8 p 0 = 1)
theorem dirBase : Machine.dirBase v = Machine.dirBase u := h.reads .directory (at8 · 0)
theorem dirVariants : Machine.dirVariants v = Machine.dirVariants u := h.reads .directory (at8 · 1)

theorem chainageBeyond : Machine.chainageBeyond v = Machine.chainageBeyond u := by
  funext L i
  simp only [Machine.chainageBeyond, h.stationEnabled, h.stationRole, h.stationChainage]

theorem zoneBeyond : Machine.zoneBeyond v = Machine.zoneBeyond u := by
  funext n i
  simp only [Machine.zoneBeyond, h.stationEnabled, h.stationRole, h.stationZone]

theorem sharesDrive : Machine.sharesDrive v = Machine.sharesDrive u := by
  funext m n i f
  simp only [Machine.sharesDrive, h.stationEnabled, h.stationAddr, h.fanAddr]

theorem groupBadlyFilled : Machine.groupBadlyFilled v = Machine.groupBadlyFilled u := by
  funext n g
  simp only [Machine.groupBadlyFilled, fansInGroup, h.fanGroup]

theorem directoryBeyond : Machine.directoryBeyond v = Machine.directoryBeyond u := by
  funext n z
  simp only [Machine.directoryBeyond, h.dirBase, h.dirVariants]

/-- R197: a check against the parameters. -/
theorem whileGlobal {f g : Nat → Bool} (e : f = g) :
    Machine.whileValid v.global (f v.params.L) = Machine.whileValid u.global (g u.params.L) :=
  h.whileValid .global fun valid _ => by rw [e, h.params valid]

/-- R197: a check against the count of a table. -/
theorem whileCounted (id : TableId) {f g : Nat → Bool} (e : f = g) :
    Machine.whileValid (v.get id) (f (v.get id).count) = Machine.whileValid (u.get id) (g (u.get id).count) :=
  h.whileValid id fun _ n => by rw [e, n]

theorem whileZones {f g : Nat → Bool} (e : f = g) :
    Machine.whileValid v.zones (f v.zones.count) = Machine.whileValid u.zones (g u.zones.count) := h.whileCounted .zones e

theorem whileStations {f g : Nat → Bool} (e : f = g) :
    Machine.whileValid v.stations (f v.stations.count) = Machine.whileValid u.stations (g u.stations.count) :=
  h.whileCounted .stations e

theorem whileFans {f g : Nat → Bool} (e : f = g) :
    Machine.whileValid v.fans (f v.fans.count) = Machine.whileValid u.fans (g u.fans.count) := h.whileCounted .fans e

theorem whileGroups {f g : Nat → Bool} (e : f = g) :
    Machine.whileValid v.groups (f v.groups.count) = Machine.whileValid u.groups (g u.groups.count) :=
  h.whileCounted .groups e

/-- R197: a check of every record of a table. -/
theorem whileAny (id : TableId) {f g : Nat → Bool} (e : f = g) :
    Machine.whileValid (v.get id) ((List.range (v.get id).count).any f) =
      Machine.whileValid (u.get id) ((List.range (u.get id).count).any g) :=
  h.whileCounted id (f := fun n => (List.range n).any f) (g := fun n => (List.range n).any g) (by rw [e])

theorem checkGlobal : Machine.checkGlobal v = Machine.checkGlobal u := by
  have params : paramsOf v.global = paramsOf u.global := by
    simp only [paramsOf, show v.global.fields = u.global.fields from h.fields .global]
  have zones := h.whileZones (f := fun n => decide (Machine.zoneEnd v (n - 1) ≠ (paramsOf v.global).L))
    (g := fun n => decide (Machine.zoneEnd u (n - 1) ≠ (paramsOf u.global).L)) (by rw [h.zoneEnd, params])
  have stations := h.whileAny .stations (f := Machine.chainageBeyond v (paramsOf v.global).L)
    (g := Machine.chainageBeyond u (paramsOf u.global).L) (by rw [h.chainageBeyond, params])
  have groups := h.whileAny .groups (f := fun g => decide ((paramsOf v.global).L < Machine.groupChainage v g))
    (g := fun g => decide ((paramsOf u.global).L < Machine.groupChainage u g)) (by rw [h.groupChainage, params])
  have marks := h.unwritten .global
  simp only [TableStore.get] at zones stations groups marks
  simp only [Machine.checkGlobal, marks, zones, stations, groups]
  rw [params]

theorem checkZones (n : Nat) : Machine.checkZones v n = Machine.checkZones u n := by
  have ends := fun z => h.whileGlobal (f := fun L => decide (z + 1 = n ∧ Machine.zoneEnd v z ≠ L))
    (g := fun L => decide (z + 1 = n ∧ Machine.zoneEnd u z ≠ L)) (by rw [h.zoneEnd])
  have stations := h.whileAny .stations (congrFun h.zoneBeyond n)
  have marks := h.unwritten .zones
  simp only [TableStore.get] at stations marks
  simp only [Machine.checkZones, marks, ends, stations]
  simp only [h.zoneStart, h.zoneEnd]

theorem checkStations (n : Nat) : Machine.checkStations v n = Machine.checkStations u n := by
  have fans := fun i => h.whileFans (f := fun m => (List.range m).any fun f => Machine.sharesDrive v n m i f)
    (g := fun m => (List.range m).any fun f => Machine.sharesDrive u n m i f) (by rw [h.sharesDrive])
  have bore := fun i => h.whileGlobal (f := fun L => Machine.chainageBeyond v L i)
    (g := fun L => Machine.chainageBeyond u L i) (by rw [h.chainageBeyond])
  have zones := fun i => h.whileZones (f := fun m => Machine.zoneBeyond v m i)
    (g := fun m => Machine.zoneBeyond u m i) (by rw [h.zoneBeyond])
  have marks := h.unwritten .stations
  simp only [TableStore.get] at fans zones marks
  simp only [Machine.checkStations, marks, fans, bore, zones, h.stationEnabled, h.stationAddr]

theorem checkFans (n : Nat) : Machine.checkFans v n = Machine.checkFans u n := by
  have group := fun f => h.whileGroups (f := fun m => decide (m ≤ Machine.fanGroup v f))
    (g := fun m => decide (m ≤ Machine.fanGroup u f)) (by rw [h.fanGroup])
  have stations := fun f => h.whileStations
    (f := fun m => (List.range m).any fun i => Machine.sharesDrive v m n i f)
    (g := fun m => (List.range m).any fun i => Machine.sharesDrive u m n i f) (by rw [h.sharesDrive])
  have filled := h.whileAny .groups (congrFun h.groupBadlyFilled n)
  have marks := h.unwritten .fans
  simp only [TableStore.get] at group stations filled marks
  simp only [Machine.checkFans, marks, group, stations, filled]

theorem checkGroups (n : Nat) : Machine.checkGroups v n = Machine.checkGroups u n := by
  have bore := fun g => h.whileGlobal (f := fun L => decide (L < Machine.groupChainage v g))
    (g := fun L => decide (L < Machine.groupChainage u g)) (by rw [h.groupChainage])
  have filled := fun g => h.whileFans (f := fun m => Machine.groupBadlyFilled v m g)
    (g := fun m => Machine.groupBadlyFilled u m g) (by rw [h.groupBadlyFilled])
  have beyond := h.whileAny .fans (f := fun f => decide (n ≤ Machine.fanGroup v f))
    (g := fun f => decide (n ≤ Machine.fanGroup u f)) (by rw [h.fanGroup])
  have marks := h.unwritten .groups
  simp only [TableStore.get] at filled beyond marks
  simp only [Machine.checkGroups, marks, bore, filled, beyond]

/-- R197: the scenario records are closed while the groups are VALID. -/
theorem checkScenarios (n : Nat) (groups : u.groups.isValid = true) :
    Machine.checkScenarios v n = Machine.checkScenarios u n := by
  have directory := h.whileAny .directory (congrFun h.directoryBeyond n)
  have marks := h.unwritten .scenarios
  have fields := h.fields .scenarios
  have count := h.count .groups groups
  simp only [TableStore.get] at directory marks fields count
  simp only [Machine.checkScenarios, marks, directory, fields, count]

theorem checkDirectory (n : Nat) (scenarios : u.scenarios.isValid = true) :
    Machine.checkDirectory v n = Machine.checkDirectory u n := by
  have marks := h.unwritten .directory
  have count := h.count .scenarios scenarios
  simp only [TableStore.get] at marks count
  simp only [Machine.checkDirectory, marks, count, h.directoryBeyond]

/-- R196, R197: the outcome of a close depends on these alone. -/
theorem closeCheck (id : TableId) (n : Nat) : Machine.closeCheck v id n = Machine.closeCheck u id n := by
  have groups : v.groups.isValid = u.groups.isValid := h.valid .groups
  have scenarios : v.scenarios.isValid = u.scenarios.isValid := h.valid .scenarios
  unfold Machine.closeCheck
  cases id
  case global => exact congrArg Findings.firstBad h.checkGlobal
  case zones => simp only [h.checkZones]
  case stations => simp only [h.checkStations]
  case fans => simp only [h.checkFans]
  case groups => simp only [h.checkGroups]
  case hash => rfl
  case directory =>
    simp only [scenarios]
    split
    · rename_i valid
      rw [h.checkDirectory n valid]
    · rfl
  case scenarios =>
    simp only [groups]
    split
    · rename_i valid
      rw [h.checkScenarios n valid]
    · rfl

end SameToChecks

/-! ## A table closed (R195) -/

theorem get_refreshParams (t : TableStore) (id : TableId) : (refreshParams t).get id = t.get id := by
  unfold refreshParams
  split
  · cases id <;> rfl
  · rfl

/-- R195: the outcome of a close. -/
def outcome (t : TableStore) (id : TableId) (n : Nat) : Table :=
  if closeCheck t id n = none then { t.get id with validity := .valid, count := loadedCount id n }
  else { t.get id with validity := .invalid, count := 0 }

theorem get_closeTable_same (id : TableId) (n : Nat) (t : TableStore) :
    (closeTable id n t).1.get id = outcome t id n := by
  unfold closeTable outcome
  rcases check : closeCheck t id n with _ | i
  · simp [get_refreshParams, get_set_same]
  · simp [get_set_same]

/-- R195: the other tables stand. -/
theorem get_closeTable_other {id j : TableId} (n : Nat) (t : TableStore) (h : j ≠ id) :
    (closeTable id n t).1.get j = t.get j := by
  unfold closeTable
  rcases closeCheck t id n with _ | i
  · exact (get_refreshParams _ _).trans (get_set_other _ h)
  · exact get_set_other _ h

theorem closeTable_rest (id : TableId) (n : Nat) (t : TableStore) :
    (closeTable id n t).1.store = t.store ∧ (closeTable id n t).1.imageFault = t.imageFault ∧
      (closeTable id n t).1.port = t.port := by
  unfold closeTable refreshParams
  repeat' split
  all_goals exact ⟨(set_rest _ _ _).2.1, (set_rest _ _ _).2.2.1, (set_rest _ _ _).2.2.2⟩

/-- R190: the parameters in force are those of the global record while it is VALID, else those of before. -/
def ParamsFollow (before : Params) (t : TableStore) : Prop :=
  t.params = if t.global.isValid = true then paramsOf t.global else before

/-- R190, R195: a close that passes takes up the parameters of a VALID global record. -/
theorem paramsFollow_refreshParams {before : Params} {t : TableStore} (h : t.global.isValid = false → t.params = before) :
    ParamsFollow before (refreshParams t) := by
  unfold ParamsFollow refreshParams
  cases valid : t.global.isValid
  · simp [valid, h valid]
  · simp [valid]

theorem paramsFollow_closeTable {before : Params} {id : TableId} {t : TableStore} (n : Nat) (h : ParamsFollow before t)
    (first : id = .global → t.global.isValid = false) : ParamsFollow before (closeTable id n t).1 := by
  have params : ∀ x, (t.set id x).params = t.params := fun x => (set_rest t id x).1
  have stood : t.global.isValid = false → t.params = before := fun invalid => by rw [h, invalid, if_neg Bool.false_ne_true]
  by_cases own : id = .global
  · subst own
    unfold closeTable
    rcases closeCheck t .global n with _ | i
    · exact paramsFollow_refreshParams fun invalid => nomatch invalid
    · show t.params = _
      rw [stood (first rfl)]
      rfl
  · have same : ∀ x, (t.set id x).global = t.global := fun x => get_set_other (j := .global) x (Ne.symm own)
    unfold closeTable
    rcases closeCheck t id n with _ | i
    · refine paramsFollow_refreshParams fun invalid => ?_
      rw [same] at invalid
      rw [params, stood invalid]
    · rw [ParamsFollow, same, params]
      exact h

end Sys2Proof.Machine
end

section
/-!
The start-up load (R203): what is read of the image, the tables taken from it and closed in their order, and what the blocks
do as STARTING ends (R172, R183).
-/

namespace Sys2Proof.Machine

open Sys2Proof

/-! ## The tables stored VALID are closed one after another -/

/-- A table stored VALID is closed. -/
def closedOne (body : List Byte) (t : TableStore) (id : TableId) : TableStore :=
  if storedValid body id = true then (closeTable id (storedCount body id) t).1 else t

theorem closeStored_eq (body : List Byte) (l : List TableId) (t : TableStore) :
    (closeStored body l t).1 = l.foldl (closedOne body) t := by
  induction l generalizing t with
  | nil => rfl
  | cons id l ih =>
    rw [closeStored, List.foldl_cons, closedOne]
    split
    · exact ih _
    · exact ih _

theorem get_closedOne_other {body : List Byte} {id j : TableId} (t : TableStore) (h : j ≠ id) :
    (closedOne body t id).get j = t.get j := by
  unfold closedOne
  split
  · exact get_closeTable_other _ t h
  · rfl

theorem get_closedOne_same (body : List Byte) (id : TableId) (t : TableStore) :
    (closedOne body t id).get id =
      if storedValid body id = true then outcome t id (storedCount body id) else t.get id := by
  unfold closedOne
  split
  · exact get_closeTable_same _ _ t
  · rfl

theorem outcome_data (t : TableStore) (id : TableId) (n : Nat) :
    (outcome t id n).recs = (t.get id).recs ∧ (outcome t id n).written = (t.get id).written := by
  unfold outcome
  split <;> exact ⟨rfl, rfl⟩

/-- A close changes no record and no written mark. -/
theorem closedOne_data (body : List Byte) (id j : TableId) (t : TableStore) :
    ((closedOne body t id).get j).recs = (t.get j).recs ∧ ((closedOne body t id).get j).written = (t.get j).written := by
  by_cases own : j = id
  · subst own
    rw [get_closedOne_same]
    split
    · exact outcome_data _ _ _
    · exact ⟨rfl, rfl⟩
  · rw [get_closedOne_other t own]
    exact ⟨rfl, rfl⟩

/-- A table outside a list stands while those of the list are treated one after another. -/
theorem get_foldl_other {f : TableStore → TableId → TableStore} (h : ∀ t id j, j ≠ id → (f t id).get j = t.get j)
    {l : List TableId} {j : TableId} (out : j ∉ l) (t : TableStore) : (l.foldl f t).get j = t.get j := by
  induction l generalizing t with
  | nil => rfl
  | cons id l ih =>
    obtain ⟨other, later⟩ := not_or.1 (List.mem_cons.not.1 out)
    exact (ih later _).trans (h t id j other)

/-- What no step changes stands at the end. -/
theorem foldl_keeps {α : Type} {f : TableStore → TableId → TableStore} {g : TableStore → α} (h : ∀ t id, g (f t id) = g t)
    (l : List TableId) (t : TableStore) : g (l.foldl f t) = g t := by
  induction l generalizing t with
  | nil => rfl
  | cons id l ih => exact (ih _).trans (h t id)

theorem paramsFollow_foldl {before : Params} {body : List Byte} {l : List TableId} {t : TableStore} (once : l.Nodup)
    (h : ParamsFollow before t) (first : .global ∈ l → t.global.isValid = false) :
    ParamsFollow before (l.foldl (closedOne body) t) := by
  induction l generalizing t with
  | nil => exact h
  | cons id l ih =>
    obtain ⟨fresh, once⟩ := List.nodup_cons.1 once
    refine ih once ?_ fun later => ?_
    · unfold closedOne
      split
      · exact paramsFollow_closeTable _ h fun own => first (by simp [own])
      · exact h
    · have other : TableId.global ≠ id := fun own => fresh (own ▸ later)
      have same : (closedOne body t id).global = t.global := get_closedOne_other (j := .global) t other
      rw [same]
      exact first (List.mem_cons_of_mem _ later)

/-- The later tables are taken as not VALID. -/
def setInvalid (t : TableStore) (id : TableId) : TableStore := t.set id { t.get id with validity := .invalid }

theorem get_setInvalid_other (t : TableStore) (id j : TableId) (h : j ≠ id) : (setInvalid t id).get j = t.get j :=
  get_set_other _ h

theorem setInvalid_data (t : TableStore) (id j : TableId) :
    ((setInvalid t id).get j).recs = (t.get j).recs ∧ ((setInvalid t id).get j).written = (t.get j).written := by
  by_cases own : j = id
  · subst own
    rw [setInvalid, get_set_same]
    exact ⟨rfl, rfl⟩
  · rw [get_setInvalid_other t id j own]
    exact ⟨rfl, rfl⟩

theorem isValid_setInvalid_keeps {t : TableStore} (id : TableId) {j : TableId} (h : (t.get j).isValid = false) :
    ((setInvalid t id).get j).isValid = false := by
  by_cases own : j = id
  · subst own
    rw [setInvalid, get_set_same]
    rfl
  · rw [get_setInvalid_other t id j own]
    exact h

theorem isValid_foldl_setInvalid {l : List TableId} {j : TableId} (t : TableStore)
    (h : j ∈ l ∨ (t.get j).isValid = false) : ((l.foldl setInvalid t).get j).isValid = false := by
  induction l generalizing t with
  | nil => exact h.resolve_left List.not_mem_nil
  | cons id l ih =>
    refine ih _ ?_
    rcases h with here | invalid
    · rcases List.mem_cons.1 here with rfl | later
      · exact .inr (by rw [setInvalid, get_set_same]; rfl)
      · exact .inl later
    · exact .inr (isValid_setInvalid_keeps id invalid)

/-- R203: a table is checked against the tables before it in the order as they then stand, the others not VALID. -/
theorem sameToChecks_then {before : Params} {body : List Byte} {t : TableStore} {pre post : List TableId} {id : TableId}
    (once : (pre ++ id :: post).Nodup) (invalid : ∀ j, (t.get j).isValid = false) (params : ParamsFollow before t) :
    SameToChecks (pre.foldl (closedOne body) t)
      ((id :: post).foldl setInvalid ((pre ++ id :: post).foldl (closedOne body) t)) := by
  have one := fun t id j h => get_closedOne_other (body := body) (id := id) (j := j) t h
  have final : ∀ j ∉ id :: post, ((pre ++ id :: post).foldl (closedOne body) t).get j =
      (pre.foldl (closedOne body) t).get j := fun j out => by
    rw [List.foldl_append]
    exact get_foldl_other one out _
  have stands : ∀ j ∉ id :: post, ((id :: post).foldl setInvalid ((pre ++ id :: post).foldl (closedOne body) t)).get j =
      (pre.foldl (closedOne body) t).get j := fun j out =>
    (get_foldl_other get_setInvalid_other out _).trans (final j out)
  have waiting : ∀ j ∈ id :: post, ((pre.foldl (closedOne body) t).get j).isValid = false := fun j later => by
    rw [get_foldl_other one (fun earlier => (List.nodup_append.1 once).2.2 j earlier j later rfl)]
    exact invalid j
  have apart : ∀ j, ((pre.foldl (closedOne body) t).get j).isValid = true → j ∉ id :: post := fun j valid later =>
    Bool.false_ne_true ((waiting j later).symm.trans valid)
  refine { recs := fun j => ?recs, written := fun j => ?written, valid := fun j => ?valid, count := fun j valid => ?count,
           params := fun valid => ?params }
  case recs =>
    exact (foldl_keeps (g := fun u => (u.get j).recs) (fun u k => (setInvalid_data u k j).1) _ _).trans
      ((foldl_keeps (g := fun u => (u.get j).recs) (fun u k => (closedOne_data body k j u).1) _ _).trans
        (foldl_keeps (g := fun u => (u.get j).recs) (fun u k => (closedOne_data body k j u).1) _ _).symm)
  case written =>
    exact (foldl_keeps (g := fun u => (u.get j).written) (fun u k => (setInvalid_data u k j).2) _ _).trans
      ((foldl_keeps (g := fun u => (u.get j).written) (fun u k => (closedOne_data body k j u).2) _ _).trans
        (foldl_keeps (g := fun u => (u.get j).written) (fun u k => (closedOne_data body k j u).2) _ _).symm)
  case valid =>
    by_cases later : j ∈ id :: post
    · rw [isValid_foldl_setInvalid _ (.inl later), waiting j later]
    · rw [stands j later]
  case count => rw [stands j (apart j valid)]
  case params =>
    have same : ((pre ++ id :: post).foldl (closedOne body) t).global = (pre.foldl (closedOne body) t).global :=
      final .global (apart .global valid)
    have last : ParamsFollow before ((pre ++ id :: post).foldl (closedOne body) t) :=
      paramsFollow_foldl once params fun _ => invalid .global
    have early : ParamsFollow before (pre.foldl (closedOne body) t) :=
      paramsFollow_foldl (List.nodup_append.1 once).1 params fun _ => invalid .global
    refine (foldl_keeps (f := setInvalid) (g := TableStore.params) (fun u k => (set_rest u k _).1) _ _).trans ?_
    rw [last, early, same]

/-! ## The image (R202, R203) -/

/-- Addresses 1 to 4,700. -/
def bodyRead (e : Eeprom) : List Byte := (List.range 4700).map fun i => loadByte e (i + 1)

/-- R203: the stored CRC is that of the image. -/
def crcRight (e : Eeprom) : Prop := at16 [loadByte e 4701, loadByte e 4702] 0 = crc16 (0x5C :: bodyRead e)

theorem loadRest_take (e : Eeprom) : (loadRest e).take 4700 = bodyRead e := by
  rw [loadRest, ← List.map_take, List.take_range]
  rfl

theorem loadRest_crc (e : Eeprom) : at16 (loadRest e) 4700 = at16 [loadByte e 4701, loadByte e 4702] 0 := by
  have byteAt : ∀ k < 4702, (loadRest e)[k]? = some (loadByte e (k + 1)) := fun k h => by
    simp [loadRest, Config.imageLast, h]
  simp [at16, at8, byteAt 4700, byteAt 4701]

theorem imageFound_absent {e : Eeprom} (h : loadByte e 0 ≠ 0x5C) : imageFound e = .absent := by
  unfold imageFound
  exact if_pos h

theorem imageFound_bad {e : Eeprom} (h : loadByte e 0 = 0x5C) (crc : ¬ crcRight e) : imageFound e = .bad := by
  rw [imageFound, if_neg (by simp [h, signature])]
  simp only [loadRest_take, loadRest_crc]
  exact if_neg fun same => crc same.symm

theorem imageFound_good {e : Eeprom} (h : loadByte e 0 = 0x5C) (crc : crcRight e) : imageFound e = .good (bodyRead e) := by
  rw [imageFound, if_neg (by simp [h, signature])]
  simp only [loadRest_take, loadRest_crc]
  exact if_pos crc.symm

theorem getElem?_bodyRead (e : Eeprom) {k : Nat} (h : k < 4700) : (bodyRead e)[k]? = some (loadByte e (k + 1)) := by
  simp [bodyRead, h]

theorem at8_bodyRead_drop (e : Eeprom) {o i : Nat} (h : o + i < 4700) :
    at8 ((bodyRead e).drop o) i = (loadByte e (o + 1 + i)).toNat := by
  rw [at8, List.getD_eq_getElem?_getD, List.getElem?_drop, getElem?_bodyRead e h, Nat.add_right_comm]
  rfl

theorem bodyOffset_within (id : TableId) : bodyOffset id + 2 + id.capacity * id.recordSize ≤ 4700 := by
  cases id <;> decide

theorem storedValid_iff (e : Eeprom) (id : TableId) :
    storedValid (bodyRead e) id = true ↔ (loadByte e (bodyOffset id + 1)).toNat = 2 := by
  have within := bodyOffset_within id
  rw [storedValid, decide_eq_true_eq, at8_bodyRead_drop e (by omega)]

theorem storedCount_eq (e : Eeprom) (id : TableId) :
    storedCount (bodyRead e) id = (loadByte e (bodyOffset id + 1 + 1)).toNat := by
  have within := bodyOffset_within id
  exact at8_bodyRead_drop e (by omega)

theorem length_cutRecords (size n : Nat) (bs : List Byte) : (cutRecords size n bs).length = n := by
  induction n generalizing bs with
  | zero => rfl
  | succ n ih => rw [cutRecords, List.length_cons, ih]

theorem getElem?_cutRecords (size : Nat) {n i : Nat} (bs : List Byte) (h : i < n) :
    (cutRecords size n bs)[i]? = some ((bs.drop (i * size)).take size) := by
  induction n generalizing bs i with
  | zero => exact absurd h (Nat.not_lt_zero i)
  | succ n ih =>
    cases i with
    | zero => simp [cutRecords]
    | succ i =>
      rw [cutRecords, List.getElem?_cons_succ, ih _ (Nat.lt_of_succ_lt_succ h), List.drop_drop, Nat.succ_mul,
        Nat.add_comm]

/-- R203 step 3: a record as the image holds it. -/
theorem loadedTable_field (e : Eeprom) (id : TableId) {i j : Nat} (hi : i < id.capacity) (hj : j < id.recordSize) :
    ((loadedTable (bodyRead e) id).fields i)[j]? =
      some (loadByte e (bodyOffset id + 1 + 2 + i * id.recordSize + j)) := by
  have within := bodyOffset_within id
  have last : (i + 1) * id.recordSize ≤ id.capacity * id.recordSize := Nat.mul_le_mul_right _ hi
  have cut : (i + 1) * id.recordSize = i * id.recordSize + id.recordSize := Nat.succ_mul _ _
  have recs : (loadedTable (bodyRead e) id).recs =
      cutRecords id.recordSize id.capacity (((bodyRead e).drop (bodyOffset id)).drop 2) := rfl
  rw [Table.fields, List.getD_eq_getElem?_getD, recs, getElem?_cutRecords _ _ hi, Option.getD_some,
    List.getElem?_take_of_lt hj, List.getElem?_drop, List.getElem?_drop, List.getElem?_drop,
    getElem?_bodyRead e (by omega)]
  congr 2
  omega

/-! ## The tables from the image -/

theorem get_takeTables (body : List Byte) (t : TableStore) (id : TableId) :
    (takeTables body t).get id = loadedTable body id := by
  cases id <;> rfl

theorem takeTables_rest (body : List Byte) (t : TableStore) : (takeTables body t).params = t.params ∧
    (takeTables body t).store = t.store ∧ (takeTables body t).imageFault = t.imageFault ∧
    (takeTables body t).port = t.port := ⟨rfl, rfl, rfl, rfl⟩

theorem closingOrder_split (id : TableId) : ∃ pre post,
    closingOrder = pre ++ id :: post ∧ closingOrder.dropWhile (fun j => decide (j ≠ id)) = id :: post := by
  refine ⟨closingOrder.takeWhile fun j => decide (j ≠ id), (closingOrder.dropWhile fun j => decide (j ≠ id)).tail, ?_⟩
  cases id <;> decide

/-- R203: what a good image makes of one table. -/
theorem get_closeStored {before : Params} {body : List Byte} {t : TableStore} {id : TableId}
    (params : t.params = before) (loaded : ∀ j, t.get j = loadedTable body j) :
    let final := (closeStored body closingOrder t).1
    let then_ := (closingOrder.dropWhile fun j => decide (j ≠ id)).foldl setInvalid final
    ParamsFollow before final ∧
    (final.get id).recs = (loadedTable body id).recs ∧ (final.get id).written = (loadedTable body id).written ∧
    (storedValid body id = false → final.get id = loadedTable body id) ∧
    (storedValid body id = true →
      (closeCheck then_ id (storedCount body id) = none → (final.get id).validity = .valid ∧
        (final.get id).count = loadedCount id (storedCount body id)) ∧
      (closeCheck then_ id (storedCount body id) ≠ none → (final.get id).validity = .invalid ∧
        (final.get id).count = 0)) := by
  intro final then_
  obtain ⟨pre, post, order, later⟩ := closingOrder_split id
  have once : (pre ++ id :: post).Nodup := by
    rw [← order]
    decide
  have invalid : ∀ j, (t.get j).isValid = false := fun j => by
    rw [loaded]
    rfl
  have follow : ParamsFollow before t := by
    rw [ParamsFollow, show t.global.isValid = false from invalid .global]
    exact params
  have run : final = (pre ++ id :: post).foldl (closedOne body) t := by rw [← order]; exact closeStored_eq _ _ _
  have checked : closeCheck then_ id = closeCheck (pre.foldl (closedOne body) t) id := by
    funext n
    refine SameToChecks.closeCheck ?_ id n
    simp only [then_, later, run]
    exact sameToChecks_then once invalid follow
  obtain ⟨preOnce, postOnce, apart⟩ := List.nodup_append.1 once
  have one := fun t id j h => get_closedOne_other (body := body) (id := id) (j := j) t h
  have own : (pre.foldl (closedOne body) t).get id = loadedTable body id := by
    rw [get_foldl_other one (fun early => apart id early id (List.mem_cons_self ..) rfl), loaded]
  have last : final.get id = if storedValid body id = true then
      outcome (pre.foldl (closedOne body) t) id (storedCount body id) else loadedTable body id := by
    rw [run, List.foldl_append, List.foldl_cons, get_foldl_other one (List.nodup_cons.1 postOnce).1,
      get_closedOne_same, own]
  refine ⟨run ▸ paramsFollow_foldl once follow fun _ => invalid .global, ?_, ?_, fun not_stored => ?_, fun stored => ?_⟩
  · rw [last]
    split
    · rw [(outcome_data _ _ _).1, own]
    · rfl
  · rw [last]
    split
    · rw [(outcome_data _ _ _).2, own]
    · rfl
  · rw [last, not_stored, if_neg Bool.false_ne_true]
  · rw [last, if_pos stored, checked, outcome]
    constructor
    · intro passes
      rw [if_pos passes]
      exact ⟨rfl, rfl⟩
    · intro fails
      rw [if_neg fails]
      exact ⟨rfl, rfl⟩

end Sys2Proof.Machine
end

section
/-!
The start-up load (R203): what the blocks do as it ends, and the statement about it.
-/

namespace Sys2Proof.Machine

open Sys2Proof

/-! ## What the load finds -/

/-- The tables once the load has ended. -/
def tablesLoaded (s : State) : TableStore := (setLoaded (imageFound s.eeprom) s).1.tables

theorem setLoaded_tables (found : ImageFound) (s : State) :
    (setLoaded found s).1 = s.setTables (setLoaded found s).1.tables := by
  cases found <;> rfl

theorem closeStored_rest (body : List Byte) (l : List TableId) (t : TableStore) :
    (closeStored body l t).1.store = t.store ∧ (closeStored body l t).1.imageFault = t.imageFault ∧
      (closeStored body l t).1.port = t.port := by
  have one : ∀ (u : TableStore) id, (closedOne body u id).store = u.store ∧
      (closedOne body u id).imageFault = u.imageFault ∧ (closedOne body u id).port = u.port := fun u id => by
    unfold closedOne
    split
    · exact closeTable_rest _ _ _
    · exact ⟨rfl, rfl, rfl⟩
  rw [closeStored_eq]
  exact ⟨foldl_keeps (g := TableStore.store) (fun u id => (one u id).1) _ _,
    foldl_keeps (g := TableStore.imageFault) (fun u id => (one u id).2.1) _ _,
    foldl_keeps (g := TableStore.port) (fun u id => (one u id).2.2) _ _⟩

/-- R203: the tables of a good image, before any is closed. -/
def imageTables (body : List Byte) (s : State) : TableStore :=
  takeTables body { s.tables with
    imageFault := false
    port := ⟨.idle, [readTransfer 0 [loadByte s.eeprom 0], readTransfer 1 (loadRest s.eeprom)]⟩ }

theorem setLoaded_good (body : List Byte) (s : State) :
    (setLoaded (.good body) s).1.tables = (closeStored body closingOrder (imageTables body s)).1 := rfl

theorem setLoaded_good_rest (body : List Byte) (s : State) :
    (setLoaded (.good body) s).1.tables.store = s.tables.store ∧
    (setLoaded (.good body) s).1.tables.imageFault = false ∧
    (setLoaded (.good body) s).1.tables.port =
      ⟨.idle, [readTransfer 0 [loadByte s.eeprom 0], readTransfer 1 (loadRest s.eeprom)]⟩ :=
  closeStored_rest body closingOrder _

/-- R203, R212: the fault indication and the reads. -/
theorem tablesLoaded_rest (s : State) :
    (tablesLoaded s).store = s.tables.store ∧
    ((tablesLoaded s).imageFault = true ↔ loadByte s.eeprom 0 = 0x5C ∧ ¬ crcRight s.eeprom) ∧
    (tablesLoaded s).port = ⟨.idle, readTransfer 0 [loadByte s.eeprom 0] ::
      if loadByte s.eeprom 0 = 0x5C then [readTransfer 1 (loadRest s.eeprom)] else []⟩ := by
  unfold tablesLoaded
  by_cases sign : loadByte s.eeprom 0 = 0x5C
  · by_cases crc : crcRight s.eeprom
    · rw [imageFound_good sign crc, if_pos sign]
      obtain ⟨store, fault, port⟩ := setLoaded_good_rest (bodyRead s.eeprom) s
      exact ⟨store, ⟨fun set => absurd (fault.symm.trans set) Bool.false_ne_true, fun h => absurd crc h.2⟩, port⟩
    · rw [imageFound_bad sign crc, if_pos sign]
      exact ⟨rfl, ⟨fun _ => ⟨sign, crc⟩, fun _ => rfl⟩, rfl⟩
  · rw [imageFound_absent sign, if_neg sign]
    exact ⟨rfl, ⟨fun set => absurd set Bool.false_ne_true, fun h => absurd h.1 sign⟩, rfl⟩

theorem tablesLoaded_stand {s : State} (h : loadByte s.eeprom 0 ≠ 0x5C ∨ ¬ crcRight s.eeprom) :
    (∀ id, (tablesLoaded s).get id = s.tables.get id) ∧ (tablesLoaded s).params = s.tables.params := by
  have stand : ∀ (x : Bool) (p : ConfigPort) id,
      ({ s.tables with imageFault := x, port := p } : TableStore).get id = s.tables.get id := fun x p id => by
    cases id <;> rfl
  unfold tablesLoaded
  by_cases sign : loadByte s.eeprom 0 = 0x5C
  · rw [imageFound_bad sign (h.resolve_left (absurd sign))]
    exact ⟨stand _ _, rfl⟩
  · rw [imageFound_absent sign]
    exact ⟨stand _ _, rfl⟩

/-! ## What the blocks do (R67, R172, R183) -/

/-- R67: with no train held, a change of L removes none. -/
theorem lengthChanged_none {s : State} (before : Nat) (h : ∀ o ∈ s.trains, o = none) : lengthChanged before s = s := by
  have same : ∀ f : Option Train → Option Train, f none = none → s.trains.map f = s.trains := fun f stays => by
    refine (List.map_congr_left fun o held => ?_).trans (List.map_id _)
    rw [h o held]
    exact stays
  unfold lengthChanged removeTrains
  split
  · rfl
  · exact if_pos (same _ rfl)

theorem announced_tableNotices (bads : List (TableId × Nat)) (l : List TableId) (s : State) :
    Announced s (tableNotices bads l s) := by
  induction l generalizing s with
  | nil => exact .refl s
  | cons id l ih => exact (announced_tableNotice _ _ _ _ s).trans (ih _)

theorem dropReport_queues (q : QFrame) (s : State) :
    (dropReport q s).port.out = s.port.out ∧ (dropReport q s).port.commands = s.port.commands ∧
      (dropReport q s).port.forward = s.port.forward := by
  unfold dropReport responseGone State.count
  repeat' split
  all_goals exact ⟨rfl, rfl, rfl⟩

/-- R12: a command enters behind the commands that wait while fewer than 16 do. -/
theorem offerCommand_commands {s : State} {x : TxFrame} (q : QFrame) (busy : s.port.out = some x)
    (room : s.port.commands.length < 16) : (offerCommand q s).port.commands = s.port.commands ++ [q] := by
  by_cases free : s.port.commands.length + s.port.reports.length < 16
  · rw [offerCommand_busy q busy free]
  · have waiting : s.port.reports ≠ [] := fun none => by
      rw [none] at free
      exact free (by simpa using room)
    rw [offerCommand_displaces q (Nat.not_lt.1 free) (List.dropLast_append_getLast waiting).symm]
    obtain ⟨out, commands, _⟩ := dropReport_queues (s.port.reports.getLast waiting) (displacedBy q s)
    rw [serve_of_busy (out.trans busy), commands]
    rfl

/-- R67, R203: what is told of the tables. -/
def tablesTold (s : State) : State :=
  tableNotices (setLoaded (imageFound s.eeprom) s).2 tableOrder
    (tableNotice 0 (if imageGood (imageFound s.eeprom) then .valid else .invalid) causeStartUp 0
      (s.setTables (tablesLoaded s)))

theorem endStartUpLoad_eq {s : State} (trains : ∀ o ∈ s.trains, o = none) :
    endStartUpLoad s = updateOwnAddr (leaveStarting (tablesTold s)) := by
  have loaded : (setLoaded (imageFound s.eeprom) s).1 = s.setTables (tablesLoaded s) := setLoaded_tables _ _
  have stands : lengthChanged s.params.L (s.setTables (tablesLoaded s)) = s.setTables (tablesLoaded s) :=
    lengthChanged_none _ trains
  simp only [endStartUpLoad, loaded, stands]
  rfl

theorem announced_tablesTold (s : State) : Announced (s.setTables (tablesLoaded s)) (tablesTold s) :=
  (announced_tableNotice _ _ _ _ _).trans (announced_tableNotices _ _ _)

/-- R172, R183: the tables are taken, authority leaves STARTING, and a hold of 0 is offered with the global record VALID. -/
def startedUp (s : State) : State :=
  (s.setTables (tablesLoaded s)).setAuth { s.auth with
    state := if (tablesLoaded s).geometryValid = true then .monitor else .unconfigured
    lastHold := if (tablesLoaded s).global.isValid = true then some s.clock else s.auth.lastHold }

theorem leaveStarting_leaves {s t : State} (still : quiet s = true) (told : Announced (s.setTables (tablesLoaded s)) t) :
    ∃ p, leaveStarting t = (startedUp s).setPort p ∧ SameLink s.port p ∧
      ∀ x, (tablesLoaded s).global.isValid = true → s.port.out = some x → s.port.commands.length < 16 →
        p.commands = s.port.commands ++ [report (tablesLoaded s).params.noticeGroup 0x48 [0, 0]] := by
  let state : AuthState := if (tablesLoaded s).geometryValid = true then .monitor else .unconfigured
  have tables : t.tables = tablesLoaded s := told.relayed.kept.tables
  have auth : t.auth = s.auth := by rw [told.relayed.rest]; rfl
  have moved : Announced (setAuthState state (s.setTables (tablesLoaded s))) (moveAuth state t) := by
    have carried := told.setAuth { t.auth with state := state }
    rw [auth] at carried
    refine carried.trans ?_
    rw [← auth]
    exact announced_moveAuth state t
  have calm : quiet (moveAuth state t) = true := moved.relayed.kept.quiet (by exact still)
  have at_move := moved.relayed.eq_setPort (by exact still)
  have moved_tables : (moveAuth state t).tables = tablesLoaded s := moved.relayed.kept.tables
  have leaves : leaveStarting t = if (tablesLoaded s).global.isValid = true then offerHold 0 0 (moveAuth state t)
      else moveAuth state t := by
    simp only [leaveStarting, geometryValid, (kept_moveAuth _ _).tables, tables]
    rfl
  rw [leaves, startedUp]
  cases valid : (tablesLoaded s).global.isValid
  · exact ⟨_, at_move, moved.relayed.link, fun _ absent => absurd absent Bool.false_ne_true⟩
  · have dest : noticeDest (moveAuth state t) = (tablesLoaded s).params.noticeGroup := by
      simp [noticeDest, State.params, moved_tables, valid]
    have offered := relayed_offerCommand ⟨noticeDest (moveAuth state t), kindHold, [byte 0, byte 0], false⟩
      (moveAuth state t) rfl (by simp [kindHold, kindTest])
    have at_offer := offered.eq_setPort calm
    refine ⟨_, ?_, moved.relayed.link.trans offered.link, fun x _ busy room => ?_⟩
    · refine (congrArg (fun u : State => u.setAuth { (moveAuth state t).auth with
        lastHold := some (moveAuth state t).clock }) at_offer).trans ?_
      generalize (offerCommand _ (moveAuth state t)).port = p
      rw [at_move]
      rfl
    · obtain ⟨out, commands, _⟩ := moved.busy x busy
      rw [offerCommand_commands _ out (by rw [commands]; exact room), commands, dest]
      rfl

theorem endStartUpLoad_leaves {s : State} (still : quiet s = true) (trains : ∀ o ∈ s.trains, o = none) :
    ∃ p, endStartUpLoad s = updateOwnAddr ((startedUp s).setPort p) ∧ SameLink s.port p ∧
      ∀ x, (tablesLoaded s).global.isValid = true → s.port.out = some x → s.port.commands.length < 16 →
        p.commands = s.port.commands ++ [report (tablesLoaded s).params.noticeGroup 0x48 [0, 0]] := by
  obtain ⟨p, left, link, hold⟩ := leaveStarting_leaves still (announced_tablesTold s)
  exact ⟨p, (endStartUpLoad_eq trains).trans (congrArg updateOwnAddr left), link, hold⟩

/-! ## The statement -/

theorem startedUp_left (s : State) : (startedUp s).auth.state ≠ .starting := by
  show ite _ _ _ ≠ _
  split <;> exact AuthState.noConfusion

/-- The device as the load has found it. -/
def answering (answers : Bool) (s : State) : State := s.setEeprom { s.eeprom with answers := answers }

theorem exec_startUpLoadEnd {s : State} (answers : Bool) (running : s.chip.inReset = false)
    (service : s.chip.testMode = false) (starting : s.auth.state = .starting) :
    exec (.startUpLoadEnd answers) s = finish (endStartUpLoad (answering answers s)) := by
  have load : loading s = true := by simp [loading, running, service, starting]
  exact congrArg finish (if_pos load)

/-- R203 step 3, R195, R196: what a good image makes of a table that starts at an address. -/
theorem tablesLoaded_good {s : State} (sign : loadByte s.eeprom 0 = 0x5C) (crc : crcRight s.eeprom) {id : TableId}
    {start : Nat} (starts : start = bodyOffset id + 1) :
    let read := loadByte s.eeprom
    let x := (tablesLoaded s).get id
    let n := (read (start + 1)).toNat
    let then_ := (closingOrder.dropWhile fun j => decide (j ≠ id)).foldl setInvalid (tablesLoaded s)
    ParamsFollow s.tables.params (tablesLoaded s) ∧
    (∀ i j, i < id.capacity → j < id.recordSize → x.recs.length = id.capacity ∧
      (x.fields i)[j]? = some (read (start + 2 + i * id.recordSize + j))) ∧
    x.written = (List.range id.capacity).map (fun i => decide (i < (if id = .global then 2 * n else n))) ∧
    ((read start).toNat ≠ 2 → x.validity = .invalid ∧ x.count = n) ∧
    ((read start).toNat = 2 →
      (closeCheck then_ id n = none → x.validity = .valid ∧
        x.count = (if id = .global then 1 else if id = .hash then 64 else n)) ∧
      (closeCheck then_ id n ≠ none → x.validity = .invalid ∧ x.count = 0)) := by
  intro read x n then_
  have count : storedCount (bodyRead s.eeprom) id = n := by
    rw [storedCount_eq]
    simp only [n, read, starts]
  have marks : (loadedTable (bodyRead s.eeprom) id).written =
      (List.range id.capacity).map (fun i => decide (i < (if id = .global then 2 * n else n))) := by
    rw [← count]
    cases id <;> rfl
  have final : (closeStored (bodyRead s.eeprom) closingOrder (imageTables (bodyRead s.eeprom) s)).1 = tablesLoaded s := by
    rw [tablesLoaded, imageFound_good sign crc, setLoaded_good]
  obtain ⟨params, recs, written, absent, held⟩ := get_closeStored (before := s.tables.params)
    (body := bodyRead s.eeprom) (id := id) (t := imageTables (bodyRead s.eeprom) s) rfl
    (fun j => get_takeTables _ _ j)
  simp only [final, count] at params recs written absent held
  have stored := storedValid_iff s.eeprom id
  rw [← starts] at stored
  refine ⟨params, fun i j hi hj => ⟨?length, ?field⟩, written.trans marks, fun other => ?invalid, fun two => ?valid⟩
  case length => exact (congrArg List.length recs).trans (length_cutRecords _ _ _)
  case field =>
    have same : x.fields = (loadedTable (bodyRead s.eeprom) id).fields := by
      funext k
      exact congrArg (fun l => l.getD k []) recs
    rw [same, starts]
    exact loadedTable_field s.eeprom id hi hj
  case invalid =>
    have table : x = loadedTable (bodyRead s.eeprom) id :=
      absent (Bool.eq_false_iff.2 fun held => other (stored.1 held))
    rw [table]
    exact ⟨rfl, count⟩
  case valid =>
    obtain ⟨passes, fails⟩ := held (stored.2 two)
    refine ⟨fun check => ⟨(passes check).1, (passes check).2.trans ?_⟩, fails⟩
    cases id <;> rfl

/-- R172, R183, R203: what the end of the start-up load leaves. -/
structure LoadEnded (answers : Bool) (s u : State) : Prop where
  rest : u = { s with port := u.port, auth := u.auth, tables := u.tables, eeprom := { s.eeprom with answers := answers } }
  tables : tablesLoaded (answering answers s) = u.tables
  auth : u.auth = { s.auth with
    state := if u.tables.geometryValid = true then .monitor else .unconfigured
    lastHold := if u.tables.global.isValid = true then some s.clock else s.auth.lastHold }
  ownAddr : u.port.ownAddr =
    if u.tables.global.isValid = true then u.params.ownAddr else 0x7F00 + s.chip.strap.toNat
  earlier : u.port.earlier =
    if u.port.ownAddr = s.port.ownAddr then s.port.earlier else some (s.port.ownAddr, 1000)
  hold : ∀ x, u.tables.global.isValid = true → s.port.out = some x → s.port.commands.length < 16 →
    u.port.commands = s.port.commands ++ [report u.params.noticeGroup 0x48 [0, 0]]

theorem loadEnded {s : State} (answers : Bool) (still : quiet s = true) (trains : ∀ o ∈ s.trains, o = none) :
    LoadEnded answers s (endStartUpLoad (answering answers s)) := by
  obtain ⟨p, leaves, link, hold⟩ := endStartUpLoad_leaves (s := answering answers s) (by exact still) (by exact trains)
  have own : p.ownAddr = s.port.ownAddr := link.ownAddr
  have old : p.earlier = s.port.earlier := link.earlier
  rw [leaves, updateOwnAddr_eq, ownAddrNow_eq (by exact startedUp_left _), startedUp]
  generalize loaded : tablesLoaded (answering answers s) = T at *
  refine ⟨rfl, loaded, rfl, rfl, ?_, hold⟩
  rw [← own, ← old]
  rfl

/-- Settles O56: the tables by what the image holds, then what the blocks do. -/
theorem startUpLoadTakesTheImage : Obligations.StartUpLoadTakesTheImage := by
  unfold Obligations.StartUpLoadTakesTheImage
  intro answers s running service still starting live trains c read body right start order
  have starts : ∀ id, start id = bodyOffset id + 1 := fun id => by cases id <;> rfl
  have same : crcRight (answering answers s).eeprom = right := rfl
  obtain ⟨store, fault, port⟩ := tablesLoaded_rest (answering answers s)
  have stand := tablesLoaded_stand (s := answering answers s)
  have good := fun sign crc id => tablesLoaded_good (s := answering answers s) sign crc (starts id)
  rw [same] at fault stand good
  have load := loadEnded answers still trains
  rw [exec_startUpLoadEnd answers running service starting]
  generalize endStartUpLoad (answering answers s) = u at *
  rw [load.tables] at store fault port stand good
  have due : u.chip.softResetDue = false := by
    have due := quiet_due still
    rw [load.rest]
    exact due
  refine ⟨_, finish_ended due, ?rest, ?fault, store, ?port, ?stand, ?good, load.auth, load.ownAddr, load.earlier, load.hold⟩
  case rest => exact congrArg (fun v : State => v.setOuts (outputsOf u)) load.rest
  case fault => exact Bool.eq_iff_iff.2 (fault.trans decide_eq_true_iff.symm)
  case port => exact port
  case stand => exact stand
  case good =>
    intro sign crc
    refine ⟨?params, ?table⟩
    case params =>
      obtain ⟨params, _⟩ := good sign crc .global
      exact params
    case table =>
      intro id
      obtain ⟨_, records, written, absent, held⟩ := good sign crc id
      exact ⟨records, written, absent, held⟩

end Sys2Proof.Machine
end

section
/-!
The checks of CLOSE LOAD (R195 to R197) as the statements say them: which records each check names.
-/

namespace Sys2Proof.Machine

open Sys2Proof

/-! ## The words of the checks -/

theorem unwritten_iff (t : Table) (i : Nat) : unwritten t i = true ↔ t.written[i]? ≠ some true := by
  rw [unwritten, List.getD_eq_getElem?_getD]
  rcases t.written[i]? with _ | b
  · simp
  · cases b <;> simp

theorem whileValid_iff (t : Table) (b : Bool) : whileValid t b = true ↔ t.validity = .valid ∧ b = true := by
  simp [whileValid, Table.isValid]

theorem inRange_iff (lo hi n : Nat) : inRange lo hi n = true ↔ lies lo hi n := by simp [inRange, lies]

theorem stationEnabled_iff (t : TableStore) (i : Nat) :
    stationEnabled t i = true ↔ at8 (t.stations.fields i) 0 = 1 := by simp [stationEnabled]

/-- The role codes up to 3 are those with a chainage, those up to 2 those with a zone. -/
theorem hasChainage_iff (n : Nat) : hasChainage (roleOfCode n) = true ↔ n ≤ 3 := by
  unfold roleOfCode
  split
  all_goals simp [hasChainage]
  grind

theorem hasZone_iff (n : Nat) : hasZone (roleOfCode n) = true ↔ n ≤ 2 := by
  unfold roleOfCode
  split
  all_goals simp [hasZone]
  grind

theorem chainageBeyond_iff (t : TableStore) (L i : Nat) : chainageBeyond t L i = true ↔
    at8 (t.stations.fields i) 0 = 1 ∧ at8 (t.stations.fields i) 3 ≤ 3 ∧ L < at16 (t.stations.fields i) 4 := by
  simp only [chainageBeyond, Bool.and_eq_true, stationEnabled_iff, decide_eq_true_eq, and_assoc]
  rw [stationRole, hasChainage_iff]
  rfl

theorem zoneBeyond_iff (t : TableStore) (n i : Nat) : zoneBeyond t n i = true ↔
    at8 (t.stations.fields i) 0 = 1 ∧ at8 (t.stations.fields i) 3 ≤ 2 ∧ n ≤ at8 (t.stations.fields i) 6 := by
  simp only [zoneBeyond, Bool.and_eq_true, stationEnabled_iff, decide_eq_true_eq, and_assoc]
  rw [stationRole, hasZone_iff]
  rfl

theorem sharesDrive_iff (t : TableStore) (m n i f : Nat) : sharesDrive t m n i f = true ↔
    i < m ∧ f < n ∧ at8 (t.stations.fields i) 0 = 1 ∧ at16 (t.stations.fields i) 1 = at16 (t.fans.fields f) 0 := by
  simp only [sharesDrive, Bool.and_eq_true, stationEnabled_iff, decide_eq_true_eq, and_assoc]
  rfl

theorem groupBadlyFilled_iff (t : TableStore) (n g : Nat) : groupBadlyFilled t n g = true ↔
    ¬ lies 1 3 ((List.range n).filter fun f => decide (at8 (t.fans.fields f) 2 = g)).length := by
  rw [groupBadlyFilled, Bool.not_eq_true', Bool.eq_false_iff, Ne, inRange_iff, fansInGroup,
    List.countP_eq_length_filter]
  rfl

theorem any_range_iff (n : Nat) (p : Nat → Bool) : (List.range n).any p = true ↔ ∃ k < n, p k = true := by
  simp

theorem repeats_iff (l : List Nat) : repeats l = true ↔ ¬ l.Nodup := by
  induction l with
  | nil => simp [repeats]
  | cons x xs ih => simp [repeats, ih, List.nodup_cons, Decidable.imp_iff_not_or]

theorem mem_failing {n i : Nat} {bad : Nat → Bool} : i ∈ failing n bad ↔ i < n ∧ bad i = true := by
  simp [failing]

/-! ## What each set of checks finds -/

/-- R196: the findings of the checks of a table closed with a count. -/
def findings (t : TableStore) (id : TableId) (n : Nat) : Findings :=
  match id with
  | .global => checkGlobal t
  | .zones => checkZones t n
  | .stations => checkStations t n
  | .fans => checkFans t n
  | .groups => checkGroups t n
  | .hash => ⟨[], false⟩
  | .directory => checkDirectory t n
  | .scenarios => checkScenarios t n

theorem mem_findings_global (t : TableStore) (n i : Nat) :
    i ∈ (findings t .global n).records ↔ recordFails t .global n i := by
  have bad : ∀ b : Bool, i ∈ (if b = true then [0] else []) ↔ i = 0 ∧ b = true := fun b => by cases b <;> simp
  refine (bad _).trans (and_congr_right fun zero => ?_)
  subst zero
  simp only [Bool.or_eq_true, unwritten_iff, decide_eq_true_eq, whileValid_iff, any_range_iff, chainageBeyond_iff, or_assoc]
  rfl

theorem mem_findings_zones (t : TableStore) (n i : Nat) :
    i ∈ (findings t .zones n).records ↔ recordFails t .zones n i := by
  refine mem_failing.trans (and_congr_right fun _ => ?_)
  simp only [Bool.or_eq_true, unwritten_iff, decide_eq_true_eq, whileValid_iff, or_assoc]
  refine or_congr Iff.rfl (or_congr ?_ Iff.rfl)
  exact and_congr_right fun zero => by rw [zero]; rfl

theorem mem_findings_stations (t : TableStore) (n i : Nat) :
    i ∈ (findings t .stations n).records ↔ recordFails t .stations n i := by
  refine mem_failing.trans (and_congr_right fun below => ?_)
  simp only [Bool.or_eq_true, unwritten_iff, decide_eq_true_eq, whileValid_iff, any_range_iff, chainageBeyond_iff,
    zoneBeyond_iff, sharesDrive_iff, Bool.and_eq_true, stationEnabled_iff, or_assoc, and_assoc]
  refine or_congr Iff.rfl (or_congr ?shared (or_congr (and_congr_right fun _ => ?drive) Iff.rfl))
  case shared => exact exists_congr fun k => and_congr_right fun _ => and_congr_left fun _ => ne_comm
  case drive =>
    exact exists_congr fun f => and_congr_right fun within => ⟨fun h => h.2.2, fun h => ⟨below, within, h⟩⟩

theorem mem_findings_fans (t : TableStore) (n i : Nat) :
    i ∈ (findings t .fans n).records ↔ recordFails t .fans n i := by
  refine mem_failing.trans (and_congr_right fun below => ?_)
  simp only [Bool.or_eq_true, unwritten_iff, decide_eq_true_eq, whileValid_iff, any_range_iff, sharesDrive_iff, or_assoc]
  refine or_congr Iff.rfl (or_congr Iff.rfl (and_congr_right fun _ => ?_))
  exact exists_congr fun k => and_congr_right fun within => ⟨fun h => h.2.2, fun h => ⟨within, below, h⟩⟩

theorem mem_findings_groups (t : TableStore) (n i : Nat) :
    i ∈ (findings t .groups n).records ↔ recordFails t .groups n i := by
  refine mem_failing.trans (and_congr_right fun _ => ?_)
  simp only [Bool.or_eq_true, unwritten_iff, decide_eq_true_eq, whileValid_iff, groupBadlyFilled_iff, or_assoc]
  rfl

theorem mem_findings_directory (t : TableStore) (n i : Nat) :
    i ∈ (findings t .directory n).records ↔ recordFails t .directory n i := by
  refine mem_failing.trans (and_congr_right fun _ => ?_)
  simp only [Bool.or_eq_true, unwritten_iff, decide_eq_true_eq, directoryBeyond]
  rfl

theorem mem_findings_scenarios (t : TableStore) (n i : Nat) :
    i ∈ (findings t .scenarios n).records ↔ recordFails t .scenarios n i := by
  refine mem_failing.trans (and_congr_right fun _ => ?_)
  simp only [Bool.or_eq_true, unwritten_iff, decide_eq_true_eq, repeats_iff, List.any_eq_true, or_assoc]
  rfl

/-- R196: the records that a check names. -/
theorem mem_findings (t : TableStore) (id : TableId) (n i : Nat) :
    i ∈ (findings t id n).records ↔ recordFails t id n i := by
  cases id
  case global => exact mem_findings_global t n i
  case zones => exact mem_findings_zones t n i
  case stations => exact mem_findings_stations t n i
  case fans => exact mem_findings_fans t n i
  case groups => exact mem_findings_groups t n i
  case hash => simp [findings, recordFails]
  case directory => exact mem_findings_directory t n i
  case scenarios => exact mem_findings_scenarios t n i

/-- R195: a check that names no record of the closed table. -/
theorem findings_other (t : TableStore) (id : TableId) (n : Nat) :
    (findings t id n).other = true ↔ otherFails t id n := by
  cases id
  case zones =>
    simp only [findings, checkZones, whileValid_iff, any_range_iff, zoneBeyond_iff]
    rfl
  case fans =>
    simp only [findings, checkFans, whileValid_iff, any_range_iff, groupBadlyFilled_iff]
    rfl
  case groups =>
    simp only [findings, checkGroups, whileValid_iff, any_range_iff, decide_eq_true_eq]
    rfl
  case scenarios =>
    simp only [findings, checkScenarios, whileValid_iff, any_range_iff, directoryBeyond, decide_eq_true_eq]
    rfl
  all_goals simp [findings, otherFails, checkGlobal, checkStations, checkDirectory]

/-! ## The outcome -/

theorem closeCheck_of_mayClose {t : TableStore} {id : TableId} {n : Nat} (h : mayClose t id n) :
    closeCheck t id n = (findings t id n).firstBad := by
  have within : ∀ {m : Nat} (f : Findings), lies 1 m n →
      (if inRange 1 m n = true then f.firstBad else some noRecord) = f.firstBad := fun f l =>
    if_pos ((inRange_iff _ _ _).2 l)
  cases id
  case global => rfl
  case zones => exact within _ h
  case stations => exact within _ h
  case fans => exact within _ h
  case groups => exact within _ h
  case hash => rfl
  case directory => exact (if_pos ((isValid_iff _).2 h.2)).trans (within _ h.1)
  case scenarios => exact (if_pos ((isValid_iff _).2 h.2)).trans (within _ h.1)

theorem closeCheck_of_not_mayClose {t : TableStore} {id : TableId} {n : Nat} (h : ¬ mayClose t id n) :
    closeCheck t id n = some 0xFFFF := by
  have without : ∀ {m : Nat} (f : Findings), ¬ lies 1 m n →
      (if inRange 1 m n = true then f.firstBad else some noRecord) = some 0xFFFF := fun f l =>
    if_neg fun r => l ((inRange_iff _ _ _).1 r)
  have ordered : ∀ {m : Nat} (x : Table) (f : Findings), ¬ (lies 1 m n ∧ x.validity = .valid) →
      (if x.isValid = true then if inRange 1 m n = true then f.firstBad else some noRecord else some noRecord) =
        some 0xFFFF := fun x f l => by
    split
    · rename_i valid
      exact without f fun r => l ⟨r, (isValid_iff _).1 valid⟩
    · rfl
  cases id
  case global => exact absurd trivial h
  case zones => exact without _ h
  case stations => exact without _ h
  case fans => exact without _ h
  case groups => exact without _ h
  case hash => exact absurd trivial h
  case directory => exact ordered _ _ h
  case scenarios => exact ordered _ _ h

theorem firstBad_of_least {f : Findings} {i : Nat} (bad : i ∈ f.records) (least : ∀ j < i, j ∉ f.records) :
    f.firstBad = some i := by
  have first : f.records.min? = some i :=
    List.min?_eq_some_iff.2 ⟨bad, fun j hj => Nat.not_lt.1 fun below => least j below hj⟩
  simp [Findings.firstBad, first]

theorem firstBad_of_none {f : Findings} (good : ∀ i, i ∉ f.records) :
    f.firstBad = if f.other = true then some 0xFFFF else none := by
  have empty : f.records = [] := List.eq_nil_iff_forall_not_mem.2 good
  simp only [Findings.firstBad, empty]
  rfl

/-- R195 to R197: the outcome of the checks, as the statement says it. -/
theorem closeCheck_outcome (t : TableStore) (id : TableId) (n : Nat) :
    let bad := recordFails t id n
    (closeCheck t id n = none ↔ mayClose t id n ∧ (∀ i, ¬ bad i) ∧ ¬ otherFails t id n) ∧
    (mayClose t id n → ∀ i, bad i → (∀ j < i, ¬ bad j) → closeCheck t id n = some i) ∧
    (¬ mayClose t id n ∨ ((∀ i, ¬ bad i) ∧ otherFails t id n) → closeCheck t id n = some 0xFFFF) := by
  intro bad
  have least : mayClose t id n → ∀ i, bad i → (∀ j < i, ¬ bad j) → closeCheck t id n = some i :=
    fun may i hi first => by
      rw [closeCheck_of_mayClose may]
      exact firstBad_of_least ((mem_findings t id n i).2 hi) fun j below hj => first j below ((mem_findings t id n j).1 hj)
  have without : mayClose t id n → (∀ i, ¬ bad i) →
      closeCheck t id n = if (findings t id n).other = true then some 0xFFFF else none := fun may good => by
    rw [closeCheck_of_mayClose may]
    exact firstBad_of_none fun i hi => good i ((mem_findings t id n i).1 hi)
  refine ⟨⟨fun passes => ?passes, fun ⟨may, good, other⟩ => ?good⟩, least, fun fails => ?fails⟩
  case passes =>
    have may : mayClose t id n := by
      by_contra not
      rw [closeCheck_of_not_mayClose not] at passes
      cases passes
    have good : ∀ i, ¬ bad i := fun i hi => by
      classical
      have found := least may (Nat.find ⟨i, hi⟩) (Nat.find_spec ⟨i, hi⟩) fun j below => Nat.find_min ⟨i, hi⟩ below
      rw [passes] at found
      cases found
    refine ⟨may, good, fun other => ?_⟩
    rw [without may good, if_pos ((findings_other t id n).2 other)] at passes
    cases passes
  case good =>
    rw [without may good]
    exact if_neg fun h => other ((findings_other t id n).1 h)
  case fails =>
    rcases fails with not | ⟨good, other⟩
    · exact closeCheck_of_not_mayClose not
    · by_cases may : mayClose t id n
      · rw [without may good]
        exact if_pos ((findings_other t id n).2 other)
      · exact closeCheck_of_not_mayClose may

end Sys2Proof.Machine
end

section
/-!
What the Thrust Planner, the Fan Sequencer and the lookup of a scenario leave as it is: the addresses of the Ring Port, the
authority, the head incident but for its phase, and on a busy OUT the frames that waited (R9 to R14). Of a fan command only
the end of the queue changes, and nothing while the part is not in command (R148).
-/

namespace Sys2Proof.Machine

open Sys2Proof

/-! ## The relations -/

/-- What the planner reads of an incident. -/
def Incident.key (i : Incident) : Nat × Nat × Option Nat := (i.number, i.chainage, i.train)

/-- What every operation under a plan leaves. -/
structure Steered (s t : State) : Prop where
  link : SameLink s.port t.port
  auth : t.auth = s.auth
  keys : t.incidents.list.map Incident.key = s.incidents.list.map Incident.key
  busy : ∀ x, s.port.out = some x → t.port.out = some x ∧ t.port.forward = s.port.forward ∧
    s.port.commands <+: t.port.commands

/-- What every operation leaves that does not enter or leave command. -/
structure Obeyed (s t : State) : Prop extends Steered s t where
  inCommand : t.fans.inCommand = s.fans.inCommand
  idle : s.fans.inCommand = false → ∀ x, s.port.out = some x → t.port.commands = s.port.commands

/-- What a walk, its hand-over and the fans leave: the live plan and its demand too. -/
structure Carried (s t : State) : Prop extends Obeyed s t where
  live : t.live = s.live
  demand : t.plan.demand = s.plan.demand

theorem Steered.refl (s : State) : Steered s s := ⟨.refl _, rfl, rfl, fun _ h => ⟨h, rfl, List.prefix_rfl⟩⟩

theorem Steered.trans {s t u : State} (a : Steered s t) (b : Steered t u) : Steered s u where
  link := a.link.trans b.link
  auth := b.auth.trans a.auth
  keys := b.keys.trans a.keys
  busy := fun x h => by
    obtain ⟨out, forward, commands⟩ := a.busy x h
    obtain ⟨out', forward', commands'⟩ := b.busy x out
    exact ⟨out', forward'.trans forward, commands.trans commands'⟩

theorem Obeyed.refl (s : State) : Obeyed s s := ⟨.refl s, rfl, fun _ _ _ => rfl⟩

theorem Obeyed.trans {s t u : State} (a : Obeyed s t) (b : Obeyed t u) : Obeyed s u where
  toSteered := a.toSteered.trans b.toSteered
  inCommand := b.inCommand.trans a.inCommand
  idle := fun out x h => (b.idle (a.inCommand.trans out) x (a.busy x h).1).trans (a.idle out x h)

theorem Carried.refl (s : State) : Carried s s := ⟨.refl s, rfl, rfl⟩

theorem Carried.trans {s t u : State} (a : Carried s t) (b : Carried t u) : Carried s u where
  toObeyed := a.toObeyed.trans b.toObeyed
  live := b.live.trans a.live
  demand := b.demand.trans a.demand

theorem Carried.ite {s t u : State} {c : Prop} [Decidable c] (a : Carried s t) (b : Carried s u) :
    Carried s (if c then t else u) := by split <;> assumption

theorem Obeyed.ite {s t u : State} {c : Prop} [Decidable c] (a : Obeyed s t) (b : Obeyed s u) :
    Obeyed s (if c then t else u) := by split <;> assumption

/-- A block other than the Ring Port and authority changes. -/
theorem obeyed_of_port {s t : State} (port : t.port = s.port) (auth : t.auth = s.auth)
    (keys : t.incidents.list.map Incident.key = s.incidents.list.map Incident.key)
    (command : t.fans.inCommand = s.fans.inCommand) : Obeyed s t where
  link := port ▸ .refl _
  auth := auth
  keys := keys
  busy := fun x h => ⟨port ▸ h, by rw [port], by rw [port]⟩
  inCommand := command
  idle := fun _ _ _ => by rw [port]

theorem carried_setFans (s : State) (x : Sequencer) (h : x.inCommand = s.fans.inCommand) : Carried s (s.setFans x) :=
  ⟨obeyed_of_port rfl rfl rfl h, rfl, rfl⟩

theorem carried_setPlan (s : State) (x : Plan) (h : x.demand = s.plan.demand) : Carried s (s.setPlan x) :=
  ⟨obeyed_of_port rfl rfl rfl rfl, rfl, h⟩

theorem carried_setPhase (p : Phase) (s : State) : Carried s (setPhase p s) := by
  refine ⟨obeyed_of_port rfl rfl ?_ rfl, rfl, rfl⟩
  unfold setPhase
  rcases s.incidents.list with _ | ⟨i, rest⟩ <;> rfl

theorem obeyed_setLive (s : State) (x : Option Live) : Obeyed s (s.setLive x) := obeyed_of_port rfl rfl rfl rfl

/-! ## Offers -/

/-- A frame of the report class. -/
theorem Announced.carried {s t : State} (a : Announced s t) (forward : ∀ x, s.port.out = some x →
    t.port.forward = s.port.forward) : Carried s t where
  link := a.relayed.link
  auth := by rw [a.relayed.rest]
  keys := by rw [a.relayed.rest]
  busy := fun x h => by
    obtain ⟨out, commands, _⟩ := a.busy x h
    exact ⟨out, forward x h, commands ▸ List.prefix_rfl⟩
  inCommand := by rw [a.relayed.rest]
  idle := fun _ x h => (a.busy x h).2.1
  live := by rw [a.relayed.rest]
  demand := by rw [a.relayed.rest]

theorem carried_offerReport (q : QFrame) (s : State) (h : q.softReset = false) (k : q.kind ≠ kindTest) :
    Carried s (offerReport q s) := by
  refine (announced_offerReport q s h k).carried fun x busy => ?_
  by_cases room : insertCount s.port < Config.insertCapacity
  · rw [offerReport_busy q busy room]
  · rw [offerReport_of_full q room, dropReport_plain s h, dropCounted_eq]

theorem carried_notice (c n : Nat) (f : List Byte) (s : State) : Carried s (notice c n f s) :=
  carried_offerReport _ s rfl (by simp [noticeFrame, kindNotice, kindTest])

theorem carried_headNotice (c : Nat) (f : List Byte) (s : State) : Carried s (headNotice c f s) := carried_notice _ _ _ s

/-- R12: on a busy OUT a command ends the queue, or is dropped. -/
theorem offerCommand_keeps {s : State} {x : TxFrame} (q : QFrame) (busy : s.port.out = some x) :
    (offerCommand q s).port.out = some x ∧ (offerCommand q s).port.forward = s.port.forward ∧
      s.port.commands <+: (offerCommand q s).port.commands := by
  by_cases room : insertCount s.port < Config.insertCapacity
  · rw [offerCommand_busy q busy room]
    exact ⟨busy, rfl, List.prefix_append _ _⟩
  · rcases last : s.port.reports.getLast? with _ | r
    · rw [offerCommand_of_full q room last]
      unfold State.count
      split <;> exact ⟨busy, rfl, List.prefix_rfl⟩
    · obtain ⟨out, commands, forward⟩ := dropReport_queues r (displacedBy q s)
      rw [offerCommand_of_report q r room last]
      refine (serve_of_busy (out.trans busy)).symm ▸ ⟨out.trans busy, forward, ?_⟩
      exact commands.symm ▸ List.prefix_append _ _

/-! ## Thrust Planner -/

theorem obeyed_setDemand (x : Int) (s : State) : Obeyed s (setDemand x s) := by
  have planned : ∀ y, Obeyed s (s.setPlan y) := fun y => obeyed_of_port rfl rfl rfl rfl
  unfold setDemand
  simp only []
  split
  · exact (planned _).trans (carried_headNotice _ _ _).toObeyed
  · exact planned _

theorem obeyed_computeOpenLoop (s : State) : Obeyed s (computeOpenLoop s) := by
  unfold computeOpenLoop
  split
  · exact .refl _
  · exact obeyed_setDemand _ _

theorem carried_takeSelection (sel : List Nat) (s : State) : Carried s (takeSelection sel s) := by
  have planned : ∀ n, Carried s (s.setPlan { s.plan with selection := sel, shortfall := n }) :=
    fun n => carried_setPlan _ _ rfl
  unfold takeSelection
  simp only []
  split
  · exact planned _
  · exact (planned _).trans (carried_headNotice _ _ _)

theorem carried_freshWalk (s : State) : Carried s (freshWalk s) := carried_takeSelection _ s
theorem carried_hysteresisWalk (s : State) : Carried s (hysteresisWalk s) := carried_takeSelection _ s
theorem carried_recordWanted (s : State) : Carried s (recordWanted s) := carried_setFans s _ rfl
theorem carried_setTrim (x : Option Nat) (s : State) : Carried s (setTrim x s) := carried_setPlan s _ rfl

theorem carried_phaseTest (s : State) : Carried s (phaseTest s) := by
  have entered : ∀ p x, Carried s (setTrim x (phaseNotice p (setPhase p s))) := fun p x =>
    ((carried_setPhase p s).trans (carried_headNotice _ _ _)).trans (carried_setTrim x _)
  unfold phaseTest
  split
  · exact entered _ _
  · exact entered _ _
  · exact .refl _

/-! ## Fan Sequencer -/

theorem carried_setFan (s : State) (f : Nat) (r : FanRecord) : Carried s (s.setFan f r) := carried_setFans s _ rfl
theorem carried_modFan (f : Nat) (g : FanRecord → FanRecord) (s : State) : Carried s (modFan f g s) := carried_setFan s f _
theorem carried_setFanState (f : Nat) (x : FanState) (s : State) : Carried s (setFanState f x s) := carried_modFan f _ s
theorem carried_setQueue (q : List Nat) (s : State) : Carried s (setQueue q s) := carried_setFans s _ rfl

/-- R148: a fan command is offered in command alone. -/
theorem carried_offerFanCommand (f : Nat) (c : FanCommand) (s : State) : Carried s (offerFanCommand f c s) := by
  unfold offerFanCommand
  split
  · exact carried_headNotice _ _ _
  · split
    · rename_i commanded
      have inCommand : s.fans.inCommand = true := (Bool.and_eq_true_iff.1 commanded).1
      generalize frame : (⟨fanAddr s.tables f, kindFanCommand, commandPayload c, false⟩ : QFrame) = q
      have leaves := offerCommand_rest q s
      exact
        { link := sameLink_offerCommand q s
          auth := by rw [leaves]
          keys := by rw [leaves]
          busy := fun x busy => offerCommand_keeps q busy
          inCommand := by rw [leaves]
          idle := fun out => absurd (out.symm.trans inCommand) Bool.false_ne_true
          live := by rw [leaves]
          demand := by rw [leaves] }
    · exact .refl _

theorem carried_sendCommand (f : Nat) (a : Action) (d : Drive) (x : SpeedStep) (s : State) :
    Carried s (sendCommand f a d x s) := (carried_setFan s f _).trans (carried_offerFanCommand f _ _)

theorem carried_stopFan (f : Nat) (s : State) : Carried s (stopFan f s) :=
  (carried_sendCommand f _ _ _ s).trans (carried_modFan f _ _)

theorem carried_joinQueue (f : Nat) (s : State) : Carried s (joinQueue f s) := by
  unfold joinQueue
  simp only []
  split
  · exact (carried_setQueue _ s).trans (carried_setFanState f _ _)
  · exact .refl _

theorem carried_deriveFan (f : Nat) (s : State) : Carried s (deriveFan f s) := by
  refine (carried_modFan f _ s : Carried s (stopTimers f s)).trans ?_
  have stop : ∀ x, Carried (stopTimers f s) (sendStop f (setFanState f x (stopTimers f s))) := fun x =>
    (carried_setFanState f x _).trans (carried_sendCommand f _ _ _ _)
  unfold deriveFan
  simp only []
  split
  · split
    case h_5 => exact carried_setFanState f _ _
    all_goals exact stop _
  · split
    · exact carried_setFanState f _ _
    · split
      · exact carried_setFanState f _ _
      · exact carried_setFanState f _ _
      · exact .ite (carried_setFanState f _ _) (carried_stopFan f _)
      · exact .ite (carried_modFan f _ _) (carried_stopFan f _)
      · exact carried_stopFan f _
      · exact carried_stopFan f _
      · exact .ite (carried_modFan f _ _) (carried_setFanState f _ _)

theorem carried_notifyChange (f : Nat) (old : FanState) (s : State) : Carried s (notifyChange f old s) :=
  .ite (carried_phaseTest s) (.refl s)

theorem carried_startFan (f : Nat) (s : State) : Carried s (startFan f s) := by
  unfold startFan
  split
  · exact .refl _
  · have left : Carried s (leaveQueue f s) := carried_setQueue _ s
    refine Carried.trans ?_ (carried_notifyChange f _ _)
    refine Carried.trans ?_ (carried_setFans _ _ (by rfl))
    exact (left.trans (carried_sendCommand f _ _ _ _)).trans (carried_modFan f _ _)

theorem carried_startLoop (n : Nat) (s : State) : Carried s (startLoop n s) := by
  induction n generalizing s with
  | zero => exact .refl s
  | succ n ih =>
    unfold startLoop
    split
    · exact .refl s
    · exact .ite ((carried_startFan _ s).trans (ih _)) (.refl s)

theorem carried_startTests (s : State) : Carried s (startTests s) := carried_startLoop _ s

theorem carried_applyWanted (f : Nat) (s : State) : Carried s (applyWanted f s) := by
  unfold applyWanted
  simp only []
  split
  · exact carried_joinQueue f s
  · exact .ite (.refl s) ((carried_setQueue _ s).trans (carried_setFanState f _ _))
  · split
    · exact .ite (.refl s) (carried_stopFan f s)
    · exact carried_stopFan f s
  · exact .ite (.refl s) (carried_stopFan f s)
  · exact .ite (.refl s) (carried_stopFan f s)
  · exact .refl s

theorem carried_foldl {f : State → Nat → State} (h : ∀ s k, Carried s (f s k)) (ks : List Nat) (s : State) :
    Carried s (ks.foldl f s) := by
  induction ks generalizing s with
  | nil => exact .refl s
  | cons k ks ih => exact (h s k).trans (ih _)

theorem carried_takeWanted (s : State) (f : Nat) : Carried s (takeWanted s f) :=
  ((carried_applyWanted f s).trans (carried_notifyChange f _ _)).trans (carried_startTests _)

theorem carried_takeWanteds (fs : List Nat) (s : State) : Carried s (takeWanteds fs s) :=
  carried_foldl carried_takeWanted fs s

theorem carried_handWanted (s : State) : Carried s (handWanted s) :=
  (carried_recordWanted s).trans (carried_takeWanteds _ _)

theorem carried_freshRevision (s : State) : Carried s (freshRevision s) :=
  (((carried_freshWalk s).trans (carried_handWanted _)).trans (carried_phaseTest _)).trans (carried_startTests _)

theorem carried_recompute (s : State) : Carried s (recompute s).1 := by
  unfold recompute
  split
  · exact ((carried_hysteresisWalk s).trans (carried_recordWanted _)).trans (carried_phaseTest _)
  · exact .refl s

theorem carried_recomputeFor (fs : List Nat) (p : State × List Nat) : Carried p.1 (recomputeFor fs p).1 := by
  induction fs generalizing p with
  | nil => exact .refl _
  | cons f fs ih =>
    obtain ⟨s, acc⟩ := p
    exact (carried_recompute s).trans (ih ((recompute s).1, acc ++ (recompute s).2))

/-- R145: the takeover, once the part is in command. -/
theorem carried_takeover (s : State) : Carried (s.setFans { s.fans with inCommand := true }) (takeover s) := by
  unfold takeover
  exact ((((carried_foldl (fun u f => carried_deriveFan f u) _ _).trans
    (carried_foldl (fun v f => carried_joinQueue f v) _ _)).trans (carried_recomputeFor _ (_, []))).trans
    ((carried_phaseTest _).trans (carried_startTests _))).trans (carried_takeWanteds _ _)

/-- R146: the coming into command leaves the plan. -/
structure CameIntoCommand (s t : State) : Prop extends Steered s t where
  live : t.live = s.live
  demand : t.plan.demand = s.plan.demand

theorem Carried.came {s t : State} (c : Carried s t) : CameIntoCommand s t := ⟨c.toSteered, c.live, c.demand⟩

theorem cameIntoCommand (s : State) : CameIntoCommand s (comeIntoCommand s) := by
  unfold comeIntoCommand
  split
  · obtain ⟨⟨⟨link, auth, keys, busy⟩, _, _⟩, live, demand⟩ := carried_takeover s
    exact ⟨⟨link, auth, keys, busy⟩, live, demand⟩
  · exact (Carried.refl s).came

theorem inCommand_comeIntoCommand {s : State} (autonomous : s.auth.state = .autonomous) (held : planHeld s = true) :
    (comeIntoCommand s).fans.inCommand = true := by
  unfold comeIntoCommand
  split
  · exact (carried_takeover s).inCommand
  · rename_i stays
    cases commanded : s.fans.inCommand
    · exact absurd (by simp [commanded, autonomous, held]) stays
    · rfl

/-! ## Lookup of a scenario -/

theorem carried_when {f : State → State} {s : State} (b : Bool) (h : Carried s (f s)) : Carried s (when b f s) :=
  .ite h (.refl s)

theorem obeyed_relookup (s : State) : Obeyed s (relookup s) := by
  unfold relookup
  split
  · exact .refl s
  · simp only []
    split
    · split
      · exact (obeyed_setLive s _).trans (.ite (.refl _) (carried_freshRevision _).toObeyed)
      · exact obeyed_setLive s _
    · exact (((obeyed_setLive s _).trans (carried_headNotice _ _ _).toObeyed).trans (obeyed_computeOpenLoop _)).trans
        (carried_freshRevision _).toObeyed

theorem obeyed_tableChanged (s : State) : Obeyed s (tableChanged s) := .ite (obeyed_relookup s) (.refl s)

theorem obeyed_lateLookup (b : Bool) (x : Option Nat) (s : State) : Obeyed s (lateLookup b x s) :=
  ((obeyed_setLive s _).trans (carried_headNotice _ _ _).toObeyed).trans
    (carried_when b (carried_notice _ _ _ _)).toObeyed

end Sys2Proof.Machine
end

section
/-!
Entry into AUTONOMOUS and the lookup of a head on scenario none, in the words of the statements (R109, R173, R175).
-/

namespace Sys2Proof.Machine

open Sys2Proof

/-- A notice as the statements tell it. -/
theorem notice_eq_told (c n : Nat) (f : List Byte) (s : State) : notice c n f s = told (byte c :: byte n :: f) s := rfl

/-! ## Entry into AUTONOMOUS (R31, R175, R182) -/

theorem claimHold_eq (s : State) : claimHold s = holdClaimed s := rfl

/-- R182: the counter of interceptions counts to 255. -/
def countsTo255 (n : Nat) : Nat := if n < 255 then n + 1 else 255

theorem iterate_countsTo255 {n : Nat} (k : Nat) (h : n ≤ 255) : Nat.iterate countsTo255 k n = min 255 (n + k) := by
  induction k generalizing n with
  | zero => simp [h]
  | succ k ih =>
    rw [Function.iterate_succ_apply, ih (by unfold countsTo255; split <;> omega)]
    unfold countsTo255
    split <;> omega

/-- R182: within 1,000 ms of a hold each interception is counted, and brings no hold. -/
theorem interceptions_eq {s : State} (n : Nat) (recent : holdAllowed s = false) : interceptions n s =
    s.setAuth { s.auth with intercepted := Nat.iterate countsTo255 n s.auth.intercepted } := by
  induction n generalizing s with
  | zero => rfl
  | succ n ih =>
    have counted : interception s = s.setAuth { s.auth with intercepted := satCount 255 s.auth.intercepted } := by
      have still : holdAllowed (s.setAuth { s.auth with intercepted := satCount 255 s.auth.intercepted }) = false := recent
      simp only [interception, still, Bool.and_false, Bool.false_eq_true, if_false]
    rw [interceptions, counted, ih (by exact recent)]
    rfl

theorem holdAllowed_claimHold (s : State) : holdAllowed (claimHold s) = false := by
  have clock : (claimHold s).clock = s.clock := (kept_claimHold s).clock
  have last : (claimHold s).auth.lastHold = some s.clock := rfl
  simp [holdAllowed, clock, last, Config.holdSpacing]

/-- R31: the frames told as interceptions are the fan commands of the control centre. -/
theorem intercepts_eq_manualWaits {s : State} (autonomous : s.auth.state = .autonomous) (service : s.auth.dryRun = false)
    (b : List Byte) : intercepts s (frameOf b) = manualWaits s.tables b := by
  have manual : isManualCommand s.tables (frameOf b) = (decide (at8 b 4 = 0x30) &&
      (match lookupSource s.tables (at16 b 2) with
       | .station _ .controlCentre => true
       | _ => false) && isDriveAddr s.tables (at16 b 0)) := rfl
  rw [intercepts, manual, autonomous, service, manualWaits]
  exact Bool.and_comm _ _

theorem purgeForward_claimHold {s : State} (autonomous : s.auth.state = .autonomous) (service : s.auth.dryRun = false) :
    purgeForward (claimHold s) =
      { claimHold s with
        port := { (claimHold s).port with
          forward := (claimHold s).port.forward.filter fun b => !manualWaits (claimHold s).tables b }
        auth := { (claimHold s).auth with
          intercepted := Nat.iterate countsTo255
            ((claimHold s).port.forward.countP (manualWaits (claimHold s).tables)) (claimHold s).auth.intercepted } } := by
  have told : (fun b => intercepts (claimHold s) (frameOf b)) = manualWaits (claimHold s).tables :=
    funext fun b => intercepts_eq_manualWaits (by exact autonomous) (by exact service) b
  have each : ∀ b, intercepts (claimHold s) (frameOf b) = manualWaits (claimHold s).tables b := congrFun told
  simp only [purgeForward, each]
  rw [interceptions_eq _ (by exact holdAllowed_claimHold s)]
  rfl

theorem claimHold_incidents (s : State) : (claimHold s).incidents = s.incidents := by
  show (offerCommand _ s).incidents = _
  rw [offerCommand_rest]

/-- R175 steps 1 to 3: the state, the hold, and the frames that leave the forward queue. -/
def authorityTaken (s : State) : State :=
  if s.auth.dryRun = true then setAuthState .autonomous s else purgeForward (claimHold (setAuthState .autonomous s))

theorem enterAutonomous_eq (s : State) :
    enterAutonomous s = comeIntoCommand (authorityNotice .autonomous s.auth.state (authorityTaken s)) := rfl

/-- R31, R175, R182: out of dry run. -/
theorem authorityTaken_service {s : State} (service : s.auth.dryRun = false) :
    authorityTaken s =
      let h := claimHold (setAuthState .autonomous s)
      { h with
        port := { h.port with forward := h.port.forward.filter fun b => !manualWaits h.tables b }
        auth := { h.auth with
          intercepted := Nat.iterate countsTo255 (h.port.forward.countP (manualWaits h.tables)) h.auth.intercepted } } := by
  rw [authorityTaken, if_neg (by rw [service]; exact Bool.false_ne_true)]
  exact purgeForward_claimHold rfl service

theorem authorityTaken_incidents (s : State) : (authorityTaken s).incidents = s.incidents := by
  cases service : s.auth.dryRun
  · rw [authorityTaken_service service]
    exact claimHold_incidents _
  · rw [authorityTaken, if_pos service]
    rfl

theorem headNumber_of_incidents {s t : State} (h : t.incidents = s.incidents) : headNumber t = headNumber s := by
  rw [headNumber, headNumber, h]

/-- R175: entry into AUTONOMOUS in the words of the statements. -/
theorem takesAuthority_eq (s : State) : takesAuthority s = enterAutonomous s := by
  have notified : authorityNotice .autonomous s.auth.state (authorityTaken s) =
      told [0x15, byte (headNumber s), 3, byte (authCode s.auth.state)] (authorityTaken s) := by
    rw [authorityNotice, headNotice, headNumber_of_incidents (authorityTaken_incidents s)]
    rfl
  rw [enterAutonomous_eq, notified]
  cases service : s.auth.dryRun
  · rw [authorityTaken_service service, takesAuthority, if_neg (by rw [service]; exact Bool.false_ne_true)]
    rfl
  · rw [takesAuthority, if_pos service, authorityTaken, if_pos service]
    rfl

/-- R173: what a CLOSE LOAD brings of authority, in the words of the statements. -/
theorem authorityAtClose_eq (s : State) : authorityAtClose s = geometryClosed s := by
  unfold authorityAtClose geometryClosed
  cases state : s.auth.state
  case unconfigured =>
    cases valid : geometryValid s
    · simp [show s.tables.geometryValid = false from valid]
    · rw [if_pos ⟨rfl, valid⟩, takesAuthority_eq]
      by_cases empty : s.incidents.list = []
      · have listed : incidentListed s = false := by simp [incidentListed, empty]
        rw [if_pos empty, listed, moveAuth, state]
        rfl
      · have listed : incidentListed s = true := by simp [incidentListed, empty]
        rw [if_neg empty, listed]
        rfl
  all_goals simp

/-! ## The lookup of a head on scenario none (R109) -/

/-- R109: the scenario taken once the geometry set is VALID. -/
theorem scenarioTaken_eq (locked : Bool) (timer : Option Nat) (s : State) :
    scenarioTaken (headNumber s) { lookedUp s with locked := locked, lockTimer := timer } true locked s =
      lateLookup locked timer s := by
  have way : ∀ l : Live, byte (liveDirCode l) = match l.dir with | some .towardB => (1 : Byte) | _ => 0 := fun l => by
    unfold liveDirCode
    rcases l.dir with _ | d
    · rfl
    · cases d <;> rfl
  have direction := way ((lookedUp s).withLock locked timer)
  unfold scenarioTaken lateLookup when scenarioNotice lockedNotice
  simp only [direction]
  rfl

/-- R109: the late lookup in the words of the statements. -/
theorem lateScenario_eq (s : State) : lateScenario s = geometryLookup s := by
  unfold lateScenario geometryLookup
  rcases s.live with _ | l
  · rfl
  · simp only [scenarioTaken_eq, Bool.and_eq_true, decide_eq_true_eq]
    rfl

end Sys2Proof.Machine
end

section
/-!
What entry into AUTONOMOUS and the late lookup of a head leave (R109, R122, R146, R175), and what a change of L removes (R67).
-/

namespace Sys2Proof.Machine

open Sys2Proof

/-! ## The head as the planner reads it -/

theorem headNumber_of_keys {s t : State}
    (h : t.incidents.list.map Incident.key = s.incidents.list.map Incident.key) :
    headNumber t = headNumber s ∧ headChainage t = headChainage s ∧ headTrain t = headTrain s := by
  unfold headNumber headChainage headTrain
  rcases before : s.incidents.list with _ | ⟨i, rest⟩ <;> rcases after : t.incidents.list with _ | ⟨j, rest'⟩
  · exact ⟨rfl, rfl, rfl⟩
  · simp [before, after] at h
  · simp [before, after] at h
  · simp only [before, after, List.map_cons, List.cons.injEq, Incident.key, Prod.mk.injEq] at h
    exact ⟨h.1.1, h.1.2.1, h.1.2.2⟩

theorem listed_of_keys {s t : State} (h : t.incidents.list.map Incident.key = s.incidents.list.map Incident.key) :
    t.incidents.list = [] ↔ s.incidents.list = [] := by
  rw [← List.map_eq_nil_iff (f := Incident.key), h, List.map_eq_nil_iff]

/-- R104: the lookup reads the tables, the trains, and the head's chainage and train. -/
theorem lookedUp_congr {s t : State} (tables : t.tables = s.tables) (trains : t.trains = s.trains)
    (h : t.incidents.list.map Incident.key = s.incidents.list.map Incident.key) : lookedUp t = lookedUp s := by
  obtain ⟨_, chainage, train⟩ := headNumber_of_keys h
  simp only [lookedUp, zoneNow, classNow, fallbackDir, fallbackLive, State.params, tables, trains, chainage, train]

theorem lookedUp_scenario (s : State) : (lookedUp s).scenario ≠ .none := by
  unfold lookedUp
  simp only []
  split
  · exact ScenarioRef.noConfusion
  · exact ScenarioRef.noConfusion

theorem CameIntoCommand.trans {s t u : State} (a : CameIntoCommand s t) (b : CameIntoCommand t u) :
    CameIntoCommand s u := ⟨a.toSteered.trans b.toSteered, b.live.trans a.live, b.demand.trans a.demand⟩

/-! ## The late lookup (R109, R122, R128, R146) -/

/-- What the lookup of a head on scenario none leaves. -/
structure LateLooked (l : Live) (s t : State) : Prop extends Steered s t where
  live : t.live = some { lookedUp s with locked := l.locked, lockTimer := l.lockTimer }
  demand : ∀ m, t.live = some m → t.plan.demand = min 65535 ((s.params.R * m.vt ^ 2 + 9999) / 10000 + m.P)
  command : s.auth.state = .autonomous → t.fans.inCommand = true

theorem setDemand_plan (x : Int) (s : State) :
    (setDemand x s).live = s.live ∧ (setDemand x s).plan.demand = (clampInt 0 Config.thrustMax x).toNat := by
  unfold setDemand
  simp only []
  split
  · obtain ⟨_, live, demand⟩ := carried_headNotice 0x10 [] (s.setPlan { s.plan with
      demand := (clampInt 0 Config.thrustMax x).toNat
      saturated := decide ((Config.thrustMax : Int) < x) })
    exact ⟨live, demand⟩
  · exact ⟨rfl, rfl⟩

/-- R121: the open-loop demand, clamped. -/
theorem clamped_openLoop (R vt P : Nat) :
    (clampInt 0 Config.thrustMax (openLoop R vt P)).toNat = min 65535 ((R * vt ^ 2 + 9999) / 10000 + P) := by
  have top : (Config.thrustMax : Int) = 65535 := rfl
  have rounded : openLoop R vt P = (R * vt ^ 2 + 9999) / 10000 + P := rfl
  rw [clampInt, rounded, top]
  split
  · omega
  · split <;> omega

theorem lateLookup_live (b : Bool) (x : Option Nat) (s : State) :
    (lateLookup b x s).live = some ((lookedUp s).withLock b x) :=
  ((carried_headNotice _ _ _).trans (carried_when b (carried_notice _ _ _ _))).live

theorem lateLooked {s : State} {l : Live} (h : s.live = some l) (none : l.scenario = .none)
    (valid : s.tables.geometryValid = true) : LateLooked l s (geometryLookup s) := by
  have runs : geometryLookup s =
      startTests (phaseTest (carryOut (computeOpenLoop (lateLookup l.locked l.lockTimer s)))) := by
    simp [geometryLookup, h, none, geometryValid, valid]
  have found := obeyed_lateLookup l.locked l.lockTimer s
  have found_live := lateLookup_live l.locked l.lockTimer s
  have tables := (kept_lateLookup l.locked l.lockTimer s).tables
  generalize lateLookup l.locked l.lockTimer s = a at runs found found_live tables
  have computed : computeOpenLoop a = setDemand (openLoop a.params.R (lookedUp s).vt (lookedUp s).P) a := by
    rw [computeOpenLoop, found_live]
    rfl
  have steered := (obeyed_computeOpenLoop a).toSteered
  obtain ⟨live, demand⟩ := setDemand_plan (openLoop a.params.R (lookedUp s).vt (lookedUp s).P) a
  rw [← computed, clamped_openLoop] at demand
  rw [← computed, found_live] at live
  generalize computeOpenLoop a = b at runs steered live demand
  have held : ∀ u : State, u.live = b.live → planHeld u = true := fun u same => by
    rw [planHeld, same, live]
    exact decide_eq_true (lookedUp_scenario s)
  have walked := (carried_freshWalk b).trans (carried_handWanted _)
  have carries : carryOut b = comeIntoCommand (handWanted (freshWalk b)) := if_pos (held b rfl)
  have came := walked.came.trans (cameIntoCommand _)
  rw [← carries] at came
  have last := (carried_phaseTest (carryOut b)).trans (carried_startTests _)
  rw [← runs] at last
  have ending := came.trans last.came
  refine { (found.toSteered.trans steered).trans ending.toSteered with
           live := ending.live.trans live, demand := fun m hm => ?demand, command := fun autonomous => ?command }
  case demand =>
    have same := (ending.live.trans live).symm.trans hm
    obtain rfl := Option.some.inj same
    rw [ending.demand, demand, State.params, tables]
    rfl
  case command =>
    have state : (handWanted (freshWalk b)).auth.state = .autonomous := by
      rw [walked.auth, steered.auth, found.auth, autonomous]
    rw [last.inCommand, carries]
    exact inCommand_comeIntoCommand state (held _ walked.live)

theorem geometryLookup_stands {s : State} (h : ∀ l, s.live = some l → l.scenario = .none → s.tables.geometryValid = false) :
    geometryLookup s = s := by
  unfold geometryLookup
  split
  · rfl
  · rename_i l live
    refine if_neg fun both => ?_
    obtain ⟨none, valid⟩ := Bool.and_eq_true_iff.1 both
    exact Bool.false_ne_true ((h l live (of_decide_eq_true none)).symm.trans valid)

theorem steered_geometryLookup (s : State) : Steered s (geometryLookup s) := by
  by_cases looks : ∃ l, s.live = some l ∧ l.scenario = .none ∧ s.tables.geometryValid = true
  · obtain ⟨l, live, none, valid⟩ := looks
    exact (lateLooked live none valid).toSteered
  · rw [geometryLookup_stands fun l live none => Bool.eq_false_iff.2 fun valid => looks ⟨l, live, none, valid⟩]
    exact .refl s

/-! ## Entry into AUTONOMOUS (R175) -/

/-- What entry into AUTONOMOUS leaves. -/
structure AuthorityTaken (s t : State) : Prop where
  link : SameLink s.port t.port
  keys : t.incidents.list.map Incident.key = s.incidents.list.map Incident.key
  state : t.auth.state = .autonomous
  dryRun : s.auth.dryRun = true → t.auth = { s.auth with state := .autonomous }
  service : s.auth.dryRun = false → t.auth.dryRun = false ∧ t.auth.holdRemaining = s.params.holdTime * 1000 ∧
    t.auth.lastHold = some s.clock ∧ ∀ x, s.port.out = some x →
      t.port.out = some x ∧
      t.port.forward = s.port.forward.filter (fun b => !manualWaits s.tables b) ∧
      t.auth.intercepted = Nat.iterate countsTo255 (s.port.forward.countP (manualWaits s.tables)) s.auth.intercepted ∧
      (s.port.commands.length < 16 → s.port.commands ++
        [report (noticeDest s) 0x48 [byte s.params.holdTime, byte (headNumber s)]] <+: t.port.commands)

theorem authorityTaken_leaves (s : State) : AuthorityTaken s (authorityTaken s) := by
  cases service : s.auth.dryRun
  · have tables : (claimHold (setAuthState .autonomous s)).tables = s.tables := (kept_claimHold _).tables
    have taken := authorityTaken_service service
    refine { link := ?link, keys := by rw [authorityTaken_incidents], state := by rw [taken]; rfl,
             dryRun := fun dry => absurd (service.symm.trans dry) Bool.false_ne_true, service := fun _ => ?service }
    case link =>
      rw [taken]
      exact (sameLink_offerCommand (report (noticeDest s) 0x48 [byte s.params.holdTime, byte (headNumber s)])
        (setAuthState .autonomous s)).trans ⟨rfl, rfl, rfl, rfl, rfl, rfl, rfl, rfl⟩
    case service =>
      rw [taken]
      refine ⟨service, rfl, rfl, fun x busy => ?_⟩
      obtain ⟨out, forward, _⟩ := offerCommand_keeps (s := setAuthState .autonomous s)
        (report (noticeDest s) 0x48 [byte s.params.holdTime, byte (headNumber s)]) busy
      have forward : (claimHold (setAuthState .autonomous s)).port.forward = s.port.forward := forward
      refine ⟨out, by simp only [tables, forward], by simp only [tables, forward]; rfl, fun room => ?_⟩
      have entered := offerCommand_commands (s := setAuthState .autonomous s)
        (report (noticeDest s) 0x48 [byte s.params.holdTime, byte (headNumber s)]) busy room
      exact entered ▸ List.prefix_rfl
  · have taken : authorityTaken s = setAuthState .autonomous s := if_pos service
    rw [taken]
    exact { link := .refl _, keys := rfl, state := rfl, dryRun := fun _ => rfl,
            service := fun out => absurd (out.symm.trans service) Bool.false_ne_true }

theorem AuthorityTaken.then {s t u : State} (a : AuthorityTaken s t) (c : Steered t u) : AuthorityTaken s u where
  link := a.link.trans c.link
  keys := c.keys.trans a.keys
  state := by rw [c.auth]; exact a.state
  dryRun := fun dry => c.auth.trans (a.dryRun dry)
  service := fun service => by
    obtain ⟨dry, remaining, last, waits⟩ := a.service service
    rw [c.auth]
    refine ⟨dry, remaining, last, fun x busy => ?_⟩
    obtain ⟨out, forward, intercepted, commands⟩ := waits x busy
    obtain ⟨out', forward', commands'⟩ := c.busy x out
    exact ⟨out', forward'.trans forward, intercepted, fun room => (commands room).trans commands'⟩

theorem enterAutonomous_leaves (s : State) : AuthorityTaken s (enterAutonomous s) :=
  (authorityTaken_leaves s).then ((carried_headNotice _ _ _).came.trans (cameIntoCommand _)).toSteered

theorem claimHold_live (s : State) : (claimHold s).live = s.live := by
  show (offerCommand _ s).live = _
  rw [offerCommand_rest]

theorem enterAutonomous_live (s : State) : (enterAutonomous s).live = s.live := by
  refine ((carried_headNotice _ _ _).came.trans (cameIntoCommand _)).live.trans ?_
  show (authorityTaken s).live = s.live
  cases service : s.auth.dryRun
  · rw [authorityTaken_service service]
    exact claimHold_live _
  · rw [authorityTaken, if_pos service]
    rfl

end Sys2Proof.Machine
end

section
/-!
CLOSE LOAD (R195 to R197): the response and the notice, the own address, the trains outside the bore, and what the other
blocks are told.
-/

namespace Sys2Proof.Machine

open Sys2Proof

/-! ## The request -/

/-- R196: only a close that reads a count needs one. -/
theorem closeForm_of {r : Request} {id : TableId} (table : tableOfCode r.table = some id)
    (form : id = .global ∨ id = .hash ∨ 2 ≤ r.fields.length) : closeForm r = true := by
  unfold closeForm
  rw [table]
  rcases form with rfl | rfl | long
  · rfl
  · rfl
  · split
    · rfl
    · rfl
    · exact decide_eq_true long

theorem exec_closeLoad {r : Request} {s : State} {id : TableId} (serves : serving s = true) (permits : allowed s r)
    (table : tableOfCode r.table = some id) (form : id = .global ∨ id = .hash ∨ 2 ≤ r.fields.length) :
    exec (.closeLoad r) s = finish (closeLoad r id (taken (.closeLoad r) s)) := by
  show finish (takeRequest _ _ s) = _
  rw [takeRequest_serving serves, checkedTable, table, closeForm_of table form]
  exact congrArg finish (checked_allowed permits)

theorem closeLoad_refused {r : Request} {id : TableId} {s : State} (h : (s.tables.get id).validity ≠ .loading) :
    closeLoad r id s = answer 3 r .refused s := by
  simp [closeLoad, isLoading, h]

/-! ## The response and the notice -/

/-- R195: the response and the notice of a close. -/
def closeTold (r : Request) (v : Validity) (st : Status) (i : Nat) (s : State) : State :=
  tableNotice r.table v causeClose i (respond r 3 st r.table i [] s)

theorem closeTold_eq (r : Request) (v : Validity) (st : Status) (i : Nat) (s : State) : closeTold r v st i s =
    offerReport (report (noticeDest s) 0x49 ([0x16, byte (headNumber s), byte r.table, byte (validityCode v), 1] ++ be16 i))
      (offerReport (reply r 3 (statusCode st) r.table i []) s) :=
  tableNotice_after (relayed_respond r 3 st r.table i [] s) _ _ _ _

theorem announced_closeTold (r : Request) (v : Validity) (st : Status) (i : Nat) (s : State) :
    Announced s (closeTold r v st i s) :=
  (announced_respond r 3 st _ _ _ s).trans (announced_tableNotice _ _ _ _ _)

theorem closeTold_busy {s : State} {x : TxFrame} (r : Request) (v : Validity) (st : Status) (i : Nat)
    (busy : s.port.out = some x) (room : s.port.commands.length + s.port.reports.length < 15) :
    (closeTold r v st i s).port.reports = s.port.reports ++ [reply r 3 (statusCode st) r.table i [],
      report (noticeDest s) 0x49 ([0x16, byte (headNumber s), byte r.table, byte (validityCode v), 1] ++ be16 i)] := by
  rw [closeTold_eq, offerReport_twice_busy _ _ busy room]

/-! ## Trains outside the bore (R67) -/

/-- R67: the train records once L may have changed. -/
def trainsAfter (before : Nat) (s : State) : List (Option Train) :=
  if s.params.L = before then s.trains
  else s.trains.map fun o => o.bind fun q => if s.params.L < q.head ∧ s.params.L < q.tail then none else some q

theorem lengthChanged_eq (before : Nat) (s : State) : lengthChanged before s =
    if trainsAfter before s = s.trains then s else tableChanged (s.setTrains (trainsAfter before s)) := by
  have each : (fun o : Option Train => match o with
      | some r => if (decide (s.params.L < r.head) && decide (s.params.L < r.tail)) = true then none else some r
      | none => none) =
      fun o => o.bind fun q => if s.params.L < q.head ∧ s.params.L < q.tail then none else some q := by
    funext o
    cases o <;> simp
  unfold lengthChanged trainsAfter
  split
  · rw [if_pos rfl]
  · unfold removeTrains
    simp only [← each] <;> rfl

/-- Trains carry over to a state with other trains. -/
theorem Kept.setTrains {s t : State} (k : Kept s t) (x : List (Option Train)) : Kept (s.setTrains x) (t.setTrains x) :=
  ⟨k.pending, k.dispatched, k.clock, k.samples, rfl, k.tables, k.eeprom, k.outs, k.pins, k.quiet, k.test, k.ranges⟩

theorem kept_lengthChanged (before : Nat) (s : State) :
    Kept (s.setTrains (trainsAfter before s)) (lengthChanged before s) := by
  rw [lengthChanged_eq]
  split
  · rename_i same
    rw [same]
    exact .refl s
  · exact kept_tableChanged _

theorem obeyed_lengthChanged (before : Nat) (s : State) : Obeyed s (lengthChanged before s) := by
  have trains : Obeyed s (s.setTrains (trainsAfter before s)) := obeyed_of_port rfl rfl rfl rfl
  rw [lengthChanged_eq]
  exact .ite (.refl s) (trains.trans (obeyed_tableChanged _))

theorem tableChanged_stands {s : State} (h : ∀ l, s.live = some l → l.scenario = .none) : tableChanged s = s := by
  have still : mayRelookup s = false := by
    unfold mayRelookup
    rcases live : s.live with _ | l
    · rfl
    · simp [h l live]
  simp [tableChanged, still]

/-- R109, R113: without a scenario the trains alone change. -/
theorem lengthChanged_stands {s : State} (before : Nat) (h : ∀ l, s.live = some l → l.scenario = .none) :
    lengthChanged before s = s.setTrains (trainsAfter before s) := by
  rw [lengthChanged_eq]
  split
  · rename_i same
    rw [same]
    rfl
  · exact tableChanged_stands h

theorem scenarioSetValid_stands {s : State} (h : s.live = none) : scenarioSetValid s = s := by
  have still : mayRelookup s = false := by rw [mayRelookup, h]
  simp [scenarioSetValid, still]

/-! ## A close that fails -/

/-- R195: the tables with one INVALID. -/
def failedTables (id : TableId) (t : TableStore) : TableStore :=
  t.set id { t.get id with validity := .invalid, count := 0 }

theorem failedTables_geometry {id : TableId} (t : TableStore) (geometry : id.isGeometry = true) :
    (failedTables id t).geometryValid = false := by
  cases id <;> simp_all [failedTables, TableStore.geometryValid, TableStore.set, Table.isValid, TableId.isGeometry]

theorem geometryClosed_stands {s : State} (h : ¬ (s.auth.state = .unconfigured ∧ s.tables.geometryValid = true)) :
    geometryClosed s = s := by
  rw [← authorityAtClose_eq, authorityAtClose, if_neg h]

theorem closeLoad_fails {r : Request} {id : TableId} {s : State} {i : Nat} (loading : (s.tables.get id).validity = .loading)
    (fails : closeCheck s.tables id (at16 r.fields 0) = some i) :
    closeLoad r id s = updateOwnAddr (closeTold r .invalid .badValue i (s.setTables (failedTables id s.tables))) := by
  have closed : closeLoad r id s = handClose id s.params.L false
      (closeTold r .invalid .badValue i (s.setTables (failedTables id s.tables))) := by
    simp [closeLoad, isLoading, loading, closeTable, fails, closeTold, failedTables]
  have told := (announced_closeTold r .invalid .badValue i (s.setTables (failedTables id s.tables))).relayed.kept
  generalize closeTold r .invalid .badValue i (s.setTables (failedTables id s.tables)) = u at closed told
  have tables : (updateOwnAddr u).tables = failedTables id s.tables := by
    rw [updateOwnAddr_eq]
    exact told.tables
  have length : lengthChanged s.params.L (updateOwnAddr u) = updateOwnAddr u := by
    refine if_pos ?_
    rw [State.params, tables]
    exact congrArg Params.L (set_rest _ _ _).1
  rw [closed, handClose, length]
  cases geometry : id.isGeometry
  · rfl
  · have invalid : (updateOwnAddr u).tables.geometryValid = false := by
      rw [tables]
      exact failedTables_geometry _ geometry
    rw [geometryClosed_stands fun h => Bool.false_ne_true (invalid.symm.trans h.2),
      geometryLookup_stands fun _ _ _ => invalid]
    rfl

/-! ## A close that passes -/

/-- R190, R195: the tables with one VALID. -/
def passedTables (id : TableId) (n : Nat) (t : TableStore) : TableStore :=
  refreshParams (t.set id { t.get id with validity := .valid, count := loadedCount id n })

theorem passedTables_eq (id : TableId) (n : Nat) (t : TableStore) : passedTables id n t =
    { t.set id { t.get id with validity := .valid, count := loadedCount id n } with
      params := if (passedTables id n t).global.isValid = true then paramsOf (passedTables id n t).global
        else t.params } := by
  have params := (set_rest t id { t.get id with validity := .valid, count := loadedCount id n }).1
  have same : (passedTables id n t).global =
      (t.set id { t.get id with validity := .valid, count := loadedCount id n }).global :=
    get_refreshParams _ .global
  rw [same, passedTables, refreshParams]
  split
  · rfl
  · rw [← params]

/-- R195: what the other blocks are told of a table that closed VALID. -/
def handedClosed (id : TableId) (T : TableStore) (v : State) : State :=
  if id.isGeometry = true then geometryLookup (geometryClosed v)
  else if T.scenarioValid = true then scenarioSetValid v
  else v

theorem closeLoad_passes {r : Request} {id : TableId} {s : State} (loading : (s.tables.get id).validity = .loading)
    (passes : closeCheck s.tables id (at16 r.fields 0) = none) :
    let T := passedTables id (at16 r.fields 0) s.tables
    closeLoad r id s = handedClosed id T (lengthChanged s.params.L
      (updateOwnAddr (closeTold r .valid .done 0 (s.setTables T)))) := by
  intro T
  have closed : closeLoad r id s = handClose id s.params.L true (closeTold r .valid .done 0 (s.setTables T)) := by
    simp [closeLoad, isLoading, loading, closeTable, passes, closeTold, T, passedTables]
  have told := (announced_closeTold r .valid .done 0 (s.setTables T)).relayed.kept
  clear_value T
  generalize closeTold r .valid .done 0 (s.setTables T) = u at closed told
  have told_tables : u.tables = T := told.tables
  have tables : (lengthChanged s.params.L (updateOwnAddr u)).tables = T := by
    rw [(kept_lengthChanged _ _).tables, updateOwnAddr_eq]
    exact told_tables
  rw [closed, handClose, handedClosed]
  simp only [tables, Bool.true_and]

end Sys2Proof.Machine
end

section
/-!
What a CLOSE LOAD leaves (R109, R173, R175, R195), and the statement about it.
-/

namespace Sys2Proof.Machine

open Sys2Proof

/-! ## What a passed close keeps -/

theorem kept_handedClosed (id : TableId) (T : TableStore) (v : State) : Kept v (handedClosed id T v) :=
  .ite ((kept_geometryClosed v).trans (kept_geometryLookup _)) (.ite (kept_scenarioSetValid v) (.refl v))

theorem geometryClosed_empty {v : State} (h : v.auth.state = .unconfigured ∧ v.tables.geometryValid = true)
    (empty : v.incidents.list = []) : geometryClosed v = moveAuth .monitor v := by
  unfold geometryClosed
  rw [h.1, show geometryValid v = true from h.2]
  exact if_neg (by simp [incidentListed, empty])

theorem geometryClosed_listed {v : State} (h : v.auth.state = .unconfigured ∧ v.tables.geometryValid = true)
    (listed : v.incidents.list ≠ []) : geometryClosed v = enterAutonomous v := by
  unfold geometryClosed
  rw [h.1, show geometryValid v = true from h.2]
  exact if_pos (by simp [incidentListed, listed])

theorem sameLink_geometryClosed (v : State) : SameLink v.port (geometryClosed v).port := by
  by_cases taken : v.auth.state = .unconfigured ∧ v.tables.geometryValid = true
  · by_cases empty : v.incidents.list = []
    · rw [geometryClosed_empty taken empty]
      exact (announced_moveAuth .monitor v).relayed.link
    · rw [geometryClosed_listed taken empty]
      exact (enterAutonomous_leaves v).link
  · rw [geometryClosed_stands taken]
    exact .refl _

theorem sameLink_handedClosed (id : TableId) (T : TableStore) (v : State) :
    SameLink v.port (handedClosed id T v).port := by
  unfold handedClosed
  split
  · exact (sameLink_geometryClosed v).trans (steered_geometryLookup _).link
  · split
    · exact (Obeyed.ite (obeyed_relookup v) (.refl v) : Obeyed v (scenarioSetValid v)).link
    · exact .refl _

/-- R195: a state that reports alone and the own address have changed. -/
structure Addressed (s w : State) : Prop where
  rest : w = s.setPort w.port
  tables : w.tables = s.tables
  ownAddr : w.port.ownAddr =
    if w.tables.global.isValid = true then w.params.ownAddr else 0x7F00 + s.chip.strap.toNat
  earlier : w.port.earlier =
    if w.port.ownAddr = s.port.ownAddr then s.port.earlier else some (s.port.ownAddr, 1000)
  kept : Kept s w
  quiet : quiet w = true
  busy : ∀ x, s.port.out = some x → w.port.out = some x ∧ w.port.forward = s.port.forward ∧
    w.port.commands = s.port.commands

theorem addressed {s t : State} (a : Announced s t) (forward : ∀ x, s.port.out = some x → t.port.forward = s.port.forward)
    (still : Machine.quiet s = true) (left : s.auth.state ≠ .starting) : Addressed s (updateOwnAddr t) := by
  have rest := a.relayed.eq_setPort still
  have link := a.relayed.link
  have calm := a.relayed.kept.quiet still
  have own : ownAddrNow t = if t.tables.global.isValid = true then t.params.ownAddr else 0x7F00 + s.chip.strap.toNat := by
    rw [rest]
    exact ownAddrNow_eq left
  rw [updateOwnAddr_eq, own, link.ownAddr, link.earlier]
  refine ⟨?_, a.relayed.kept.tables, rfl, rfl, a.relayed.kept.trans (kept_setPort _ _ (fun _ h => .inl h) id), calm,
    fun x busy => ?_⟩
  · rw [rest]
    rfl
  · obtain ⟨out, commands, _⟩ := a.busy x busy
    exact ⟨out, forward x busy, commands⟩

theorem closeTold_forward (r : Request) (v : Validity) (st : Status) (i : Nat) (s : State) :
    ∀ x, s.port.out = some x → (closeTold r v st i s).port.forward = s.port.forward := fun x busy => by
  have first := carried_offerReport (reply r 3 (statusCode st) r.table i []) s rfl (by simp [reply, report, kindTest])
  obtain ⟨out, forward, _⟩ := first.busy x busy
  rw [closeTold_eq]
  exact ((carried_offerReport _ _ rfl (by simp [report, kindTest])).busy x out).2.1.trans forward

/-- What stands when the other blocks are told of a passed close. -/
structure ReadyToHand (s v : State) : Prop where
  auth : v.auth = s.auth
  keys : v.incidents.list.map Incident.key = s.incidents.list.map Incident.key
  clock : v.clock = s.clock
  chip : v.chip = s.chip
  tables : v.tables = s.tables
  params : v.params = s.params
  busy : ∀ x, s.port.out = some x → v.port.out = some x ∧ v.port.forward = s.port.forward ∧
    (s.fans.inCommand = false → v.port.commands = s.port.commands)

theorem readyToHand {s w : State} (a : Addressed s w) (before : Nat) : ReadyToHand s (lengthChanged before w) := by
  have kept := kept_lengthChanged before w
  have obeyed := obeyed_lengthChanged before w
  have same : w.auth = s.auth ∧ w.incidents = s.incidents ∧ w.clock = s.clock ∧ w.chip = s.chip ∧ w.tables = s.tables ∧
      w.fans = s.fans := by
    rw [a.rest]
    exact ⟨rfl, rfl, rfl, rfl, rfl, rfl⟩
  obtain ⟨auth, incidents, clock, chip, tables, fans⟩ := same
  have tables := kept.tables.trans tables
  refine ⟨obeyed.auth.trans auth, by rw [obeyed.keys, incidents], kept.clock.trans clock,
    (kept.chip (by exact a.quiet)).trans chip, tables, congrArg TableStore.params tables, fun x busy => ?_⟩
  obtain ⟨out, forward, commands⟩ := a.busy x busy
  obtain ⟨out', forward', _⟩ := obeyed.busy x out
  exact ⟨out', forward'.trans forward, fun idle => (obeyed.idle (by rw [fans]; exact idle) x out).trans commands⟩

theorem Kept.planningOnly {s t : State} (k : Kept s t) (h : Machine.quiet s = true) : Machine.planningOnly s t := by
  rw [Machine.planningOnly, ← k.pending, ← k.dispatched, ← k.clock, ← k.chip h, ← k.samples, ← k.trains, ← k.tables,
    ← k.eeprom, ← k.test h]

/-! ## Authority and the head (R109, R173, R175) -/

theorem authorityHeld_of_close {s v : State} (ready : ReadyToHand s v) (state : s.auth.state = .unconfigured)
    (valid : s.tables.geometryValid = true) (listed : s.incidents.list ≠ []) :
    authorityHeld s (ended (geometryLookup (geometryClosed v))) ∧
      (fansIdle s → holdFollows (headNumber s) s (ended (geometryLookup (geometryClosed v)))) := by
  have taken : v.auth.state = .unconfigured ∧ v.tables.geometryValid = true :=
    ⟨by rw [ready.auth, state], by rw [ready.tables, valid]⟩
  have held : AuthorityTaken v (geometryLookup (geometryClosed v)) := by
    rw [geometryClosed_listed taken fun empty => listed ((listed_of_keys ready.keys).1 empty)]
    exact (enterAutonomous_leaves v).then (steered_geometryLookup _)
  have kept : Kept v (geometryLookup (geometryClosed v)) := (kept_geometryClosed v).trans (kept_geometryLookup _)
  have tables := kept.tables.trans ready.tables
  have reset : (geometryLookup (geometryClosed v)).chip.inReset = s.chip.inReset := by
    rw [kept.pins, ready.chip]
  generalize geometryLookup (geometryClosed v) = t at held tables reset
  have params : t.params = s.params := congrArg TableStore.params tables
  refine ⟨⟨held.state, fun dry => ⟨?dryAuth, ?dryOut⟩, fun service => ⟨fun running => ?out, ?remaining, ?last, fun x busy =>
    ⟨?forward, fun low => ?intercepted⟩⟩⟩, fun idle service x busy room => ?follows⟩
  case dryAuth => exact (held.dryRun (by rw [ready.auth, dry])).trans (by rw [ready.auth])
  case dryOut =>
    have dryRun : t.auth.dryRun = true := by
      rw [held.dryRun (by rw [ready.auth, dry]), ready.auth]
      exact dry
    show authCondition t = false
    simp [authCondition, dryRun]
  all_goals
    obtain ⟨dryRun, remaining, last, waits⟩ := held.service (by rw [ready.auth, service])
  case out =>
    show authCondition t = true
    simp [authCondition, reset, running, held.state, dryRun]
  case remaining =>
    show t.auth.holdRemaining = t.params.holdTime * 1000
    rw [remaining, ready.params, params]
  case last => exact last.trans (congrArg some ready.clock)
  all_goals
    obtain ⟨out, waiting, idleCommands⟩ := ready.busy x busy
    obtain ⟨_, forward, intercepted, commands⟩ := waits x out
  case forward =>
    show t.port.forward = _
    rw [forward, waiting, ready.tables]
    exact congrArg (fun T => s.port.forward.filter fun b => !manualWaits T b) tables.symm
  case intercepted =>
    show t.auth.intercepted = _
    rw [intercepted, waiting, ready.tables, ready.auth, iterate_countsTo255 _ low]
    exact congrArg (fun T => min 255 (s.auth.intercepted + s.port.forward.countP (manualWaits T))) tables.symm
  case follows =>
    have same := idleCommands idle.1
    have follows := commands (by rw [same]; exact room)
    have dest : noticeDest v = noticeDest (ended t) := by
      show noticeDest v = noticeDest t
      simp only [noticeDest, State.params, ready.tables, tables]
    rw [same, dest, ready.params, ← params, (headNumber_of_keys ready.keys).1] at follows
    exact follows

/-- R173: authority once a table has closed VALID with no incident listed. -/
def authClosed (id : TableId) (v : State) : State :=
  v.setAuth { v.auth with state :=
    if id.isGeometry = true ∧ v.auth.state = .unconfigured ∧ v.tables.geometryValid = true then .monitor
    else v.auth.state }

/-- R173: with no incident and no live scenario only authority moves. -/
theorem announced_handedClosed {id : TableId} {v : State} (T : TableStore) (empty : v.incidents.list = [])
    (none : v.live = none) : Announced (authClosed id v) (handedClosed id T v) := by
  have stands : ∀ u : State, u.live = v.live → geometryLookup u = u := fun u same =>
    geometryLookup_stands fun l live => nomatch (live.symm.trans (same.trans none))
  unfold handedClosed authClosed
  cases geometry : id.isGeometry
  · simp only [Bool.false_eq_true, false_and, if_false]
    split
    · rw [scenarioSetValid_stands none]
      exact .refl v
    · exact .refl v
  · rw [if_pos rfl]
    by_cases taken : v.auth.state = .unconfigured ∧ v.tables.geometryValid = true
    · have moved := announced_moveAuth .monitor v
      have live : (moveAuth .monitor v).live = v.live := by
        rw [moved.relayed.rest]
        rfl
      rw [if_pos ⟨rfl, taken⟩, geometryClosed_empty taken empty, stands _ live]
      exact moved
    · rw [if_neg fun h => taken h.2, geometryClosed_stands taken, stands _ rfl]
      exact .refl v

/-- R109: the head on scenario none is looked up as the geometry set becomes VALID. -/
theorem lateLooked_of_close {s v : State} {l : Live} (ready : ReadyToHand s v) (live : v.live = some l)
    (none : l.scenario = .none) (valid : s.tables.geometryValid = true) (listed : s.incidents.list ≠ []) :
    let t := geometryLookup (geometryClosed v)
    t.live = some { lookedUp t with locked := l.locked, lockTimer := l.lockTimer } ∧
    (∀ m, t.live = some m → t.plan.demand = min 65535 ((t.params.R * m.vt ^ 2 + 9999) / 10000 + m.P)) ∧
    (s.auth.state = .unconfigured → t.fans.inCommand = true) := by
  intro t
  have closed_live : (geometryClosed v).live = some l ∧
      (s.auth.state = .unconfigured → (geometryClosed v).auth.state = .autonomous) := by
    by_cases taken : v.auth.state = .unconfigured ∧ v.tables.geometryValid = true
    · rw [geometryClosed_listed taken fun empty => listed ((listed_of_keys ready.keys).1 empty)]
      exact ⟨(enterAutonomous_live v).trans live, fun _ => (enterAutonomous_leaves v).state⟩
    · rw [geometryClosed_stands taken]
      exact ⟨live, fun state => absurd ⟨by rw [ready.auth, state], by rw [ready.tables, valid]⟩ taken⟩
  have kept := kept_geometryClosed v
  have looked := lateLooked closed_live.1 none (by rw [kept.tables, ready.tables]; exact valid)
  have same : lookedUp t = lookedUp (geometryClosed v) :=
    lookedUp_congr (kept_geometryLookup _).tables (kept_geometryLookup _).trains looked.keys
  refine ⟨by rw [same]; exact looked.live, fun m hm => ?_, fun state => looked.command (closed_live.2 state)⟩
  rw [looked.demand m hm, State.params, State.params, (kept_geometryLookup _).tables]

theorem updateOwnAddr_reports (s : State) : (updateOwnAddr s).port.reports = s.port.reports := by
  rw [updateOwnAddr_eq]
  rfl

theorem updateOwnAddr_of_eq {s t : State} (h : s = t) : updateOwnAddr s =
    { t with port := { t.port with
      ownAddr := (updateOwnAddr s).port.ownAddr
      earlier := (updateOwnAddr s).port.earlier } } := by
  subst h
  rw [updateOwnAddr_eq]
  rfl

theorem noticeDest_of_tables {s t : State} (h : t.tables = s.tables) : noticeDest t = noticeDest s := by
  simp only [noticeDest, State.params, h]

/-- R195: what a close that fails leaves. -/
theorem closeLoad_failed {r : Request} {id : TableId} {s : State} {i : Nat} (still : quiet s = true)
    (left : s.auth.state ≠ .starting) (loading : (s.tables.get id).validity = .loading)
    (fails : closeCheck s.tables id (at16 r.fields 0) = some i) :
    let u := closeLoad r id s
    Addressed (s.setTables (failedTables id s.tables)) u ∧
    ∀ y, s.port.out = some y → s.port.commands.length + s.port.reports.length < 15 →
      u.port.reports = s.port.reports ++ [reply r 3 3 r.table i [],
        report (noticeDest u) 0x49 ([0x16, byte (headNumber s), byte r.table, byte 0, 1] ++ be16 i)] := by
  intro u
  have closed : u = updateOwnAddr (closeTold r .invalid .badValue i (s.setTables (failedTables id s.tables))) :=
    closeLoad_fails loading fails
  have told := addressed (announced_closeTold r .invalid .badValue i (s.setTables (failedTables id s.tables)))
    (closeTold_forward _ _ _ _ _) (by exact still) (by exact left)
  have reports := fun y busy room => closeTold_busy (s := s.setTables (failedTables id s.tables)) (x := y)
    r .invalid .badValue i busy room
  rw [← closed] at told
  refine ⟨told, fun y busy room => ?_⟩
  rw [noticeDest_of_tables told.tables, closed, updateOwnAddr_reports]
  exact reports y busy room

theorem loadedCount_eq (id : TableId) (n : Nat) :
    loadedCount id n = if id = .global then 1 else if id = .hash then 64 else n := by
  cases id <;> rfl

/-- R195: what a close that passes leaves, before the trains and the other blocks are told. -/
structure ClosePassed (r : Request) (id : TableId) (T : TableStore) (s w : State) : Prop where
  addressed : Addressed (s.setTables T) w
  closed : closeLoad r id s = handedClosed id T (lengthChanged s.params.L w)
  reports : ∀ y, s.port.out = some y → s.port.commands.length + s.port.reports.length < 15 →
    w.port.reports = s.port.reports ++ [reply r 3 0 r.table 0 [],
      report (noticeDest w) 0x49 ([0x16, byte (headNumber s), byte r.table, byte 2, 1] ++ be16 0)]
  noted : w =
    let noted := offerReport
      (report (noticeDest w) 0x49 ([0x16, byte (headNumber s), byte r.table, byte 2, 1] ++ be16 0))
      (offerReport (reply r 3 0 r.table 0 []) (s.setTables T))
    { noted with port := { noted.port with ownAddr := w.port.ownAddr, earlier := w.port.earlier } }

theorem closePassed {r : Request} {id : TableId} {s : State} (still : quiet s = true)
    (left : s.auth.state ≠ .starting) (loading : (s.tables.get id).validity = .loading)
    (passes : closeCheck s.tables id (at16 r.fields 0) = none) :
    ∃ w, ClosePassed r id (passedTables id (at16 r.fields 0) s.tables) s w := by
  have closed := closeLoad_passes loading passes
  generalize passedTables id (at16 r.fields 0) s.tables = T at closed ⊢
  have told := addressed (announced_closeTold r .valid .done 0 (s.setTables T))
    (closeTold_forward _ _ _ _ _) (by exact still) (by exact left)
  have reports := fun y busy room => closeTold_busy (s := s.setTables T) (x := y) r .valid .done 0 busy room
  have dest := noticeDest_of_tables told.tables
  refine ⟨_, told, closed, fun y busy room => ?_, ?_⟩
  · rw [dest, updateOwnAddr_reports]
    exact reports y busy room
  · rw [dest]
    exact updateOwnAddr_of_eq (closeTold_eq r .valid .done 0 (s.setTables T))

/-! ## What a passed close leaves at the end -/

section
variable {id : TableId} {T : TableStore} {s w : State}

theorem kept_passed (told : Addressed (s.setTables T) w) : Kept ((s.setTables T).setTrains (trainsAfter s.params.L w))
    (handedClosed id T (lengthChanged s.params.L w)) :=
  ((told.kept.setTrains _).trans (kept_lengthChanged _ _)).trans (kept_handedClosed id T _)

theorem trainsAfter_passed (told : Addressed (s.setTables T) w) :
    trainsAfter s.params.L w =
      if T.params.L = s.params.L then s.trains
      else s.trains.map fun o => o.bind fun q => if T.params.L < q.head ∧ T.params.L < q.tail then none else some q := by
  rw [trainsAfter, told.rest]
  rfl

theorem sameLink_passed (s w : State) :
    SameLink w.port (handedClosed id T (lengthChanged s.params.L w)).port :=
  (obeyed_lengthChanged s.params.L w).link.trans (sameLink_handedClosed id T _)

/-- R173: with no incident and no live scenario the trains and authority alone move. -/
theorem unlisted_passed (told : Addressed (s.setTables T) w) (empty : s.incidents.list = []) (none : s.live = none) :
    Announced (authClosed id (w.setTrains (trainsAfter s.params.L w)))
      (handedClosed id T (lengthChanged s.params.L w)) := by
  have same : w.incidents = s.incidents ∧ w.live = s.live := by
    rw [told.rest]
    exact ⟨rfl, rfl⟩
  have live : w.live = .none := same.2.trans none
  rw [lengthChanged_stands s.params.L fun l h => nomatch (live.symm.trans h)]
  exact announced_handedClosed T ((congrArg IncidentManager.list same.1).trans empty) live

/-- R109, R175: a geometry table that closes with an incident listed. -/
theorem listed_passed (told : Addressed (s.setTables T) w) (listed : s.incidents.list ≠ [])
    (geometry : id.isGeometry = true) (valid : T.geometryValid = true) :
    let F := handedClosed id T (lengthChanged s.params.L w)
    (s.auth.state = .unconfigured →
      authorityHeld s (ended F) ∧ (fansIdle s → holdFollows (headNumber s) s (ended F))) ∧
    ∀ l, s.live = some l → l.scenario = .none →
      F.live = some { lookedUp F with locked := l.locked, lockTimer := l.lockTimer } ∧
      (∀ m, F.live = some m → F.plan.demand = min 65535 ((F.params.R * m.vt ^ 2 + 9999) / 10000 + m.P)) ∧
      (s.auth.state = .unconfigured → F.fans.inCommand = true) := by
  intro F
  have ready := readyToHand told s.params.L
  have hands : F = geometryLookup (geometryClosed (lengthChanged s.params.L w)) := if_pos geometry
  rw [hands]
  refine ⟨fun state => authorityHeld_of_close (s := s.setTables T) ready state valid listed, fun l live none => ?_⟩
  have waits : w.live = some l := by
    rw [told.rest]
    exact live
  have stands : (lengthChanged s.params.L w).live = some l := by
    rw [lengthChanged_stands s.params.L fun m h => by rwa [← Option.some.inj (waits.symm.trans h)]]
    exact waits
  exact lateLooked_of_close (s := s.setTables T) ready stands none valid listed

/-- R195: the close in the order of its parts. -/
theorem handedClosed_eq (id : TableId) (T : TableStore) (before : Nat) (w : State) :
    handedClosed id T (lengthChanged before w) =
      let u := if trainsAfter before w = w.trains then w else tableChanged (w.setTrains (trainsAfter before w))
      if id.isGeometry = true then lateScenario (authorityAtClose u)
      else if T.scenarioValid = true then scenarioSetValid u
      else u := by
  rw [lengthChanged_eq]
  simp only [lateScenario_eq, authorityAtClose_eq]
  rfl

end

/-! ## The statement -/

/-- Settles O53: the checks by `closeCheck_outcome`; then the close by its outcome. -/
theorem closeLoadSetsTheOutcome : Obligations.CloseLoadSetsTheOutcome := by
  refine ⟨closeCheck_outcome, ?_⟩
  intro r id s serves permits table form c x n count state
  have run := exec_closeLoad serves permits table form
  have still : quiet (taken c s) = true := serving_quiet serves
  have left : s.auth.state ≠ .starting := ((serving_iff s).1 serves).1.2.2
  refine ⟨fun idle => ?refused, ?_⟩
  case refused =>
    rw [run, closeLoad_refused (by exact idle), answer_eq]
    exact finish_answered serves
  intro address
  refine ⟨fun loading i fails => ?fails, fun loading passes => ?passes⟩
  case fails =>
    obtain ⟨told, reports⟩ := closeLoad_failed (s := taken (.closeLoad r) s) still left loading fails
    rw [run]
    generalize closeLoad r id (taken (.closeLoad r) s) = u at told reports ⊢
    obtain ⟨rest, tables, own, earlier, _, calm, _⟩ := told
    have leaves : u = { taken c s with port := u.port, tables := u.tables } := by
      rw [tables]
      exact rest
    exact ⟨ended u, finish_ended (quiet_due calm), tables, ⟨own, earlier⟩, reports,
      congrArg (fun v : State => v.setOuts (outputsOf u)) leaves⟩
  case passes =>
    obtain ⟨w, told, closed, reports, noted⟩ :
        ∃ w, ClosePassed r id (passedTables id n s.tables) (taken (.closeLoad r) s) w :=
      closePassed still left loading passes
    have outcome := passedTables_eq id n s.tables
    rw [loadedCount_eq] at outcome
    rw [run, closed]
    generalize passedTables id n s.tables = T at told noted outcome ⊢
    have kept := kept_passed (id := id) told
    have link := sameLink_passed (id := id) (T := T) (taken (.closeLoad r) s) w
    have trains := trainsAfter_passed told
    have unlisted := unlisted_passed (id := id) told
    have listed := listed_passed (id := id) told
    have order := handedClosed_eq id T (taken (.closeLoad r) s).params.L w
    generalize handedClosed id T (lengthChanged (taken (.closeLoad r) s).params.L w) = F
      at kept link unlisted listed order ⊢
    have tables : (ended F).tables = T := kept.tables
    have params : (ended F).params = T.params := congrArg TableStore.params tables
    have bore : (ended F).trains = trainsAfter (taken (.closeLoad r) s).params.L w := kept.trains
    have own : (ended F).port.ownAddr = w.port.ownAddr := link.ownAddr
    have earlier : (ended F).port.earlier = w.port.earlier := link.earlier
    have dest : noticeDest (ended F) = noticeDest w := noticeDest_of_tables (tables.trans told.tables.symm)
    refine ⟨ended F, finish_ended (quiet_due (kept.quiet still)), ?tables, ?address, fun same => ?sameLength,
      fun other => ?newLength, fun empty none => ?unlisted, fun empty none y busy room => ?told,
      fun nonempty geometry valid => ?listed, ?order, ?leaves⟩
    case tables =>
      rw [tables]
      exact outcome
    case address =>
      have address := And.intro told.ownAddr told.earlier
      rw [State.params, told.tables] at address
      show (ended F).port.ownAddr = _ ∧ (ended F).port.earlier = _
      rw [own, earlier, tables, params]
      exact address
    case sameLength =>
      rw [params] at same
      rw [bore, trains]
      exact if_pos same
    case newLength =>
      rw [params] at other
      rw [bore, trains, params]
      exact if_neg other
    case unlisted =>
      have stands := (unlisted empty none).relayed.rest
      rw [told.rest] at stands
      have parts : F.incidents = s.incidents ∧ F.live = .none ∧ F.plan = s.plan ∧ F.fans = s.fans := by
        rw [stands]
        exact ⟨rfl, none, rfl, rfl⟩
      obtain ⟨incidents, live, plan, fans⟩ := parts
      refine ⟨incidents, live, plan, fans, ?_⟩
      rw [tables]
      show F.auth = _
      rw [stands]
      rfl
    case told =>
      obtain ⟨out, _⟩ := told.busy y busy
      obtain ⟨_, _, more, appended⟩ := (unlisted empty none).busy y out
      refine ⟨more, appended.trans (congrArg (· ++ more) ?_)⟩
      refine (reports y busy room).trans ?_
      rw [← dest]
      rfl
    case listed =>
      rw [tables] at valid
      exact listed nonempty geometry valid
    case order =>
      rw [tables, bore, own, earlier]
      have same : w.trains = s.trains := by
        rw [told.rest]
        rfl
      have statement : state (ended F) 2 0 = state w 2 0 := congrArg (fun d => report d 0x49 _) dest
      rw [same] at order
      rw [statement]
      generalize trainsAfter (taken (.closeLoad r) s).params.L w = trains at order ⊢
      exact (congrArg ended order).trans (congrArg (fun a : State =>
        let u := if trains = s.trains then a else tableChanged (a.setTrains trains)
        ended (if id.isGeometry = true then lateScenario (authorityAtClose u)
          else if T.scenarioValid = true then scenarioSetValid u
          else u)) noted)
    case leaves =>
      rw [tables, bore]
      have leaves := kept.planningOnly still
      exact congrArg (fun v : State => v.setOuts (outputsOf F)) leaves

end Sys2Proof.Machine
end

section
/-!
The interception of a control-centre fan command (R27, R182): counted, with a hold where none was offered within 1,000 ms.
-/

namespace Sys2Proof.Machine

open Sys2Proof

/-! ## Interceptions -/

/-- R182: one more interception is counted, and nothing else. -/
def interceptCounted (s : State) : State :=
  s.setAuth { s.auth with intercepted := min 255 (s.auth.intercepted + 1) }

theorem satCounted_eq (s : State) :
    s.setAuth { s.auth with intercepted := satCount 255 s.auth.intercepted } = interceptCounted s := by
  rw [interceptCounted, satCount_eq_min]

/-- R182: when an interception may bring a hold, as the statements say it. -/
theorem holdAllowed_iff (s : State) : holdAllowed s = true ↔
    s.auth.lastHold = none ∨ ∃ h, s.auth.lastHold = some h ∧ h + 1000 ≤ s.clock := by
  unfold holdAllowed
  rcases s.auth.lastHold with _ | h
  · simp
  · rw [decide_eq_true_eq]
    simp [Config.holdSpacing]

theorem interception_autonomous {s : State} (autonomous : s.auth.state = .autonomous) (service : s.auth.dryRun = false) :
    interception s = if holdAllowed s = true then claimHold (interceptCounted s) else interceptCounted s := by
  rw [← satCounted_eq]
  simp only [interception, State.setAuth_auth, autonomous, service, decide_true, Bool.not_false, Bool.true_and]
  rfl

/-- R175, R182: where no SOFT RESET and no test frame waits, a hold is a frame in the Ring Port and two fields of
authority. -/
theorem claimHold_quiet {s : State} (still : quiet s = true) : claimHold s = { s with
    port := (claimHold s).port
    auth := { s.auth with holdRemaining := s.params.holdTime * 1000, lastHold := some s.clock } } := by
  have offered := relayed_offerCommand (report (noticeDest s) 0x48 [byte s.params.holdTime, byte (headNumber s)]) s
    rfl (by simp [report, kindTest])
  exact congrArg (fun u : State => u.setAuth
    { s.auth with holdRemaining := s.params.holdTime * 1000, lastHold := some s.clock }) (offered.eq_setPort still)

/-- R27: the route of a frame that the classifier intercepts. -/
theorem route_intercepted {bytes : List Byte} {s : State} (source : inStripSet s.port (at16 bytes 2) = false)
    (dest : at16 bytes 0 ≠ s.port.ownAddr) (manual : intercepts s (frameOf bytes) = true) :
    route false bytes s = interception s := by
  obtain ⟨autonomous, _, geometry, _⟩ := (intercepts_iff s (frameOf bytes)).1 manual
  rw [route_elsewhere source dest, classify, if_neg (by simp [autonomous, geometryValid, geometry]), if_pos manual]
  rfl

/-- Settles O21: the route of an intercepted frame, by whether a hold is due. -/
theorem manualCommandIsIntercepted : Obligations.ManualCommandIsIntercepted := by
  intro bytes s i f x serves valid autonomous service geometry heard busy earlier source dest kind looked below address
  have still : quiet (received s) = true := serving_quiet serves
  have manual : intercepts (received s) (frameOf bytes) = true :=
    (intercepts_iff _ _).2 ⟨autonomous, service, geometry, kind, ⟨i, looked⟩, f, below, address⟩
  have routed : exec (.frameReceived bytes) s = finish (interception (received s)) := by
    rw [exec_frameReceived_valid (serving_onRing serves) valid, heard,
      route_intercepted (not_inStripSet (p := (received s).port) source earlier) dest manual]
  rw [routed, interception_autonomous (s := received s) autonomous service]
  by_cases allowed : holdAllowed (received s) = true
  case pos =>
    have counts : quiet (interceptCounted (received s)) = true := still
    obtain ⟨_, forward, _⟩ := offerCommand_keeps (s := interceptCounted (received s))
      (report (noticeDest s) 0x48 [byte s.params.holdTime, byte (headNumber s)]) (by exact busy)
    have claimed := claimHold_quiet counts
    have ends := finish_ended_of_kept (kept_claimHold _) counts
    refine ⟨ended (claimHold (interceptCounted (received s))), ?ends, forward, ?dispatched, rfl,
      fun _ => ⟨rfl, rfl, fun room => ?queued⟩, fun h last recent => ?recent, ?rest⟩
    case ends => rw [if_pos allowed, ends]
    case dispatched => exact (kept_claimHold _).dispatched
    case queued =>
      exact congrArg (·.port.commands) (offerCommand_busy (s := interceptCounted (received s))
        (report (noticeDest s) 0x48 [byte s.params.holdTime, byte (headNumber s)]) (by exact busy) (by exact room))
    case recent =>
      rcases (holdAllowed_iff _).1 allowed with never | ⟨h', last', old⟩
      · exact nomatch never.symm.trans last
      · obtain rfl : h' = h := Option.some.inj (last'.symm.trans last)
        exact absurd recent (Nat.not_lt.2 old)
    case rest =>
      rw [claimed]
      rfl
  case neg =>
    refine ⟨ended (interceptCounted (received s)), ?ends, rfl, rfl, rfl, fun due => ?due, fun h last _ => ⟨rfl, last, rfl⟩,
      rfl⟩
    case ends =>
      rw [if_neg allowed]
      exact finish_ended (quiet_due still)
    case due => exact absurd ((holdAllowed_iff (received s)).2 due) allowed

end Sys2Proof.Machine
end

section
/-!
A resume (R175, R177), and what the takeover derives for each fan (R145).
-/

namespace Sys2Proof.Machine

open Sys2Proof

/-! ## Entry into AUTONOMOUS in the words of the statements (R175, R185) -/

/-- R175, R185: what entry into AUTONOMOUS leaves once the outputs follow. -/
theorem AuthorityTaken.held {s t : State} (a : AuthorityTaken s t) (k : Kept s t) :
    authorityHeld s (ended t) ∧ holdFollows (headNumber s) s (ended t) := by
  have params : t.params = s.params := congrArg TableStore.params k.tables
  have inReset : t.chip.inReset = s.chip.inReset := by rw [k.pins]
  refine ⟨⟨a.state, fun dry => ⟨a.dryRun dry, ?dryOut⟩, fun service => ?service⟩, fun service x busy room => ?follows⟩
  case dryOut =>
    have dryRun : t.auth.dryRun = true := by rw [a.dryRun dry]; exact dry
    show authCondition t = false
    simp [authCondition, dryRun]
  case service =>
    obtain ⟨dryRun, remaining, last, waits⟩ := a.service service
    refine ⟨fun running => ?_, ?_, last, fun x busy => ?_⟩
    · show authCondition t = true
      simp [authCondition, inReset, running, a.state, dryRun]
    · show t.auth.holdRemaining = t.params.holdTime * 1000
      rw [remaining, params]
    · obtain ⟨_, forward, intercepted, _⟩ := waits x busy
      have tables : (ended t).tables = s.tables := k.tables
      rw [tables]
      exact ⟨forward, fun low => intercepted.trans (iterate_countsTo255 _ low)⟩
  case follows =>
    obtain ⟨_, _, _, waits⟩ := a.service service
    obtain ⟨_, _, _, commands⟩ := waits x busy
    have dest : noticeDest (ended t) = noticeDest s := noticeDest_of_tables (t := ended t) k.tables
    have holdTime : (ended t).params = s.params := params
    rw [dest, holdTime]
    exact commands room

/-- R146: with a scenario held, entry into AUTONOMOUS brings the part into command. -/
theorem inCommand_enterAutonomous {s : State} (held : planHeld s = true) : (enterAutonomous s).fans.inCommand = true := by
  have entered := enterAutonomous_eq s
  generalize authorityNotice .autonomous s.auth.state (authorityTaken s) = u at entered
  have came := cameIntoCommand u
  rw [← entered] at came
  rw [entered]
  refine inCommand_comeIntoCommand ?_ ?_
  · rw [← came.auth]
    exact (enterAutonomous_leaves s).state
  · rw [planHeld, ← came.live, enterAutonomous_live]
    exact held

theorem exec_authorityResume {s : State} (serves : serving s = true) :
    exec .authorityResume s = .next (ended (resumeAuthority (taken .authorityResume s))) := by
  obtain ⟨⟨running, service, left⟩, still⟩ := (serving_iff s).1 serves
  have inServ : inService (took .authorityResume s) = true := by
    simp [inService, took, running, service, left]
  have answers : exec .authorityResume s = finish (resumeAuthority (taken .authorityResume s)) :=
    congrArg finish (if_pos inServ)
  rw [answers]
  exact finish_ended_of_kept (kept_resumeAuthority _) still

theorem resumeAuthority_released {s : State} (h : s.auth.state = .released) : resumeAuthority s = enterAutonomous s := by
  unfold resumeAuthority
  rw [h]

theorem resumeAuthority_stands {s : State} (h : s.auth.state ≠ .released) : resumeAuthority s = s := by
  unfold resumeAuthority
  split
  · contradiction
  · rfl

/-! ## The derivation of one fan (R145) -/

/-- R145: the record of a fan with its timers stopped. -/
def timersStopped (r : FanRecord) : FanRecord := { r with dwell := none, start := none }

@[simp] theorem timersStopped_reported (r : FanRecord) : (timersStopped r).reported = r.reported := rfl
@[simp] theorem timersStopped_failed (r : FanRecord) : (timersStopped r).failed = r.failed := rfl
@[simp] theorem timersStopped_lost (r : FanRecord) : (timersStopped r).lost = r.lost := rfl
@[simp] theorem reportedAsWanted_timersStopped (r : FanRecord) :
    reportedAsWanted (timersStopped r) = reportedAsWanted r := rfl
@[simp] theorem setFan_params (s : State) (f : Nat) (u : FanRecord) : (s.setFan f u).params = s.params := rfl

/-- R145, R149: a STOP is sent to a fan with record `r`, whose record becomes `u` with the exchange opened. -/
def stopDerived (f : Nat) (r u : FanRecord) (s : State) : State :=
  (sendCommand f .stop .fwd .full s).setFans { s.fans with recs := s.fans.recs.set f { u with
    lastIssued := nextCommandNumber r
    exchange := .opened ⟨.stop, .fwd, .full, nextCommandNumber r⟩ 0 (.ack Config.ackTimeout) } }

section
variable {s : State} {f : Nat} {r : FanRecord}

theorem setFan_setFan (s : State) (f : Nat) (u v : FanRecord) : (s.setFan f u).setFan f v = s.setFan f v := by
  simp only [State.setFan, State.setFans, List.set_set]

theorem fanRec_setFan (u : FanRecord) (h : s.fans.recs[f]? = some r) : fanRec (s.setFan f u) f = u :=
  fanRec_of_some (recs_set_self u h)

theorem modFan_setFan (g : FanRecord → FanRecord) (u : FanRecord) (h : s.fans.recs[f]? = some r) :
    modFan f g (s.setFan f u) = s.setFan f (g u) := by
  rw [modFan, fanRec_setFan u h, setFan_setFan]

theorem setFanState_setFan (x : FanState) (u : FanRecord) (h : s.fans.recs[f]? = some r) :
    setFanState f x (s.setFan f u) = s.setFan f { u with state := x } := modFan_setFan _ u h

theorem stopTimers_eq (h : s.fans.recs[f]? = some r) : stopTimers f s = s.setFan f (timersStopped r) := by
  rw [stopTimers, modFan, fanRec_of_some h]
  rfl

/-- R149: a STOP sent once the record has changed is the same STOP where the number to issue is the same. -/
theorem sendStop_setFan {u : FanRecord} (h : s.fans.recs[f]? = some r) (same : nextCommandNumber u = nextCommandNumber r) :
    sendStop f (s.setFan f u) = stopDerived f r u s := by
  have offered : ∀ c : FanCommand, offerFanCommand f c (s.setFan f u) =
      (offerFanCommand f c s).setFans { s.fans with recs := s.fans.recs.set f u } :=
    fun c => offerFanCommand_setFans f c s _ rfl
  rw [sendStop, sendCommand_eq _ _ _ (recs_set_self u h), stopDerived, sendCommand_eq _ _ _ h, same, offered]
  simp only [State.setFan, State.setFans, List.set_set]

/-- R155: a fan is stopped once its timers are. -/
theorem stopFan_timersStopped (h : s.fans.recs[f]? = some r) :
    stopFan f (s.setFan f (timersStopped r)) = stopDerived f r { timersStopped r with state := .stopping } s := by
  rw [stopFan, sendStop_setFan (u := timersStopped r) h rfl, stopDerived,
    modFan_eq _ (r := { timersStopped r with
      lastIssued := nextCommandNumber r
      exchange := .opened ⟨.stop, .fwd, .full, nextCommandNumber r⟩ 0 (.ack Config.ackTimeout) }) (recs_set_self _ h)]
  simp only [State.setFans, List.set_set]
  rfl

/-- R145: the drive is reported in motion or tripped. -/
def reportedMoving (r : FanRecord) : Prop := r.reported.drive ∈ [.accel, .running, .decel, .tripped]

theorem reportedMoving_cases (moving : reportedMoving r) : r.reported.drive = .accel ∨ r.reported.drive = .running ∨
    r.reported.drive = .decel ∨ r.reported.drive = .tripped := by
  simpa [reportedMoving] using moving

theorem deriveFan_failed_moving (h : s.fans.recs[f]? = some r) (failed : r.failed = true) (moving : reportedMoving r) :
    deriveFan f s = stopDerived f r { timersStopped r with state := .failed } s := by
  have stops := sendStop_setFan (u := { timersStopped r with state := .failed }) h rfl
  rcases reportedMoving_cases moving with drive | drive | drive | drive
  all_goals simpa [deriveFan, stopTimers_eq h, fanRec_setFan _ h, setFanState_setFan _ _ h, failed, drive] using stops

theorem deriveFan_failed_still (h : s.fans.recs[f]? = some r) (failed : r.failed = true) (still : ¬ reportedMoving r) :
    deriveFan f s = s.setFan f { timersStopped r with state := .failed } := by
  cases drive : r.reported.drive
  case accel | running | decel | tripped => simp [reportedMoving, drive] at still
  all_goals simp [deriveFan, stopTimers_eq h, fanRec_setFan _ h, setFanState_setFan _ _ h, failed, drive]

theorem deriveFan_lost (h : s.fans.recs[f]? = some r) (failed : r.failed = false) (lost : r.lost = true) :
    deriveFan f s = s.setFan f { timersStopped r with state := .lost } := by
  simp [deriveFan, stopTimers_eq h, fanRec_setFan _ h, setFanState_setFan _ _ h, failed, lost]

theorem deriveFan_lockout (h : s.fans.recs[f]? = some r) (failed : r.failed = false) (lost : r.lost = false)
    (drive : r.reported.drive = .lockout) :
    deriveFan f s = s.setFan f { timersStopped r with state := .unavailable } := by
  simp [deriveFan, stopTimers_eq h, fanRec_setFan _ h, setFanState_setFan _ _ h, failed, lost, drive]

theorem deriveFan_unknown (h : s.fans.recs[f]? = some r) (failed : r.failed = false) (lost : r.lost = false)
    (drive : r.reported.drive = .unknown) :
    deriveFan f s = s.setFan f { timersStopped r with state := .stopped } := by
  simp [deriveFan, stopTimers_eq h, fanRec_setFan _ h, setFanState_setFan _ _ h, failed, lost, drive]

theorem deriveFan_running (h : s.fans.recs[f]? = some r) (failed : r.failed = false) (lost : r.lost = false)
    (drive : r.reported.drive = .running) (wanted : reportedAsWanted r = true) :
    deriveFan f s = s.setFan f { timersStopped r with state := .running } := by
  simp [deriveFan, stopTimers_eq h, fanRec_setFan _ h, setFanState_setFan _ _ h, failed, lost, drive, wanted]

theorem deriveFan_accel (h : s.fans.recs[f]? = some r) (failed : r.failed = false) (lost : r.lost = false)
    (drive : r.reported.drive = .accel) (wanted : reportedAsWanted r = true) :
    deriveFan f s = s.setFan f
      { timersStopped r with state := .settling, start := some (s.params.startLimit * 1000) } := by
  simp [deriveFan, stopTimers_eq h, fanRec_setFan _ h, modFan_setFan _ _ h, failed, lost, drive, wanted]

theorem deriveFan_stopping (h : s.fans.recs[f]? = some r) (failed : r.failed = false) (lost : r.lost = false)
    (moving : reportedMoving r) (other : ¬ (r.reported.drive ∈ [.running, .accel] ∧ reportedAsWanted r = true)) :
    deriveFan f s = stopDerived f r { timersStopped r with state := .stopping } s := by
  have stops := stopFan_timersStopped h
  have unwanted : r.reported.drive ∈ [.running, .accel] → reportedAsWanted r = false := fun drive =>
    Bool.eq_false_iff.2 fun wanted => other ⟨drive, wanted⟩
  rcases reportedMoving_cases moving with drive | drive | drive | drive
  · simp [deriveFan, stopTimers_eq h, fanRec_setFan _ h, failed, lost, drive, unwanted (by simp [drive]), stops]
  · simp [deriveFan, stopTimers_eq h, fanRec_setFan _ h, failed, lost, drive, unwanted (by simp [drive]), stops]
  · simp [deriveFan, stopTimers_eq h, fanRec_setFan _ h, failed, lost, drive, stops]
  · simp [deriveFan, stopTimers_eq h, fanRec_setFan _ h, failed, lost, drive, stops]

theorem deriveFan_stopped (h : s.fans.recs[f]? = some r) (failed : r.failed = false) (lost : r.lost = false)
    (drive : r.reported.drive = .stopped) : deriveFan f s =
      if r.reported.seconds < s.params.dwell then s.setFan f
        { timersStopped r with state := .dwell, dwell := some ((s.params.dwell - r.reported.seconds) * 1000) }
      else s.setFan f { timersStopped r with state := .stopped } := by
  simp [deriveFan, stopTimers_eq h, fanRec_setFan _ h, modFan_setFan _ _ h, setFanState_setFan _ _ h, failed, lost, drive]

end

/-- Settles O48: entry into AUTONOMOUS by what it leaves, and the derivation of a fan line by line. -/
theorem resumeTakesAuthority : Obligations.ResumeTakesAuthority := by
  intro s serves c
  have resumes := exec_authorityResume serves
  refine ⟨fun released => ?taken, fun other => ?stands, fun f r h => ?derived⟩
  case taken =>
    rw [resumeAuthority_released (s := taken c s) released] at resumes
    have kept := kept_enterAutonomous (taken c s)
    obtain ⟨held, follows⟩ := (enterAutonomous_leaves (taken c s)).held kept
    have leaves : planningOnly (taken c s) (ended (enterAutonomous (taken c s))) :=
      congrArg (fun v : State => v.setOuts (outputsOf (enterAutonomous (taken c s))))
        (kept.planningOnly (by exact serving_quiet serves))
    exact ⟨_, resumes, held, follows, leaves, fun plan => inCommand_enterAutonomous (s := taken c s) plan⟩
  case stands =>
    rw [resumes, resumeAuthority_stands (s := taken c s) other]
  case derived =>
    intro v drive moving asWanted n still becomes stops
    have wanted_iff : reportedAsWanted r = true ↔ asWanted := decide_eq_true_iff
    refine ⟨fun failed => ⟨deriveFan_failed_moving h failed, deriveFan_failed_still h failed⟩, fun failed =>
      ⟨deriveFan_lost h failed, fun lost => ⟨deriveFan_lockout h failed lost, deriveFan_unknown h failed lost,
        fun drive wanted => deriveFan_running h failed lost drive (wanted_iff.2 wanted),
        fun drive wanted => deriveFan_accel h failed lost drive (wanted_iff.2 wanted),
        fun moves other => deriveFan_stopping h failed lost moves fun both => other ⟨both.1, wanted_iff.1 both.2⟩,
        fun stopped short => ?dwell, fun stopped rested => ?rested⟩⟩⟩
    case dwell => exact (deriveFan_stopped h failed lost stopped).trans (if_pos short)
    case rested => exact (deriveFan_stopped h failed lost stopped).trans (if_neg (Nat.not_lt.2 rested))

end Sys2Proof.Machine
end

section
/-!
The Sample Store (R38 to R46, R52): what it comes to that a sample of the ring is taken, and the statements about the four
kinds of sample.
-/

namespace Sys2Proof.Machine

open Sys2Proof

/-! ## Clamped values and the record of a station -/

theorem clampInt_eq {lo hi : Int} (x : Int) (h : lo ≤ hi) : clampInt lo hi x = max lo (min hi x) := by
  unfold clampInt
  split
  · omega
  · split <;> omega

/-- R39: over-range is set exactly where the clamp changes the value. -/
theorem clampedSample_eq {lo hi : Int} (x : Int) (q : Quality) (now : Nat) (h : lo ≤ hi) :
    clampedSample lo hi x q now = ⟨some (max lo (min hi x)), q, decide (x < lo ∨ hi < x), now, none, none⟩ := by
  have moved : max lo (min hi x) ≠ x ↔ x < lo ∨ hi < x := by omega
  simp only [clampedSample, clampInt_eq x h, moved]

theorem stationRec_of_some {s : State} {i : Nat} {r : StationRecord} (h : s.samples[i]? = some r) :
    stationRec s i = r := by
  simp [stationRec, List.getD, h]

/-! ## The end of a sample command -/

theorem kept_raise (e : Option Detection) (s : State) : Kept s (raise e s) := by
  cases e
  · exact .refl s
  · exact kept_takeEvent _ s

/-- R52: a sample of the ring is taken by a station in use with its role, unless an injection marks the record. -/
theorem takesSample_serving {s : State} {i : Nat} {role : Role} {r : StationRecord} (c : Instr)
    (serves : serving s = true) (station : stationHasRole s.tables i role = true) (held : s.samples[i]? = some r) :
    takesSample (taken c s) i role = !r.injected := by
  have here : stationRec (taken c s) i = r := stationRec_of_some held
  have service : inService (taken c s) = true := serving_inService serves
  have same : stationHasRole (taken c s).tables i role = true := station
  simp only [takesSample, here, service, same, Bool.true_and]

section
variable {s : State} {i : Nat} {role : Role} {r : StationRecord} (serves : serving s = true)
  (station : stationHasRole s.tables i role = true) (held : s.samples[i]? = some r)
include serves station held

theorem finish_sample_blocked (c : Instr) (take : State → State) (marked : r.injected = true) :
    finish (if takesSample (taken c s) i role = true then take (taken c s) else taken c s) =
      .next (ended (taken c s)) := by
  rw [takesSample_serving c serves station held, marked]
  exact finish_ended (quiet_due (serving_quiet serves))

theorem finish_sample_taken {c : Instr} {take : State → State} {l : List StationRecord} (plain : r.injected = false)
    (kept : Kept ((taken c s).setSamples l) (take (taken c s))) :
    finish (if takesSample (taken c s) i role = true then take (taken c s) else taken c s) =
      .next (ended (take (taken c s))) := by
  rw [takesSample_serving c serves station held, plain]
  exact finish_ended_of_kept kept (by exact serving_quiet serves)

end

/-! ## Velocity samples (R38, R39) -/

theorem takeVelocity_eq {s : State} {i : Nat} {r : StationRecord} (v : Int) (q : Quality) (mark : Bool)
    (held : s.samples[i]? = some r) : takeVelocity i v q mark s = s.setSamples (s.samples.set i { r with
      sample := some ⟨some (max (-2000) (min 2000 v)), q, decide (v < -2000 ∨ 2000 < v), s.clock, none, none⟩
      injected := mark }) := by
  rw [takeVelocity, stationRec_of_some held, clampedSample_eq v q s.clock (by decide), setStation]

/-- Settles O24. -/
theorem velocitySampleIsTaken : Obligations.VelocitySampleIsTaken := by
  intro i v q r s serves station held c x
  refine ⟨fun plain => ?taken, fun marked => ?marked⟩
  case taken =>
    have record := takeVelocity_eq (s := taken c s) v q false held
    refine (finish_sample_taken (take := takeVelocity i v q false) serves station held plain
      (by rw [record]; exact .refl _)).trans ?_
    rw [record, ← plain]
    rfl
  case marked => exact finish_sample_blocked serves station held c (takeVelocity i v q false) marked

/-! ## Thresholds (R41, R42, R46) -/

/-- R41, R42: the threshold state after a value. -/
theorem thresholdTest_state (level rearm x : Int) (q : Quality) (st : Threshold) :
    (thresholdTest level rearm x q st).1 = if q = .good then
      (match st with
       | .armed => if level ≤ x then .tripped else .armed
       | .tripped => if x < rearm then .armed else .tripped)
      else st := by
  cases q
  case suspect => rfl
  case good => cases st <;> simp only [thresholdTest] <;> split <;> rfl

/-- R41: an event is raised where an ARMED station trips. -/
theorem thresholdTest_raises (level rearm x : Int) (q : Quality) (st : Threshold) :
    (thresholdTest level rearm x q st).2 = decide (q = .good ∧ st = .armed ∧ level ≤ x) := by
  cases q
  case suspect => simp [thresholdTest]
  case good => cases st <;> simp only [thresholdTest] <;> split <;> simp_all

/-- R46: the event at the station's chainage. -/
def stationDetection (t : TableStore) (i : Nat) (kind : EventType) : Detection :=
  ⟨kind, stationChainage t i, stationZone t i, some i, none, false⟩

theorem takeThreshold_eq {s : State} {i : Nat} {r : StationRecord} (kind : EventType) (x : Sample) (level rearm : Int)
    (mark : Bool) (held : s.samples[i]? = some r) :
    takeThreshold kind i x level rearm mark s =
      let v := x.value.getD 0
      let t := s.setSamples (s.samples.set i { r with
        sample := some x
        threshold := (thresholdTest level rearm v x.quality r.threshold).1
        injected := mark })
      if x.quality = .good ∧ r.threshold = .armed ∧ level ≤ v then takeEvent (stationDetection s.tables i kind) t
      else t := by
  simp only [takeThreshold, stationRec_of_some held, thresholdTest_raises, stationEvent, decide_eq_true_eq]
  split <;> rfl

theorem kept_takeThreshold {s : State} {i : Nat} {r : StationRecord} (kind : EventType) (x : Sample) (level rearm : Int)
    (mark : Bool) (held : s.samples[i]? = some r) :
    Kept (s.setSamples (s.samples.set i { r with
        sample := some x
        threshold := (thresholdTest level rearm (x.value.getD 0) x.quality r.threshold).1
        injected := mark })) (takeThreshold kind i x level rearm mark s) := by
  rw [takeThreshold_eq kind x level rearm mark held]
  exact .ite (kept_takeEvent _ _) (.refl _)

/-- R41: the re-arm level lies a tenth of the threshold below it, rounded up. -/
theorem opacityRearm_eq (T : Nat) : (opacityRearm T : Int) = T - T * 10 / 100 := by
  unfold opacityRearm
  omega

theorem takeOpacity_eq (i e : Nat) (q : Quality) (mark : Bool) (s : State) : takeOpacity i e q mark s =
    takeThreshold .opacity i ⟨some (min 20000 e), q, decide (20000 < e), s.clock, none, none⟩ s.params.opacityThreshold
      (s.params.opacityThreshold - s.params.opacityThreshold * 10 / 100) mark s := by
  have value : max 0 (min 20000 (e : Int)) = min 20000 (e : Int) := by omega
  have beyond : ((e : Int) < 0 ∨ 20000 < (e : Int)) ↔ 20000 < e := by omega
  rw [takeOpacity, clampedSample_eq _ q s.clock (by decide), opacityRearm_eq]
  simp only [value, beyond]

theorem takeTemperature_eq (i : Nat) (y : Int) (q : Quality) (mark : Bool) (s : State) : takeTemperature i y q mark s =
    takeThreshold .temperature i
      ⟨some (max (-40) (min 1200 y)), q, decide (y < -40 ∨ 1200 < y), s.clock, none, none⟩ s.params.temperatureThreshold
      (s.params.temperatureThreshold - 5) mark s := by
  rw [takeTemperature, clampedSample_eq _ q s.clock (by decide)]

/-- Settles O25: both kinds of sample are a `takeThreshold`, whose test is `thresholdTest_state`. -/
theorem thresholdSamplesAreTaken : Obligations.ThresholdSamplesAreTaken := by
  unfold Obligations.ThresholdSamplesAreTaken
  intro next result i e y q r s serves held
  have moves : ∀ (x : Sample) (level rearm : Int), (thresholdTest level rearm (x.value.getD 0) x.quality r.threshold).1 =
      next (decide (x.quality = .good)) r.threshold level rearm (x.value.getD 0) := fun x level rearm => by
    rw [thresholdTest_state]
    cases x.quality <;> cases r.threshold <;> rfl
  have takes : ∀ (c : Instr) (role : Role) (kind : EventType) (x : Sample) (level rearm : Int), r.injected = false →
      stationHasRole s.tables i role = true →
      finish (if takesSample (taken c s) i role = true
        then takeThreshold kind i x level rearm false (taken c s) else taken c s) =
      .next (result c kind i x.quality x level rearm r s) := fun c role kind x level rearm plain station => by
    refine (finish_sample_taken serves station held plain
      (kept_takeThreshold kind x level rearm false (s := taken c s) held)).trans ?_
    rw [takeThreshold_eq (s := taken c s) kind x level rearm false held]
    dsimp only
    rw [moves, ← plain]
    exact congrArg Host.Outcome.next (apply_ite ended _ _ _)
  refine ⟨fun marked => ⟨fun station => ?opacityMarked, fun station => ?temperatureMarked⟩, fun plain station => ?opacity,
    fun plain station => ?temperature⟩
  case opacityMarked => exact finish_sample_blocked serves station held _ (takeOpacity i e q false) marked
  case temperatureMarked => exact finish_sample_blocked serves station held _ (takeTemperature i y q false) marked
  case opacity =>
    have run := takes (.opacitySample i e q) _ .opacity
      ⟨some (min 20000 e), q, decide (20000 < e), s.clock, none, none⟩ s.params.opacityThreshold
      (s.params.opacityThreshold - s.params.opacityThreshold * 10 / 100) plain station
    refine Eq.trans ?_ run
    exact congrArg (fun u => finish (if takesSample (taken (.opacitySample i e q) s) i .opacity = true then u
      else taken (.opacitySample i e q) s)) (takeOpacity_eq i e q false _)
  case temperature =>
    have run := takes (.temperatureSample i y q) _ .temperature
      ⟨some (max (-40) (min 1200 y)), q, decide (y < -40 ∨ 1200 < y), s.clock, none, none⟩ s.params.temperatureThreshold
      (s.params.temperatureThreshold - 5) plain station
    refine Eq.trans ?_ run
    exact congrArg (fun u => finish (if takesSample (taken (.temperatureSample i y q) s) i .temperature = true then u
      else taken (.temperatureSample i y q) s)) (takeTemperature_eq i y q false _)

/-! ## Heat lines (R43 to R45) -/

/-- R43: the alarm chainage lies at the clamped alarm distance from the cable head, or at the cable's midpoint, in the bore. -/
theorem alarmChainage_eq (s : State) (i : Nat) (a : Option Nat) : alarmChainage s i a =
    (max 0 (min (s.params.L : Int) (stationChainage s.tables i +
      stationSign s.tables i * ((a.map (min (stationCable s.tables i))).getD (stationCable s.tables i / 2) : Nat)))).toNat := by
  simp only [alarmChainage, clampInt_eq _ (Int.natCast_nonneg _)]
  cases a
  · rfl
  · rw [Option.map_some, Option.getD_some, Nat.min_comm (stationCable s.tables i), Nat.cast_min]

/-- R37, R39: the record of a report, its alarm distance clamped to the cable. -/
theorem heatSample_eq (s : State) (i : Nat) (line : LineState) (a : Option Nat) : heatSample s i line a =
    { value := if line = .alarm then some (alarmChainage s i a : Int) else none
      quality := .good
      overRange := decide (line = .alarm) && a.any fun b => decide (stationCable s.tables i < b)
      takenAt := s.clock
      line := some line
      alarm := a.map (min (stationCable s.tables i)) } := by
  have clamped : (a.map fun b => min b (stationCable s.tables i)) = a.map (min (stationCable s.tables i)) :=
    congrArg (a.map ·) (funext fun b => Nat.min_comm b _)
  unfold heatSample
  rw [clamped]
  cases line <;> cases a <;> rfl

/-- R44: an alarm lies 25 m or more from the last event, or there was none. -/
theorem heatMoved_iff (last : Option Nat) (x : Nat) :
    heatMoved last x = true ↔ ∀ p, last = some p → 25 ≤ ((x : Int) - p).natAbs := by
  cases last
  case none => simp [heatMoved]
  case some q =>
    have far : 25 ≤ dist x q ↔ 25 ≤ ((x : Int) - q).natAbs := by
      unfold dist
      split <;> omega
    have only : (∀ p, some q = some p → 25 ≤ ((x : Int) - p).natAbs) ↔ 25 ≤ ((x : Int) - q).natAbs := by simp
    exact (decide_eq_true_iff.trans far).trans only.symm

theorem takeHeatLine_eq {s : State} {i : Nat} {r : StationRecord} (line : LineState) (a : Option Nat) (mark : Bool)
    (held : s.samples[i]? = some r) :
    takeHeatLine i line a mark s = raise ((heatTest line (alarmChainage s i a) r).2.map (heatEvent s i))
      (s.setSamples (s.samples.set i { (heatTest line (alarmChainage s i a) r).1 with
        sample := some (heatSample s i line a)
        injected := mark })) := by
  simp only [takeHeatLine, stationRec_of_some held]
  rfl

/-- R44: an alarm that stands under the fault lock, or too near to the last event. -/
theorem heatTest_alarm_stands {r : StationRecord} {x : Nat}
    (h : r.faultLock = true ∨ ∃ p, r.lastEvent = some p ∧ ((x : Int) - p).natAbs < 25) :
    heatTest .alarm x r = (r, none) := by
  refine if_neg fun raised => ?_
  obtain ⟨free, moved⟩ := Bool.and_eq_true_iff.1 raised
  rcases h with locked | ⟨p, last, near⟩
  · simp [locked] at free
  · exact absurd ((heatMoved_iff _ _).1 moved p last) (by omega)

/-- R44: an alarm that raises an event. -/
theorem heatTest_alarm_raises {r : StationRecord} {x : Nat} (free : r.faultLock = false)
    (moved : ∀ p, r.lastEvent = some p → 25 ≤ ((x : Int) - p).natAbs) :
    heatTest .alarm x r = ({ r with lastEvent := some x }, some x) :=
  if_pos (by rw [free, (heatMoved_iff _ _).2 moved]; rfl)

/-- Settles O26: the report's record is `heatSample_eq`, its test `heatTest` by the line state and the fault lock. -/
theorem heatLineReportIsTaken : Obligations.HeatLineReportIsTaken := by
  intro i a r s serves station held
  refine ⟨fun marked line => finish_sample_blocked serves station held _ (takeHeatLine i line a false) marked,
    fun plain => ?_⟩
  intro cable clamped d x cFault cNormal cAlarm beyond holding
  have takes : ∀ line, exec (.heatLineReport i line a) s = .next (ended (raise
      ((heatTest line x r).2.map (heatEvent s i))
      (holding (.heatLineReport i line a) { (heatTest line x r).1 with
        sample := some (heatSample s i line a)
        injected := r.injected }))) := fun line => by
    have place : alarmChainage (taken (.heatLineReport i line a) s) i a = x := alarmChainage_eq _ i a
    have run := takeHeatLine_eq (s := taken (.heatLineReport i line a) s) line a false held
    refine (finish_sample_taken serves station held plain (take := takeHeatLine i line a false)
      (by rw [run]; exact kept_raise _ _)).trans ?_
    rw [run, place, plain]
    rfl
  have recorded : ∀ line, heatSample s i line a =
      ⟨if line = .alarm then some (x : Int) else none, .good, decide (line = .alarm) && beyond, s.clock, some line,
        clamped⟩ := fun line => by
    rw [heatSample_eq, show alarmChainage s i a = x from alarmChainage_eq s i a]
    cases a <;> rfl
  refine ⟨(takes .fault).trans ?fault, (takes .normal).trans ?normal, fun stands => (takes .alarm).trans ?stands,
    fun free moved => (takes .alarm).trans ?raises⟩
  case fault =>
    rw [recorded]
    rfl
  case normal =>
    rw [recorded]
    rfl
  case stands =>
    rw [recorded, heatTest_alarm_stands stands]
    rfl
  case raises =>
    rw [recorded, heatTest_alarm_raises free moved]
    rfl

end Sys2Proof.Machine
end

section
/-!
One argument for many relations: what every change of queues, fan records, selection and head phase keeps is kept by the
hand-over of wanted states, the start tests and the events of a fan (R126 to R130, R144 to R163, R168). A relation
between states is tied to the model by its `FanSteps`; each operation is walked through once.
-/

namespace Sys2Proof.Machine

open Sys2Proof

/-- The reported parts of the fans (R143). -/
def reportedParts (s : State) : List Reported := s.fans.recs.map FanRecord.reported

/-- The relation holds across each part of which the operations of the Fan Sequencer are made. -/
structure FanSteps (R : State → State → Prop) : Prop where
  refl : ∀ s, R s s
  trans : ∀ {s t u}, R s t → R t u → R s u
  relayed : ∀ {s t : State}, t = { s with port := t.port, chip := t.chip, test := t.test } → R s t
  fans : ∀ (s : State) (x : Sequencer), reportedParts (s.setFans x) = reportedParts s → R s (s.setFans x)
  walked : ∀ (s : State) (sel : List Nat) (n : Nat), R s (s.setPlan { s.plan with selection := sel, shortfall := n })
  phased : ∀ s, R s (phaseTest s)

/-- A record that is replaced by one with the same reported part. -/
theorem reportedParts_setFan (s : State) (f : Nat) {u : FanRecord} (same : u.reported = (fanRec s f).reported) :
    reportedParts (s.setFan f u) = reportedParts s := by
  show (s.fans.recs.set f u).map FanRecord.reported = s.fans.recs.map FanRecord.reported
  apply List.ext_getElem?
  intro k
  simp only [List.getElem?_map, List.getElem?_set]
  split
  · rename_i here
    subst here
    rcases held : s.fans.recs[f]? with _ | r
    · simp [List.getElem?_eq_none_iff.1 held]
    · simp [(List.getElem?_eq_some_iff.1 held).1, same, fanRec_of_some held]
  · rfl

/-- Records that are changed one by one, but for their reported parts. -/
theorem reported_mapIdx (l : List FanRecord) {g : Nat → FanRecord → FanRecord}
    (same : ∀ f r, (g f r).reported = r.reported) :
    (l.mapIdx g).map FanRecord.reported = l.map FanRecord.reported := by
  apply List.ext_getElem?
  intro f
  simp only [List.getElem?_map, List.getElem?_mapIdx]
  cases l[f]?
  · rfl
  · exact congrArg some (same f _)

/-- A conditional stands in a relation in which both its branches stand. -/
theorem rel_ite {R : State → State → Prop} {s t u : State} {p : Prop} [Decidable p] (a : R s t) (b : R s u) :
    R s (if p then t else u) := by split <;> assumption

namespace FanSteps

variable {R : State → State → Prop} (c : FanSteps R)
include c

/-! ## Offers and records -/

theorem notice (code n : Nat) (f : List Byte) (s : State) : R s (Machine.notice code n f s) :=
  c.relayed (relayed_notice code n f s).rest

theorem headNotice (code : Nat) (f : List Byte) (s : State) : R s (Machine.headNotice code f s) := c.notice _ _ _ s

theorem setFan (s : State) (f : Nat) {u : FanRecord} (same : u.reported = (fanRec s f).reported := by rfl) :
    R s (s.setFan f u) :=
  c.fans s _ (reportedParts_setFan s f same)

theorem modFan (f : Nat) {g : FanRecord → FanRecord} (s : State)
    (same : ∀ r, (g r).reported = r.reported := by exact fun _ => rfl) :
    R s (Machine.modFan f g s) := c.setFan s f (same _)

theorem setFanState (f : Nat) (x : FanState) (s : State) : R s (Machine.setFanState f x s) := c.modFan f s
theorem setQueue (q : List Nat) (s : State) : R s (Machine.setQueue q s) := c.fans s _ rfl
theorem leaveQueue (f : Nat) (s : State) : R s (Machine.leaveQueue f s) := c.setQueue _ s

theorem offerFanCommand (f : Nat) (x : FanCommand) (s : State) : R s (Machine.offerFanCommand f x s) := by
  unfold Machine.offerFanCommand
  exact rel_ite (c.headNotice _ _ s) (rel_ite (c.relayed (offerCommand_rest _ s)) (c.refl s))

theorem sendCommand (f : Nat) (a : Action) (d : Drive) (st : SpeedStep) (s : State) :
    R s (Machine.sendCommand f a d st s) := c.trans (c.setFan s f) (c.offerFanCommand f _ _)

theorem sendStop (f : Nat) (s : State) : R s (Machine.sendStop f s) := c.sendCommand f _ _ _ s

theorem stopFan (f : Nat) (s : State) : R s (Machine.stopFan f s) :=
  c.trans (c.sendStop f s) (c.modFan f _)

theorem joinQueue (f : Nat) (s : State) : R s (Machine.joinQueue f s) :=
  rel_ite (c.trans (c.setQueue _ s) (c.setFanState f _ _)) (c.refl s)

/-! ## Start tests and wanted states -/

theorem notifyChange (f : Nat) (old : FanState) (s : State) : R s (Machine.notifyChange f old s) :=
  rel_ite (c.phased s) (c.refl s)

theorem startFan (f : Nat) (s : State) : R s (Machine.startFan f s) := by
  unfold Machine.startFan
  split
  · exact c.refl s
  · refine c.trans ?_ (c.notifyChange f _ _)
    refine c.trans ?_ (c.fans _ _ rfl)
    exact c.trans (c.trans (c.leaveQueue f s) (c.sendCommand f _ _ _ _)) (c.modFan f _)

theorem startLoop (n : Nat) (s : State) : R s (Machine.startLoop n s) := by
  induction n generalizing s with
  | zero => exact c.refl s
  | succ n ih =>
    unfold Machine.startLoop
    split
    · exact c.refl s
    · exact rel_ite (c.trans (c.startFan _ s) (ih _)) (c.refl s)

theorem startTests (s : State) : R s (Machine.startTests s) := c.startLoop _ s

theorem applyWanted (f : Nat) (s : State) : R s (Machine.applyWanted f s) := by
  unfold Machine.applyWanted
  simp only []
  split
  · exact c.joinQueue f s
  · exact rel_ite (c.refl s) (c.trans (c.leaveQueue f s) (c.setFanState f _ _))
  · split
    · exact rel_ite (c.refl s) (c.stopFan f s)
    · exact c.stopFan f s
  · exact rel_ite (c.refl s) (c.stopFan f s)
  · exact rel_ite (c.refl s) (c.stopFan f s)
  · exact c.refl s

theorem takeWanted (s : State) (f : Nat) : R s (Machine.takeWanted s f) :=
  c.trans (c.trans (c.applyWanted f s) (c.notifyChange f _ _)) (c.startTests _)

theorem takeWanteds (fs : List Nat) (s : State) : R s (Machine.takeWanteds fs s) := by
  unfold Machine.takeWanteds
  induction fs generalizing s with
  | nil => exact c.refl s
  | cons f fs ih => exact c.trans (c.takeWanted s f) (ih _)

/-- R128: recording the wanted states leaves the reported parts. -/
theorem recordWanted (s : State) : R s (Machine.recordWanted s) := by
  refine c.fans s _ (reported_mapIdx _ fun f r => ?_)
  split <;> rfl

theorem handWanted (s : State) : R s (Machine.handWanted s) := c.trans (c.recordWanted s) (c.takeWanteds _ _)

/-! ## Walks -/

theorem takeSelection (sel : List Nat) (s : State) : R s (Machine.takeSelection sel s) :=
  rel_ite (c.walked s _ _) (c.trans (c.walked s _ _) (c.headNotice _ _ _))

theorem freshWalk (s : State) : R s (Machine.freshWalk s) := c.takeSelection _ s
theorem hysteresisWalk (s : State) : R s (Machine.hysteresisWalk s) := c.takeSelection _ s

theorem rebuilt (s : State) : R s (Machine.rebuilt s) :=
  c.trans (c.trans (c.handWanted s) (c.phased _)) (c.startTests _)

theorem freshRevision (s : State) : R s (Machine.freshRevision s) := c.trans (c.freshWalk s) (c.rebuilt _)
theorem hysteresisRevision (s : State) : R s (Machine.hysteresisRevision s) := c.trans (c.hysteresisWalk s) (c.rebuilt _)

theorem recompute (s : State) : R s (Machine.recompute s).1 := by
  unfold Machine.recompute
  split
  · exact c.trans (c.trans (c.hysteresisWalk s) (c.recordWanted _)) (c.phased _)
  · exact c.refl s

/-! ## Derivation -/

theorem deriveFan (f : Nat) (s : State) : R s (Machine.deriveFan f s) := by
  have timers : R s (stopTimers f s) := c.modFan f s
  have stop : ∀ x, R (stopTimers f s) (Machine.sendStop f (Machine.setFanState f x (stopTimers f s))) := fun x =>
    c.trans (c.setFanState f x _) (c.sendStop f _)
  refine c.trans timers ?_
  unfold Machine.deriveFan
  simp only []
  split
  · split
    case h_5 => exact c.setFanState f _ _
    all_goals exact stop _
  · split
    · exact c.setFanState f _ _
    · split
      · exact c.setFanState f _ _
      · exact c.setFanState f _ _
      · exact rel_ite (c.setFanState f _ _) (c.stopFan f _)
      · exact rel_ite (c.modFan f _) (c.stopFan f _)
      · exact c.stopFan f _
      · exact c.stopFan f _
      · exact rel_ite (c.modFan f _) (c.setFanState f _ _)

theorem deriveOne (f : Nat) (s : State) : R s (Machine.deriveOne f s) := c.trans (c.deriveFan f s) (c.joinQueue f _)

/-! ## The events of a fan -/

/-- R168: an event of one fan, once its own effect keeps the relation. -/
theorem fanEvent (f : Nat) (body : State → State × Bool) (s : State) (own : R s (body s).1) :
    R s (Machine.fanEvent f body s) := by
  have asked : R s (if (body s).2 = true then Machine.recompute (body s).1 else ((body s).1, [])).1 := by
    split
    · exact c.trans own (c.recompute _)
    · exact own
  exact c.trans (c.trans (c.trans asked (c.notifyChange f _ _)) (c.startTests _)) (c.takeWanteds _ _)

theorem failedAttempt (f : Nat) (s : State) : R s (Machine.failedAttempt f s).1 := by
  unfold Machine.failedAttempt
  refine c.trans (c.stopFan f s) ?_
  simp only []
  split
  · split
    · exact c.trans (c.setFan _ f) (c.headNotice _ _ _)
    · exact c.setFan _ f
  · split
    · exact c.trans (c.setFan _ f) (c.headNotice _ _ _)
    · exact c.setFan _ f

theorem becomeUnavailable (f : Nat) (s : State) : R s (Machine.becomeUnavailable f s).1 := by
  unfold Machine.becomeUnavailable
  dsimp only
  exact c.trans (c.leaveQueue f s) (c.modFan f _)

theorem recoverFan (f : Nat) (s : State) : R s (Machine.recoverFan f s).1 := by
  have unmarked : R s (Machine.modFan f (fun r => { r with lost := false }) s) := c.modFan f s
  exact c.trans (c.trans unmarked (rel_ite (c.deriveOne f _) (c.refl _))) (c.headNotice _ _ _)

theorem enterDwell (f ms : Nat) (s : State) : R s (Machine.enterDwell f ms s) :=
  rel_ite (c.trans (c.modFan f s) (c.joinQueue f _)) (c.modFan f s)

theorem statusStarting (f : Nat) (s : State) : R s (Machine.statusStarting f s).1 := by
  have stays := c.refl s
  have fails := c.failedAttempt f s
  unfold Machine.statusStarting
  simp only []
  split
  · split
    · split
      · dsimp only
        exact c.modFan f s
      · exact fails
    · split <;> assumption
    all_goals assumption
  · split <;> assumption

theorem statusRunning (f : Nat) (s : State) : R s (Machine.statusRunning f s).1 := by
  unfold Machine.statusRunning
  simp only []
  split
  · split
    · exact c.refl s
    · exact c.deriveOne f s
  · exact c.failedAttempt f s
  · exact c.deriveOne f s

theorem statusStopping (f : Nat) (s : State) : R s (Machine.statusStopping f s).1 := by
  have stays := c.refl s
  have again := c.sendStop f s
  unfold Machine.statusStopping
  simp only []
  split
  · split
    · exact c.enterDwell f _ s
    all_goals assumption
  · exact stays

theorem statusStanding (f : Nat) (b : Bool) (s : State) : R s (Machine.statusStanding f b s).1 := by
  unfold Machine.statusStanding
  simp only []
  split
  · split
    · exact c.deriveOne f s
    · exact c.refl s
  · exact c.refl s
  · exact c.trans (c.leaveQueue f s) (c.deriveOne f _)

theorem statusFailed (f : Nat) (s : State) : R s (Machine.statusFailed f s).1 := by
  unfold Machine.statusFailed
  simp only []
  split
  · exact c.sendStop f s
  · exact c.refl s

theorem statusBody (f : Nat) (b : Bool) (s : State) : R s (Machine.statusBody f b s).1 := by
  have stays := c.refl s
  unfold Machine.statusBody
  simp only []
  split
  · exact c.recoverFan f s
  · split
    · split
      · exact stays
      · exact c.becomeUnavailable f s
    · split
      · exact stays
      · exact c.statusStarting f s
      · exact c.statusStarting f s
      · exact c.statusRunning f s
      · exact c.statusStopping f s
      · exact c.statusStanding f b s
      · exact c.statusStanding f b s
      · exact c.statusStanding f b s
      · exact c.statusFailed f s
      · exact stays
      · exact c.deriveOne f s

end FanSteps

end Sys2Proof.Machine
end

section
/-!
The measured velocity (R40, R47, R48) and the trim (R132 to R135): what an expiry of the trim timer does to the demand, and
how the trim timer follows the head phase through the walk that comes after.
-/

namespace Sys2Proof.Machine

open Sys2Proof

/-! ## Measured velocity (R47, R48) -/

/-- R47: the stations that measure, as the statement selects them. -/
theorem measures_iff (s : State) (d : Dir) (x i : Nat) : measures s d x i = true ↔
    stationHasRole s.tables i .anemometer = true ∧ stationMeasures s.tables i = true ∧
      (if d = .towardB then 1 else -1) * ((stationChainage s.tables i : Int) - x) ≤ -(s.params.clearDistance : Int) ∧
      ∃ m r, s.samples[i]? = some m ∧ m.sample = some r ∧ s.clock ≤ r.takenAt + 5000 ∧ r.quality = .good := by
  have along : downstream d x (stationChainage s.tables i) =
      (if d = .towardB then 1 else -1) * ((stationChainage s.tables i : Int) - x) := by cases d <;> rfl
  have fresh : (match (stationRec s i).sample with
      | none => false
      | some r => !sampleIsStale s.clock r && decide (r.quality = .good)) = true ↔
      ∃ m r, s.samples[i]? = some m ∧ m.sample = some r ∧ s.clock ≤ r.takenAt + 5000 ∧ r.quality = .good := by
    rcases held : s.samples[i]? with _ | m
    · simp [stationRec, List.getD, held, StationRecord.absent]
    · rw [stationRec_of_some held]
      rcases sample : m.sample with _ | r
      · simp [sample]
      · have young : sampleIsStale s.clock r = false ↔ s.clock ≤ r.takenAt + 5000 :=
          decide_eq_false_iff_not.trans Nat.not_lt
        simp [sample, young]
  rw [← along, ← fresh]
  simp only [measures, Bool.and_eq_true, decide_eq_true_eq]
  tauto

/-- R47: a station that measures lies below the loaded count. -/
theorem measures_below {s : State} {d : Dir} {x i : Nat} (h : measures s d x i = true) : i < s.tables.stations.count := by
  obtain ⟨station, _⟩ := (measures_iff s d x i).1 h
  simp only [stationHasRole, stationInUse, Bool.and_eq_true, decide_eq_true_eq] at station
  exact station.1.1

/-- R48: the value of a record on the tunnel axis. -/
theorem axisValue_eq (s : State) (i : Nat) :
    axisValue s i = stationSign s.tables i * (((stationRec s i).sample.bind Sample.value).getD 0) := by
  unfold axisValue
  cases (stationRec s i).sample
  · exact (Int.mul_zero _).symm
  · rfl

/-- R48: the order in which the selected stations are added does not matter. -/
theorem measuredVelocity_eq {s : State} {d : Dir} {sel : List Nat} (once : sel.Nodup)
    (selected : ∀ i, i ∈ sel ↔ measures s d (headChainage s) i = true) :
    measuredVelocity s d = if sel = [] then none
      else some (((if d = .towardB then 1 else -1) * (sel.map (axisValue s)).sum).tdiv sel.length) := by
  have same : sel.Perm ((List.range s.tables.stations.count).filter (measures s d (headChainage s))) := by
    refine (List.perm_ext_iff_of_nodup once (List.nodup_range.filter _)).2 fun i => ?_
    rw [selected, List.mem_filter, List.mem_range]
    exact ⟨fun h => ⟨measures_below h, h⟩, And.right⟩
  have sign : flowSign d = if d = .towardB then 1 else -1 := by cases d <;> rfl
  simp only [measuredVelocity, ← (same.map (axisValue s)).sum_eq, ← same.length_eq, sign, List.isEmpty_iff_length_eq_zero,
    ← List.length_eq_zero_iff (l := sel)]

/-! ## The trim timer and the head phase (R90, R132) -/

/-- R90, R132: what one phase test can do to the head phase and the trim timer; `n` is the trim interval in ms. -/
inductive TrimMove (n : Nat) : Option Phase × Option Nat → Option Phase × Option Nat → Prop where
  | regulates (x : Option Nat) : TrimMove n (some .staging, x) (some .regulating, some n)
  | stages (x : Option Nat) : TrimMove n (some .regulating, x) (some .staging, none)

/-- R132: with the timer just set, it runs on, unless the head has entered STAGING; and beside a head in REGULATING it
runs exactly while the head stays there. -/
theorem trim_of_moves {n : Nat} {phase : Option Phase} {p : Option Phase × Option Nat}
    (moves : Relation.ReflTransGen (TrimMove n) (phase, some n) p) :
    (p.2 = some n ∨ (p.1 = some .staging ∧ p.2 = none)) ∧
      (phase = some .regulating → p = (some .regulating, some n) ∨ p = (some .staging, none)) := by
  induction moves with
  | refl => exact ⟨.inl rfl, fun h => .inl (by rw [h])⟩
  | tail _ move _ =>
    cases move with
    | regulates => exact ⟨.inl rfl, fun _ => .inl rfl⟩
    | stages => exact ⟨.inr ⟨rfl, rfl⟩, fun _ => .inr rfl⟩

/-- What the operations of the Fan Sequencer leave of the saturation flag, the parameters and the trim timer. -/
structure TrimFollows (s t : State) : Prop where
  saturated : t.plan.saturated = s.plan.saturated
  params : t.params = s.params
  moves : Relation.ReflTransGen (TrimMove (s.params.trimInterval * 1000)) (headPhase s, s.plan.trim)
    (headPhase t, t.plan.trim)

/-- R90: the head enters a phase with its notice, and the trim timer is set. -/
theorem phase_entered {s : State} {q : Phase} (p : Phase) (x : Option Nat) (head : headPhase s = some q) :
    headPhase (setTrim x (phaseNotice p (setPhase p s))) = some p ∧
      (setTrim x (phaseNotice p (setPhase p s))).plan = { s.plan with trim := x } := by
  have phase : headPhase (setPhase p s) = some p := by
    unfold headPhase setPhase at *
    rcases listed : s.incidents.list with _ | ⟨i, rest⟩
    · simp [listed] at head
    · rfl
  have told := (relayed_headNotice 0x0C [byte (phaseCode p)] (setPhase p s)).rest
  have incidents : (phaseNotice p (setPhase p s)).incidents = (setPhase p s).incidents := by rw [phaseNotice, told]
  have plan : (phaseNotice p (setPhase p s)).plan = s.plan := by
    rw [phaseNotice, told]
    rfl
  refine ⟨?_, by rw [setTrim, State.setPlan_plan, plan]⟩
  rw [← phase]
  simp only [headPhase, setTrim, State.setPlan_incidents, incidents]

/-- R90: what the phase test can do. -/
theorem phaseTest_cases (s : State) :
    (headPhase s = some .staging ∧ headPhase (phaseTest s) = some .regulating ∧
      (phaseTest s).plan = { s.plan with trim := some (s.params.trimInterval * 1000) }) ∨
    (headPhase s = some .regulating ∧ headPhase (phaseTest s) = some .staging ∧
      (phaseTest s).plan = { s.plan with trim := none }) ∨
    phaseTest s = s := by
  unfold phaseTest
  split
  · rename_i head _
    exact .inl ⟨head, phase_entered _ _ head⟩
  · rename_i head _
    exact .inr (.inl ⟨head, phase_entered _ _ head⟩)
  · exact .inr (.inr rfl)

theorem trimFollows_phaseTest (s : State) : TrimFollows s (phaseTest s) := by
  have params : (phaseTest s).params = s.params := congrArg TableStore.params (kept_phaseTest s).tables
  rcases phaseTest_cases s with ⟨before, after, plan⟩ | ⟨before, after, plan⟩ | same
  · refine ⟨by rw [plan], params, .single ?_⟩
    rw [before, after, plan]
    exact .regulates _
  · refine ⟨by rw [plan], params, .single ?_⟩
    rw [before, after, plan]
    exact .stages _
  · rw [same]
    exact ⟨rfl, rfl, .refl⟩

theorem trimFollows_steps : FanSteps TrimFollows where
  refl _ := ⟨rfl, rfl, .refl⟩
  trans a b := ⟨b.saturated.trans a.saturated, b.params.trans a.params, a.moves.trans (a.params ▸ b.moves)⟩
  relayed h := by
    rw [h]
    exact ⟨rfl, rfl, .refl⟩
  fans _ _ _ := ⟨rfl, rfl, .refl⟩
  walked _ _ _ := ⟨rfl, rfl, .refl⟩
  phased := trimFollows_phaseTest

/-! ## The trim (R133 to R135) -/

/-- R121, R134: the demand is clamped, and the flag records an overrun. -/
theorem setDemand_leaves (x : Int) (s : State) :
    (setDemand x s).plan = { s.plan with
      demand := (clampInt 0 65535 x).toNat
      saturated := decide (65535 < x) } ∧
    headPhase (setDemand x s) = headPhase s := by
  unfold setDemand
  simp only []
  split
  · have told := (relayed_headNotice 0x10 [] (s.setPlan { s.plan with
      demand := (clampInt 0 Config.thrustMax x).toNat
      saturated := decide ((Config.thrustMax : Int) < x) })).rest
    constructor
    · rw [told]
      rfl
    · rw [headPhase, told]
      rfl
  · exact ⟨rfl, rfl⟩

theorem carried_hysteresisRevision (s : State) : Carried s (hysteresisRevision s) :=
  (((carried_hysteresisWalk s).trans (carried_handWanted _)).trans (carried_phaseTest _)).trans (carried_startTests _)

/-- R134: no trim within the dead band, with G = 0, or at D = 0 with e negative. -/
theorem trim_stands {vm : Int} {vt : Nat} {s : State} (h : (trimError vt vm).natAbs ≤ s.params.deadBand ∨
    s.params.G = 0 ∨ (s.plan.demand = 0 ∧ trimError vt vm < 0)) : trim vm vt s = s :=
  if_pos (by simpa [or_assoc] using h)

/-- R134: what a trim leaves. -/
structure Trimmed (new : Int) (s t : State) : Prop where
  demand : (t.plan.demand : Int) = max 0 (min 65535 new)
  saturated : t.plan.saturated = decide (65535 < new)
  moves : Relation.ReflTransGen (TrimMove (s.params.trimInterval * 1000)) (headPhase s, s.plan.trim)
    (headPhase t, t.plan.trim)
  live : t.live = s.live
  auth : t.auth = s.auth

theorem trimmed_setDemand (new : Int) (s : State) : Trimmed new s (setDemand new s) := by
  obtain ⟨plan, phase⟩ := setDemand_leaves new s
  refine ⟨?_, by rw [plan], ?_, (setDemand_plan new s).1, (obeyed_setDemand new s).auth⟩
  · rw [plan, clampInt_eq new (by decide)]
    exact Int.toNat_of_nonneg (le_max_left _ _)
  · rw [plan, phase]

theorem trim_moves {vm : Int} {vt : Nat} {s : State} (beyond : s.params.deadBand < (trimError vt vm).natAbs)
    (gain : s.params.G ≠ 0) (able : ¬ (s.plan.demand = 0 ∧ trimError vt vm < 0)) :
    Trimmed (s.plan.demand + trimChange s.params.G (trimError vt vm)) s (trim vm vt s) := by
  have demanded := trimmed_setDemand (s.plan.demand + trimChange s.params.G (trimError vt vm)) s
  have params : (setDemand (s.plan.demand + trimChange s.params.G (trimError vt vm)) s).params = s.params :=
    congrArg TableStore.params (kept_setDemand _ s).tables
  have acts : ¬ ((decide ((trimError vt vm).natAbs ≤ s.params.deadBand) || decide (s.params.G = 0) ||
      (decide (s.plan.demand = 0) && decide (trimError vt vm < 0))) = true) := by
    simp only [Bool.or_eq_true, Bool.and_eq_true, decide_eq_true_eq]
    rintro ((within | none) | stuck)
    · exact absurd within (Nat.not_le.2 beyond)
    · exact gain none
    · exact able stuck
  rw [trim, if_neg acts]
  generalize setDemand (s.plan.demand + trimChange s.params.G (trimError vt vm)) s = t at demanded params ⊢
  dsimp only
  split
  · exact demanded
  · have carried := carried_hysteresisRevision t
    have follows := trimFollows_steps.hysteresisRevision t
    exact
      { demand := by rw [carried.demand, demanded.demand]
        saturated := follows.saturated.trans demanded.saturated
        moves := demanded.moves.trans (params ▸ follows.moves)
        live := carried.live.trans demanded.live
        auth := carried.auth.trans demanded.auth }

/-! ## The expiry (R132, R133) -/

theorem exec_trimTimerExpiry {s : State} (due : s.plan.trim = some 0) : exec .trimTimerExpiry s =
    finish (trimStep (setTrim (some (s.params.trimInterval * 1000)) s)) :=
  congrArg finish (if_pos (decide_eq_true due))

/-- R133: no trim in IN SILENT or without a head. -/
theorem trimStep_silent {s : State} (h : s.port.inSilent = true ∨ s.live = none) : trimStep s = s := by
  unfold trimStep
  split
  · rfl
  · rename_i heard
    rw [h.resolve_left heard]

/-- R133: no trim on scenario none. -/
theorem trimStep_none {s : State} {l : Live} (live : s.live = some l) (none : l.scenario = .none) : trimStep s = s := by
  simp [trimStep, live, none]

/-- R133, R134: on a scenario with a direction the measured velocity decides. -/
theorem trimStep_measured {s : State} {l : Live} {d : Dir} (heard : s.port.inSilent = false) (live : s.live = some l)
    (scenario : l.scenario ≠ .none) (dir : l.dir = some d) :
    trimStep s = (measuredVelocity s d).elim s fun vm => trim vm l.vt s := by
  rcases found : l.scenario with n | _ | _
  case none => exact absurd found scenario
  all_goals
    simp only [trimStep, heard, Bool.false_eq_true, if_false, live, found, dir]
    cases measuredVelocity s d <;> rfl

/-- R133: no trim without v_m. -/
theorem trimStep_unmeasured {s : State} {l : Live} {d : Dir} (live : s.live = some l) (dir : l.dir = some d)
    (unmeasured : measuredVelocity s d = none) : trimStep s = s := by
  by_cases heard : s.port.inSilent = true
  · exact trimStep_silent (.inl heard)
  · by_cases scenario : l.scenario = .none
    · exact trimStep_none live scenario
    · rw [trimStep_measured (Bool.not_eq_true _ ▸ heard) live scenario dir, unmeasured]
      rfl

/-- Settles O38: `measuredVelocity_eq` for v_m, then the branches of `trimStep`. -/
theorem trimMovesTheDemand : Obligations.TrimMovesTheDemand := by
  intro s still due again stays
  have run : exec .trimTimerExpiry s = finish (trimStep again) := exec_trimTimerExpiry due
  have stand : trimStep again = again → stays := fun same => by
    show exec .trimTimerExpiry s = _
    rw [run, same]
    exact finish_ended (quiet_due still)
  refine ⟨fun d sel => ?velocity, fun h => stand (trimStep_silent h), fun l live =>
    ⟨fun none => stand (trimStep_none live none), fun d dir unmeasured => stand (trimStep_unmeasured live dir unmeasured),
      fun d vm heard scenario dir measured => ?measured⟩⟩
  case velocity =>
    intro sign once selected axis
    rw [measuredVelocity_eq once fun i => (selected i).trans (measures_iff s d _ i).symm]
    simp only [axis, sign, ← axisValue_eq]
  case measured =>
    intro e new
    have error : trimError l.vt vm = e := clampInt_eq _ (by decide)
    have step : trimStep again = trim vm l.vt again := by
      rw [trimStep_measured (s := again) heard live scenario dir]
      exact congrArg (Option.elim · again fun vm => trim vm l.vt again) measured
    refine ⟨fun h => stand (step.trans (trim_stands (error.symm ▸ h))), fun beyond gain able => ?_⟩
    have trimmed : Trimmed new again (trimStep again) := by
      have moved := trim_moves (s := again) (vm := vm) (vt := l.vt) (by rw [error]; exact beyond) gain
        (by rw [error]; exact able)
      rw [error] at moved
      exact step ▸ moved
    have kept : Kept s (trimStep again) := (kept_setTrim _ s).trans (kept_trimStep again)
    obtain ⟨timer, regulating⟩ := trim_of_moves trimmed.moves
    refine ⟨ended (trimStep again), run.trans (finish_ended_of_kept kept still), trimmed.demand, trimmed.saturated, timer,
      fun phase => ?_, trimmed.live, trimmed.auth, ?_⟩
    · rcases regulating phase with after | after <;> obtain ⟨phase, trim⟩ := Prod.mk.inj after
      · exact trim.trans (if_pos phase).symm
      · refine trim.trans (if_neg fun h => ?_).symm
        cases phase.symm.trans h
    · exact congrArg (fun v : State => v.setOuts (outputsOf (trimStep again))) (kept.planningOnly still)

end Sys2Proof.Machine
end

section
/-!
The end of dry run (R53, R66, R93, R167, R184, R199): the list and the candidates emptied, the plan dropped and authority
settled, and the injected records cleared.
-/

namespace Sys2Proof.Machine

open Sys2Proof

/-! ## Reported parts and candidates -/

theorem getElem?_reportedParts (s : State) (f : Nat) (p : Reported) :
    (reportedParts s)[f]? = some p ↔ ∃ u, s.fans.recs[f]? = some u ∧ u.reported = p := by
  rw [reportedParts, List.getElem?_map, Option.map_eq_some_iff]

/-- The reported parts of the fans and the candidates are the same. -/
structure RecordsKept (s t : State) : Prop where
  reported : reportedParts t = reportedParts s
  candidates : t.incidents.candidates = s.incidents.candidates

theorem RecordsKept.refl (s : State) : RecordsKept s s := ⟨rfl, rfl⟩

theorem RecordsKept.trans {s t u : State} (a : RecordsKept s t) (b : RecordsKept t u) : RecordsKept s u :=
  ⟨b.reported.trans a.reported, b.candidates.trans a.candidates⟩

theorem recordsKept_relayed {s t : State} (h : t = { s with port := t.port, chip := t.chip, test := t.test }) :
    RecordsKept s t := by
  rw [h]
  exact ⟨rfl, rfl⟩

theorem recordsKept_phaseTest (s : State) : RecordsKept s (phaseTest s) := by
  have entered : ∀ p x, RecordsKept s (setTrim x (phaseNotice p (setPhase p s))) := fun p x => by
    obtain ⟨reported, candidates⟩ :=
      recordsKept_relayed (relayed_headNotice 0x0C [byte (phaseCode p)] (setPhase p s)).rest
    exact ⟨reported, candidates⟩
  unfold phaseTest
  split
  · exact entered _ _
  · exact entered _ _
  · exact .refl s

theorem recordsKept_steps : FanSteps RecordsKept where
  refl := .refl
  trans := .trans
  relayed := recordsKept_relayed
  fans _ _ same := ⟨same, rfl⟩
  walked _ _ _ := ⟨rfl, rfl⟩
  phased := recordsKept_phaseTest

theorem recordsKept_setDemand (x : Int) (s : State) : RecordsKept s (setDemand x s) := by
  have planned : ∀ y, RecordsKept s (s.setPlan y) := fun _ => ⟨rfl, rfl⟩
  exact rel_ite ((planned _).trans (recordsKept_steps.headNotice _ _ _)) (planned _)

theorem recordsKept_computeOpenLoop (s : State) : RecordsKept s (computeOpenLoop s) := by
  unfold computeOpenLoop
  split
  · exact .refl s
  · exact recordsKept_setDemand _ s

theorem recordsKept_relookup (s : State) : RecordsKept s (relookup s) := by
  have live : ∀ y, RecordsKept s (s.setLive y) := fun _ => ⟨rfl, rfl⟩
  unfold relookup
  split
  · exact .refl s
  · simp only []
    split
    · split
      · exact (live _).trans (rel_ite (.refl _) (recordsKept_steps.freshRevision _))
      · exact live _
    · exact (((live _).trans (recordsKept_steps.headNotice _ _ _)).trans (recordsKept_computeOpenLoop _)).trans
        (recordsKept_steps.freshRevision _)

theorem recordsKept_tableChanged (s : State) : RecordsKept s (tableChanged s) :=
  rel_ite (recordsKept_relookup s) (.refl s)

/-! ## Command and authority without a head (R147, R178, R179) -/

/-- The incidents, the plan and the reported parts are the same, and the Fan Sequencer has not come into command. -/
structure Idled (s t : State) : Prop where
  incidents : t.incidents = s.incidents
  live : t.live = s.live
  plan : t.plan = s.plan
  reported : reportedParts t = reportedParts s
  command : s.fans.inCommand = false → t.fans.inCommand = false

theorem Idled.trans {s t u : State} (a : Idled s t) (b : Idled t u) : Idled s u where
  incidents := b.incidents.trans a.incidents
  live := b.live.trans a.live
  plan := b.plan.trans a.plan
  reported := b.reported.trans a.reported
  command := fun h => b.command (a.command h)

theorem idled_relayed {s t : State} (h : t = { s with port := t.port, chip := t.chip, test := t.test }) : Idled s t := by
  rw [h]
  exact ⟨rfl, rfl, rfl, rfl, id⟩

theorem idled_setAuth (s : State) (x : Authority) : Idled s (s.setAuth x) := ⟨rfl, rfl, rfl, rfl, id⟩

/-- R90: without a head there is no phase to test. -/
theorem phaseTest_headless {s : State} (h : s.incidents.list = []) : phaseTest s = s := by
  have none : headPhase s = none := by simp [headPhase, h]
  simp [phaseTest, none]

/-- R147: without a head the leaving of command touches the fans and the waiting commands alone. -/
theorem leaveCommand_headless {s : State} (h : s.incidents.list = []) :
    Idled s (leaveCommand s) ∧ (leaveCommand s).fans.inCommand = false ∧ (leaveCommand s).auth = s.auth := by
  unfold leaveCommand
  split
  · rw [phaseTest_headless (by exact h)]
    refine ⟨⟨rfl, rfl, rfl, reported_mapIdx _ fun f r => ?_, fun _ => rfl⟩, rfl, rfl⟩
    split <;> rfl
  · rename_i out
    exact ⟨⟨rfl, rfl, rfl, rfl, id⟩, Bool.not_eq_true _ ▸ out, rfl⟩

/-- R179: without a head the exit from AUTONOMOUS. -/
theorem exitAutonomous_headless {s : State} (a : AuthState) (h : s.incidents.list = []) :
    Idled s (exitAutonomous a s) ∧ (exitAutonomous a s).auth.state = a := by
  obtain ⟨left, _, auth⟩ := leaveCommand_headless (s := setAuthState a s) h
  have first : Idled s (leaveCommand (setAuthState a s)) := (idled_setAuth s _).trans left
  have told : Carried (endHold (leaveCommand (setAuthState a s))) (exitAutonomous a s) := carried_headNotice _ _ _
  have rest : exitAutonomous a s = { endHold (leaveCommand (setAuthState a s)) with
      port := (exitAutonomous a s).port, chip := (exitAutonomous a s).chip, test := (exitAutonomous a s).test } :=
    (relayed_headNotice _ _ _).rest
  have held : ∀ t, Idled t (endHold t) ∧ (endHold t).auth.state = t.auth.state := fun t => by
    unfold endHold
    refine ⟨Idled.trans ?_ (idled_setAuth _ _), ?_⟩
    · exact rel_ite ((idled_relayed (offerCommand_rest _ t)).trans (idled_setAuth _ _)) ⟨rfl, rfl, rfl, rfl, id⟩
    · simp only []
      split <;> rfl
  obtain ⟨idled, state⟩ := held (leaveCommand (setAuthState a s))
  exact ⟨(first.trans idled).trans (idled_relayed rest), by rw [told.auth, state, auth]; rfl⟩

/-- R178: what the word that the list has become empty leaves. -/
theorem listEmpty_headless {s : State} (h : s.incidents.list = []) :
    Idled s (listEmpty s) ∧
      (s.auth.state = .autonomous ∨ s.auth.state = .released → (listEmpty s).auth.state = .monitor) := by
  unfold listEmpty
  split
  · obtain ⟨idled, state⟩ := exitAutonomous_headless .monitor h
    exact ⟨idled, fun _ => state⟩
  · have rest := (announced_moveAuth .monitor s).relayed.rest
    refine ⟨(idled_setAuth s _).trans (idled_relayed rest), fun _ => ?_⟩
    rw [rest]
    rfl
  · rename_i other other'
    exact ⟨⟨rfl, rfl, rfl, rfl, id⟩, fun state => (state.elim other other').elim⟩

/-! ## The list emptied (R91 to R93, R138) -/

/-- R92: what is left once the last incident has gone. -/
structure Emptied (s t : State) : Prop where
  list : t.incidents.list = []
  records : RecordsKept s t
  live : t.live = none
  plan : t.plan = .empty
  command : t.fans.inCommand = false
  authority : s.auth.state = .autonomous ∨ s.auth.state = .released → t.auth.state = .monitor

theorem reportedParts_dropPlan (s : State) : reportedParts (dropPlan s) = reportedParts s := by
  simp only [reportedParts, dropPlan, State.setFans_fans, List.map_map]
  rfl

theorem reportedParts_clearMarks (s : State) : reportedParts (clearMarks s) = reportedParts s := by
  simp only [reportedParts, clearMarks, State.setFans_fans, List.map_map]
  rfl

theorem listEmptied_leaves {s : State} (last : Nat) (h : s.incidents.list = []) : Emptied s (listEmptied last s) := by
  have told := (relayed_notice 0x0B 0 [byte last] (setPhaseTimer none s)).rest
  have before : (dropPlan (headChangedNotice 0 last (setPhaseTimer none s))).incidents =
        { s.incidents with phaseTimer := none } ∧
      (dropPlan (headChangedNotice 0 last (setPhaseTimer none s))).auth = s.auth ∧
      reportedParts (dropPlan (headChangedNotice 0 last (setPhaseTimer none s))) = reportedParts s := by
    rw [reportedParts_dropPlan, headChangedNotice, told]
    exact ⟨rfl, rfl, rfl⟩
  obtain ⟨incidents, auth, reported⟩ := before
  have live : (dropPlan (headChangedNotice 0 last (setPhaseTimer none s))).live = none := rfl
  have plan : (dropPlan (headChangedNotice 0 last (setPhaseTimer none s))).plan = .empty := rfl
  show Emptied s (listEmpty (clearMarks (leaveCommand (dropPlan (headChangedNotice 0 last (setPhaseTimer none s))))))
  generalize dropPlan (headChangedNotice 0 last (setPhaseTimer none s)) = u at incidents auth reported live plan ⊢
  obtain ⟨left, command, leftAuth⟩ := leaveCommand_headless (s := u) (by rw [incidents]; exact h)
  have cleared : Idled u (clearMarks (leaveCommand u)) :=
    left.trans ⟨rfl, rfl, rfl, reportedParts_clearMarks _, id⟩
  obtain ⟨idled, state⟩ := listEmpty_headless (s := clearMarks (leaveCommand u)) (by
    rw [cleared.incidents, incidents]
    exact h)
  have all := cleared.trans idled
  refine ⟨?_, ⟨all.reported.trans reported, ?_⟩, all.live.trans live, all.plan.trans plan, idled.command command,
    fun was => state ?_⟩
  · rw [all.incidents, incidents]
    exact h
  · rw [all.incidents, incidents]
  · show (leaveCommand u).auth.state = _ ∨ (leaveCommand u).auth.state = _
    rw [leftAuth, auth]
    exact was

/-- R91, R93: the removal of every incident in list order empties the list and tells it. -/
theorem announced_removeAll (n : Nat) (s : State) (h : s.incidents.list.length = n) :
    Announced (s.setIncidents { s.incidents with list := [] }) (removeAll n s) := by
  induction n generalizing s with
  | zero =>
    rw [← List.eq_nil_of_length_eq_zero h]
    exact .refl s
  | succ n ih =>
    unfold removeAll
    rcases listed : s.incidents.list with _ | ⟨i, rest⟩
    · rw [listed] at h
      cases h
    · have told := announced_notice 0x0A i.number [byte rest.length] (s.setIncidents { s.incidents with list := rest })
      have later := ih (clearedNotice i.number rest.length (s.setIncidents { s.incidents with list := rest })) (by
        rw [clearedNotice, told.incidents]
        simpa [listed] using h)
      rw [clearedNotice, told.incidents] at later
      exact (told.setIncidents _).trans later

/-- R93: the list and the candidates emptied, told but not yet acted on. -/
theorem announced_emptied (s : State) :
    Announced (candidatesGone (s.setIncidents { s.incidents with list := [] }))
      (emptyCandidates (removeAll s.incidents.list.length s)) := by
  have removed := announced_removeAll _ s rfl
  have emptied := announced_emptyCandidates (removeAll s.incidents.list.length s)
  rw [candidatesGone, removed.incidents] at emptied
  exact (removed.setIncidents _).trans emptied

/-- R93: what the emptying at the end of dry run leaves. -/
theorem emptyIncidents_leaves (s : State) :
    (emptyIncidents s).incidents.list = [] ∧ (∀ o ∈ (emptyIncidents s).incidents.candidates, o = none) ∧
      reportedParts (emptyIncidents s) = reportedParts s ∧
      (s.incidents.list ≠ [] → (emptyIncidents s).live = none ∧ (emptyIncidents s).plan = .empty ∧
        (emptyIncidents s).fans.inCommand = false ∧
        (s.auth.state = .autonomous ∨ s.auth.state = .released → (emptyIncidents s).auth.state = .monitor)) := by
  have rest := (announced_emptied s).relayed.rest
  have leaves : emptyIncidents s = if incidentListed s = true
      then listEmptied (headNumber s) (emptyCandidates (removeAll s.incidents.list.length s))
      else emptyCandidates (removeAll s.incidents.list.length s) := rfl
  rw [leaves]
  generalize emptyCandidates (removeAll s.incidents.list.length s) = t at rest
  have list : t.incidents.list = [] := by rw [rest]; rfl
  have reported : reportedParts t = reportedParts s := by rw [rest]; rfl
  have auth : t.auth = s.auth := by rw [rest]; rfl
  have none : ∀ o ∈ t.incidents.candidates, o = none := by
    rw [rest]
    exact fun o => freed_all
  split
  · have emptied := listEmptied_leaves (headNumber s) list
    refine ⟨emptied.list, ?_, emptied.records.reported.trans reported, fun _ => ⟨emptied.live, emptied.plan,
      emptied.command, fun was => emptied.authority (auth ▸ was)⟩⟩
    rw [emptied.records.candidates]
    exact none
  · rename_i empty
    exact ⟨list, none, reported, fun listed => absurd (by simpa [incidentListed] using listed) empty⟩

/-! ## What injections leave behind (R53, R66, R167) -/

/-- R53: the samples once the injected records are absent. -/
def samplesCleared (l : List StationRecord) : List StationRecord :=
  l.map fun m => if m.injected = true then ⟨none, .armed, false, none, false⟩ else m

/-- R66: the trains once the injected records are removed. -/
def trainsCleared (l : List (Option Train)) : List (Option Train) :=
  l.map fun o => o.bind fun q => if q.injected = true then none else some q

/-- R167: the reported part of a fan once the injected marks are cleared. -/
def reportCleared (p : Reported) : Reported := if p.injected = true then .unknown else p

theorem Kept.setSamples {s t : State} (k : Kept s t) (x : List StationRecord) : Kept (s.setSamples x) (t.setSamples x) :=
  ⟨k.pending, k.dispatched, k.clock, rfl, k.trains, k.tables, k.eeprom, k.outs, k.pins, k.quiet, k.test, k.ranges⟩

theorem removeInjectedTrains_eq (s : State) : removeInjectedTrains s =
    if trainsCleared s.trains = s.trains then s else tableChanged (s.setTrains (trainsCleared s.trains)) := by
  have each : (fun o : Option Train => match o with
      | some r => if r.injected = true then none else some r
      | none => none) = fun o => o.bind fun q => if q.injected = true then none else some q := by
    funext o
    cases o <;> rfl
  exact congrArg (fun g => if s.trains.map g = s.trains then s else tableChanged (s.setTrains (s.trains.map g))) each

/-- R66: the injected trains go; without a plan that is all. -/
theorem removeInjectedTrains_leaves (s : State) :
    Kept (s.setTrains (trainsCleared s.trains)) (removeInjectedTrains s) ∧ Obeyed s (removeInjectedTrains s) ∧
      RecordsKept s (removeInjectedTrains s) ∧
      (s.live = none → removeInjectedTrains s = s.setTrains (trainsCleared s.trains)) := by
  have trains : Obeyed s (s.setTrains (trainsCleared s.trains)) := obeyed_of_port rfl rfl rfl rfl
  have records : RecordsKept s (s.setTrains (trainsCleared s.trains)) := ⟨rfl, rfl⟩
  rw [removeInjectedTrains_eq]
  split
  · rename_i same
    rw [same]
    exact ⟨.refl s, .refl s, .refl s, fun _ => rfl⟩
  · refine ⟨kept_tableChanged _, trains.trans (obeyed_tableChanged _), records.trans (recordsKept_tableChanged _),
      fun none => tableChanged_stands fun l live => ?_⟩
    cases none.symm.trans live

theorem reportedParts_clearInjectedFans (s : State) :
    reportedParts (clearInjectedFans s) = (reportedParts s).map reportCleared := by
  simp only [reportedParts, clearInjectedFans, State.setFans_fans, List.map_map]
  refine List.map_congr_left fun r _ => ?_
  simp only [Function.comp_apply, reportCleared]
  split <;> rfl

/-! ## The end of dry run (R184, R199) -/

/-- What the end of dry run leaves. -/
structure DryRunEnded (s t : State) : Prop where
  kept : Kept ((s.setSamples (samplesCleared s.samples)).setTrains (trainsCleared s.trains)) t
  dryRun : t.auth.dryRun = false
  list : t.incidents.list = []
  candidates : ∀ o ∈ t.incidents.candidates, o = none
  reported : reportedParts t = (reportedParts s).map reportCleared
  dropped : s.incidents.list ≠ [] → t.live = none ∧ t.plan = .empty ∧ t.fans.inCommand = false ∧
    (s.auth.state = .autonomous ∨ s.auth.state = .released → t.auth.state = .monitor)

theorem endDryRun_leaves (s : State) : DryRunEnded s (endDryRun s) := by
  obtain ⟨list, candidates, reported, dropped⟩ := emptyIncidents_leaves s
  have kept := kept_emptyIncidents s
  show DryRunEnded s (clearInjectedFans (removeInjectedTrains (clearInjectedSamples (setDryRun false (emptyIncidents s)))))
  generalize emptyIncidents s = u at list candidates reported dropped kept
  have samples : Kept (s.setSamples (samplesCleared s.samples)) (clearInjectedSamples (setDryRun false u)) := by
    show Kept _ ((setDryRun false u).setSamples (samplesCleared u.samples))
    rw [kept.samples]
    exact (kept.trans (kept_setAuth u _)).setSamples _
  obtain ⟨trains, obeyed, records, stands⟩ := removeInjectedTrains_leaves (clearInjectedSamples (setDryRun false u))
  rw [show (clearInjectedSamples (setDryRun false u)).trains = s.trains from kept.trains] at trains stands
  refine
    { kept := ((samples.setTrains _).trans trains).trans (kept_setFans _ _)
      dryRun := congrArg Authority.dryRun obeyed.auth
      list := (listed_of_keys obeyed.keys).2 list
      candidates := ?_
      reported := ?_
      dropped := fun listed => ?_ }
  · show ∀ o ∈ (removeInjectedTrains _).incidents.candidates, o = none
    rw [records.candidates]
    exact candidates
  · rw [reportedParts_clearInjectedFans, records.reported]
    exact congrArg (List.map reportCleared) reported
  · obtain ⟨live, plan, command, state⟩ := dropped listed
    rw [stands live]
    exact ⟨live, plan, command, state⟩

/-- The response comes after all that, and touches ring OUT alone. -/
theorem DryRunEnded.answered {s t : State} (h : DryRunEnded s t) (r : Request) (code : Nat) (st : Status) :
    DryRunEnded s (answer code r st t) := by
  have told := relayed_respond r code st (echoTable code r) (echoIndex code r) [] t
  have kept := h.kept.trans told.kept
  show DryRunEnded s (respond r code st (echoTable code r) (echoIndex code r) [] t)
  rw [told.rest] at kept ⊢
  exact ⟨kept, h.dryRun, h.list, h.candidates, h.reported, h.dropped⟩

/-! ## SET TEST MODE (R199) -/

theorem exec_setTestMode {r : Request} {s : State} {v : Byte} {rest : List Byte} (serves : serving s = true)
    (permits : allowed s r) (fields : r.fields = v :: rest) :
    exec (.setTestMode r) s = finish (setTestMode r (taken (.setTestMode r) s)) := by
  show finish (takeRequest _ _ s) = _
  rw [takeRequest_serving serves, show hasFields r 1 = true by simp [hasFields, fields]]
  exact congrArg finish (checked_allowed permits)

theorem setTestMode_setting {r : Request} {v : Byte} {rest : List Byte} (s : State) (fields : r.fields = v :: rest) :
    (v = 0 → setTestMode r s = answer 9 r .done (if s.auth.dryRun = true then endDryRun s else s)) ∧
    (v = 1 → setTestMode r s =
      if s.incidents.list = [] then answer 9 r .done (setDryRun true s) else answer 9 r .refused s) ∧
    (1 < v.toNat → setTestMode r s = answer 9 r .badValue s) := by
  have setting : at8 r.fields 0 = v.toNat := by rw [fields]; rfl
  unfold setTestMode
  rw [setting]
  refine ⟨fun off => ?off, fun on => ?on, fun other => ?other⟩
  case off =>
    rw [off]
    rfl
  case on =>
    rw [on]
    by_cases empty : s.incidents.list = []
    · rw [if_pos empty]
      exact if_neg (by simp [incidentListed, empty])
    · rw [if_neg empty]
      exact if_pos (by simp [incidentListed, empty])
  case other =>
    split
    · omega
    · omega
    · rfl

/-- Settles O57: the settings by `setTestMode_setting`, the end of dry run by `endDryRun_leaves`. -/
theorem testModeTurnsDryRunOnAndOff : Obligations.TestModeTurnsDryRunOnAndOff := by
  intro r v rest s serves permits fields c
  have run : exec c s = finish (setTestMode r (taken c s)) := exec_setTestMode serves permits fields
  have still : quiet (taken c s) = true := serving_quiet serves
  obtain ⟨off, on, other⟩ := setTestMode_setting (taken c s) fields
  refine ⟨fun beyond => ?other, fun set listed => ?refused, fun set empty => ?on, fun clear service => ?off,
    fun clear dry => ?ends⟩
  case other =>
    rw [run, other beyond]
    exact finish_answered serves
  case refused =>
    rw [run, on set, if_neg (by exact listed)]
    exact finish_answered serves
  case on =>
    rw [run, on set, if_pos (by exact empty)]
    exact finish_ended_of_kept ((kept_setAuth _ _).trans (kept_respond r 9 .done _ _ [] _)) still
  case off =>
    rw [run, off clear, if_neg (by exact Bool.eq_false_iff.1 service)]
    exact finish_answered serves
  case ends =>
    have dryRunEnded := (endDryRun_leaves (taken c s)).answered r 9 .done
    rw [run, off clear, if_pos (by exact dry)]
    generalize answer 9 r .done (endDryRun (taken c s)) = w at dryRunEnded ⊢
    have kept := dryRunEnded.kept
    have samples : w.samples = samplesCleared s.samples := kept.samples
    have trains : w.trains = trainsCleared s.trains := kept.trains
    have running : w.chip.inReset = false := by
      obtain ⟨⟨running, _⟩, _⟩ := (serving_iff s).1 serves
      exact (congrArg Chip.inReset (kept.chip still)).trans running
    refine ⟨ended w, finish_ended_of_kept kept still, dryRunEnded.dryRun, dryRunEnded.list, dryRunEnded.candidates,
      ?incident, ?auth, dryRunEnded.dropped, samples, trains, fun f m held => ?reported, ?planning⟩
    case incident =>
      show incidentCondition w = false
      simp [incidentCondition, dryRunEnded.list]
    case auth =>
      show authCondition w = _
      rw [authCondition, running, dryRunEnded.dryRun, Bool.not_false, Bool.true_and, Bool.and_true]
      rfl
    case reported =>
      refine (getElem?_reportedParts w f _).1 ?_
      rw [dryRunEnded.reported, List.getElem?_map]
      exact congrArg (Option.map reportCleared) ((getElem?_reportedParts s f _).2 ⟨m, held, rfl⟩)
    case planning =>
      have leaves := kept.planningOnly still
      show planningOnly { taken c s with samples := w.samples, trains := w.trains } (ended w)
      rw [samples, trains]
      exact congrArg (fun v : State => v.setOuts (outputsOf w)) leaves

end Sys2Proof.Machine
end

section
/-!
INJECT (R52, R58, R66, R167, R200): which command an observation kind and payload spell, what each of them comes to with
the injected mark, and the statement.
-/

namespace Sys2Proof.Machine

open Sys2Proof

/-! ## The observation a request carries (R20, R26) -/

/-- The command of a sample for a station, by its kind. -/
inductive SampleOf (i : Nat) : Nat → Instr → Prop where
  | velocity (v : Int) (q : Quality) : SampleOf i 0x10 (.velocitySample i v q)
  | opacity (e : Nat) (q : Quality) : SampleOf i 0x11 (.opacitySample i e q)
  | temperature (x : Int) (q : Quality) : SampleOf i 0x12 (.temperatureSample i x q)
  | heatLine (l : LineState) (a : Option Nat) : SampleOf i 0x13 (.heatLineReport i l a)

theorem sampleOf_sampleCommand {kind i : Nat} {p : List Byte} {c : Instr} (h : sampleCommand kind i p = some c) :
    SampleOf i kind c := by
  unfold sampleCommand at h
  split at h
  case isTrue velocity =>
    obtain ⟨x, -, rfl⟩ := Option.map_eq_some_iff.1 h
    exact velocity ▸ .velocity _ _
  split at h
  case isTrue opacity =>
    obtain ⟨x, -, rfl⟩ := Option.map_eq_some_iff.1 h
    exact opacity ▸ .opacity _ _
  split at h
  case isTrue temperature =>
    obtain ⟨x, -, rfl⟩ := Option.map_eq_some_iff.1 h
    exact temperature ▸ .temperature _ _
  split at h
  case isTrue heatLine =>
    obtain ⟨x, -, rfl⟩ := Option.map_eq_some_iff.1 h
    exact heatLine ▸ .heatLine _ _
  case isFalse => cases h

theorem SampleOf.kind_velocity {i j kind : Nat} {v : Int} {q : Quality}
    (h : SampleOf i kind (.velocitySample j v q)) : kind = 0x10 := by
  cases h
  rfl

/-- R26: an observation spells a train report, a fan status or a sample. -/
theorem observationCommand_cases {kind i : Nat} {p : List Byte} {c : Instr} (h : observationCommand kind i p = some c) :
    (kind = 0x20 ∧ ∃ x, c = .trainReport x) ∨ (kind = 0x31 ∧ ∃ st, c = .fanStatus i st) ∨ SampleOf i kind c := by
  unfold observationCommand at h
  split at h
  case isTrue train =>
    obtain ⟨x, -, rfl⟩ := Option.map_eq_some_iff.1 h
    exact .inl ⟨train, x, rfl⟩
  split at h
  case isTrue status =>
    obtain ⟨st, -, rfl⟩ := Option.map_eq_some_iff.1 h
    exact .inr (.inl ⟨status, st, rfl⟩)
  case isFalse => exact .inr (.inr (sampleOf_sampleCommand h))

/-! ## The request (R200) -/

theorem exec_inject {r : Request} {s : State} {kind : Byte} {payload : List Byte} (serves : serving s = true)
    (permits : allowed s r) (fields : r.fields = kind :: payload) :
    exec (.inject r) s = finish (inject r (taken (.inject r) s)) := by
  show finish (takeRequest _ _ s) = _
  rw [takeRequest_serving serves, show hasFields r 1 = true by simp [hasFields, fields]]
  exact congrArg finish (checked_allowed permits)

theorem inject_service {r : Request} {s : State} (service : s.auth.dryRun = false) :
    inject r s = answer 10 r .refused s := by
  simp [inject, service]

/-- R200: in dry run the observation decides. -/
theorem inject_dryRun {r : Request} {s : State} {kind : Byte} {payload : List Byte} (dry : s.auth.dryRun = true)
    (fields : r.fields = kind :: payload) :
    (observationCommand kind.toNat r.index payload = none → inject r s = answer 10 r .badValue s) ∧
    (∀ p, observationCommand kind.toNat r.index payload = some (.trainReport p) → inject r s = injectTrain r p s) ∧
    (∀ i st, observationCommand kind.toNat r.index payload = some (.fanStatus i st) →
      inject r s = injectStatus r st s) ∧
    (∀ c, observationCommand kind.toNat r.index payload = some c → SampleOf r.index kind.toNat c →
      inject r s = injectSample r kind.toNat c s) := by
  have code : at8 r.fields 0 = kind.toNat := by rw [fields]; rfl
  have rest : r.fields.drop 1 = payload := by rw [fields]; rfl
  unfold inject
  rw [dry, code, rest]
  dsimp only
  refine ⟨fun spelled => by rw [spelled]; rfl, fun p spelled => by rw [spelled]; rfl,
    fun i st spelled => by rw [spelled]; rfl, fun c spelled sample => ?_⟩
  rw [spelled]
  generalize kind.toNat = n at sample ⊢
  cases sample <;> rfl

/-! ## Samples (R52) -/

/-- R52: an injected sample stands in the record with the mark; the rest is planning. -/
theorem takeInjected_leaves {s : State} {i kind : Nat} {c : Instr} {m : StationRecord} (sample : SampleOf i kind c)
    (held : s.samples[i]? = some m) :
    ∃ u x, Kept (s.setSamples (s.samples.set i u)) (takeInjected c s) ∧ u.injected = true ∧ u.sample = some x ∧
      x.takenAt = s.clock := by
  cases sample with
  | velocity v q =>
    rw [takeInjected, takeVelocity_eq v q true held]
    exact ⟨_, _, .refl _, rfl, rfl, rfl⟩
  | opacity e q =>
    rw [takeInjected, takeOpacity_eq]
    exact ⟨_, _, kept_takeThreshold _ _ _ _ true held, rfl, rfl, rfl⟩
  | temperature x q =>
    rw [takeInjected, takeTemperature_eq]
    exact ⟨_, _, kept_takeThreshold _ _ _ _ true held, rfl, rfl, rfl⟩
  | heatLine l a =>
    rw [takeInjected, takeHeatLine_eq l a true held]
    exact ⟨_, _, kept_raise _ _, rfl, rfl, rfl⟩

theorem injectSample_unused {r : Request} {s : State} (kind : Nat) (c : Instr)
    (unused : stationInUse s.tables r.index = false) : injectSample r kind c s = answer 10 r .noSuch s := by
  simp [injectSample, unused]

theorem injectSample_otherRole {r : Request} {s : State} {kind : Nat} (c : Instr)
    (used : stationInUse s.tables r.index = true)
    (other : ∀ role, stationRole s.tables r.index = some role → useKind role ≠ some kind) :
    injectSample r kind c s = answer 10 r .badValue s := by
  have refused : (stationRole s.tables r.index).bind useKind ≠ some kind := fun h => by
    obtain ⟨role, has, uses⟩ := Option.bind_eq_some_iff.1 h
    exact other role has uses
  simp [injectSample, used, refused]

theorem injectSample_taken {r : Request} {s : State} {kind : Nat} {role : Role} (c : Instr)
    (used : stationInUse s.tables r.index = true) (has : stationRole s.tables r.index = some role)
    (uses : useKind role = some kind) : injectSample r kind c s =
      answerData 10 r .done (sampleData (takeInjected c s) r.index) (takeInjected c s) := by
  simp [injectSample, used, has, uses]

/-- R200: the data of a velocity sample: no threshold, no line state, a value. -/
theorem sampleData_velocity {s : State} {i : Nat} {m : StationRecord} {w : Int} {q : Quality} {beyond : Bool} {now : Nat}
    (role : stationRole s.tables i = some .anemometer) (held : s.samples[i]? = some m)
    (sample : m.sample = some ⟨some w, q, beyond, now, none, none⟩) :
    sampleData s i = beS16 w ++ [byte (qualityCode q), byte (flagCode beyond)] ++ be48 now ++
      [0, 0, byte (1 + bit m.lastEvent.isSome 2), byte (flagCode m.faultLock)] ++ be16 (m.lastEvent.getD 0) := by
  simp only [sampleData, stationRec_of_some held, sample, role]
  rfl

/-- R52, R200: an injected velocity sample, exactly. -/
theorem injectSample_velocity {r : Request} {s : State} {m : StationRecord} (v : Int) (q : Quality)
    (station : stationHasRole s.tables r.index .anemometer = true) (held : s.samples[r.index]? = some m) :
    injectSample r 0x10 (.velocitySample r.index v q) s =
      offerReport (reply r 10 0 0 0 (beS16 (max (-2000) (min 2000 v)) ++
          [byte (qualityCode q), byte (flagCode (decide (v < -2000 ∨ 2000 < v)))] ++ be48 s.clock ++
          [0, 0, byte (1 + bit m.lastEvent.isSome 2), byte (flagCode m.faultLock)] ++ be16 (m.lastEvent.getD 0)))
        (s.setSamples (s.samples.set r.index { m with
          sample := some ⟨some (max (-2000) (min 2000 v)), q, decide (v < -2000 ∨ 2000 < v), s.clock, none, none⟩
          injected := true })) := by
  simp only [stationHasRole, Bool.and_eq_true, decide_eq_true_eq] at station
  obtain ⟨used, role⟩ := station
  have below := (List.getElem?_eq_some_iff.1 held).1
  have data := sampleData_velocity (s := s.setSamples (s.samples.set r.index { m with
    sample := some ⟨some (max (-2000) (min 2000 v)), q, decide (v < -2000 ∨ 2000 < v), s.clock, none, none⟩
    injected := true })) (i := r.index) role (List.getElem?_set_self below) rfl
  rw [injectSample_taken (kind := 0x10) _ used role rfl, takeInjected, takeVelocity_eq v q true held, data]
  rfl

/-! ## Trains (R58, R66) -/

/-- A slot holds the train with an id. -/
def holdsTrain (id : Nat) (o : Option Train) : Bool := o.any fun r => decide (r.id = id)

theorem holdsTrain_iff (id : Nat) (o : Option Train) : holdsTrain id o = true ↔ ∃ r, o = some r ∧ r.id = id := by
  cases o <;> simp [holdsTrain]

theorem slotOf_eq (s : State) (id : Nat) : slotOf s id = s.trains.findIdx? (holdsTrain id) :=
  congrArg (List.findIdx? · s.trains) (funext fun o => by cases o <;> rfl)

theorem trainById_eq (ts : List (Option Train)) (id : Nat) : trainById ts id = (ts.find? (holdsTrain id)).join :=
  congrArg (fun p => (ts.find? p).join) (funext fun o => by cases o <;> rfl)

theorem slotOf_none {s : State} {id : Nat} (absent : ∀ q : Train, some q ∈ s.trains → q.id ≠ id) :
    slotOf s id = none := by
  rw [slotOf_eq, List.findIdx?_eq_none_iff]
  intro o here
  rw [Bool.eq_false_iff, ne_eq, holdsTrain_iff]
  rintro ⟨q, rfl, same⟩
  exact absent q here same

/-- R58: the slot that holds a train is the first that does. -/
theorem slotOf_some {s : State} {id k : Nat} {q : Train} (held : s.trains[k]? = some (some q)) (same : q.id = id)
    (first : ∀ j < k, ∀ q' : Train, s.trains[j]? = some (some q') → q'.id ≠ id) :
    slotOf s id = some k ∧ trainById s.trains id = some q := by
  obtain ⟨below, here⟩ := List.getElem?_eq_some_iff.1 held
  have slot : s.trains.findIdx? (holdsTrain id) = some k := by
    refine List.findIdx?_eq_some_iff_getElem.2 ⟨below, (holdsTrain_iff _ _).2 ⟨q, here, same⟩, fun j before holds => ?_⟩
    obtain ⟨q', there, same'⟩ := (holdsTrain_iff _ _).1 holds
    exact first j before q' (List.getElem?_eq_some_iff.2 ⟨_, there⟩) same'
  refine ⟨(slotOf_eq s id).trans slot, ?_⟩
  rw [trainById_eq, List.find?_eq_bind_findIdx?_getElem?, slot, Option.bind_some, held]
  rfl

/-- R57: a departure report, as the statements say it. -/
theorem isDeparture_iff (L : Nat) (p : TrainReport) :
    isDeparture L p = true ↔ p.leftBore = true ∨ (L < p.head ∧ L < p.tail) := by
  simp [isDeparture]

theorem nearestFrom_below {ds : List (Option Nat)} {i j e : Nat} (h : nearestFrom i ds = some (j, e)) :
    j < i + ds.length := by
  induction ds generalizing i j e with
  | nil => cases h
  | cons o ds ih =>
    have later : ∀ {j e}, nearestFrom (i + 1) ds = some (j, e) → j < i + (o :: ds).length := fun found => by
      have := ih found
      simp only [List.length_cons]
      omega
    have here : i < i + (o :: ds).length := by simp
    rcases o with _ | d
    · exact later h
    · rw [nearestFrom] at h
      split at h
      · cases h
        exact here
      · rename_i found
        split at h <;> cases h
        · exact here
        · exact later found

/-- R58: a report is taken into a slot of the table. -/
theorem slotFor_below {s : State} (id : Nat) (slots : s.trains ≠ []) : (slotFor s id).1 < s.trains.length := by
  have found : ∀ {p : Option Train → Bool} {k : Nat}, s.trains.findIdx? p = some k → k < s.trains.length := fun h =>
    (List.findIdx?_eq_some_iff_getElem.1 h).1
  unfold slotFor
  split
  · rename_i slot
    rw [slotOf_eq] at slot
    exact found slot
  · split
    · rename_i free
      exact found free
    · show (nearest _).getD 0 < _
      rcases near : nearestFrom 0 (s.trains.map fun o => o.map Train.takenAt) with _ | ⟨j, e⟩
      · simpa [nearest, near] using List.length_pos_of_ne_nil slots
      · simpa [nearest, near] using nearestFrom_below near

theorem kept_takeTrain (p : TrainReport) (mark : Bool) (s : State) :
    Kept (s.setTrains (s.trains.set (slotFor s p.id).1 (some (trainOf p s.clock mark)))) (takeTrain p mark s) :=
  Kept.trans (.ite (kept_takeEvent _ _) (.refl _)) (kept_tableChanged _)

theorem kept_takeDeparture {s : State} {id k : Nat} (slot : slotOf s id = some k) :
    Kept (s.setTrains (s.trains.set k none)) (takeDeparture id s) := by
  rw [takeDeparture, slot]
  exact kept_tableChanged _

theorem injectTrain_departure {r : Request} {p : TrainReport} {s : State}
    (leaving : p.leftBore = true ∨ (s.params.L < p.head ∧ s.params.L < p.tail)) :
    (slotOf s p.id = none → injectTrain r p s = answer 10 r .noSuch s) ∧
    (∀ k q, slotOf s p.id = some k → trainById s.trains p.id = some q → ∃ data,
      injectTrain r p s = answerData 10 r .done data (takeDeparture p.id s)) := by
  unfold injectTrain
  rw [if_pos ((isDeparture_iff _ _).2 leaving)]
  refine ⟨fun none => ?_, fun k q slot train => ?_⟩
  · rw [none]
  · rw [slot, train]
    exact ⟨_, rfl⟩

theorem injectTrain_report {r : Request} {p : TrainReport} {s : State}
    (stays : ¬ (p.leftBore = true ∨ (s.params.L < p.head ∧ s.params.L < p.tail))) :
    ∃ data, injectTrain r p s = answerData 10 r .done data (takeTrain p true s) :=
  ⟨_, if_neg fun departs => stays ((isDeparture_iff _ _).1 departs)⟩

/-! ## Fan statuses (R167) -/

/-- R144, R167: a status that is taken stands in the reported part, whatever it brings. -/
theorem takeStatus_reported {s : State} {f : Nat} {m : FanRecord} (st : FanStatus) (mark : Bool)
    (held : s.fans.recs[f]? = some m) :
    (reportedParts (takeStatus f st mark s))[f]? = some (reportedOf st s.clock mark) := by
  have brought : RecordsKept (takeReport f st mark s) (takeStatus f st mark s) :=
    recordsKept_steps.fanEvent f _ _ (recordsKept_steps.statusBody f _ _)
  rw [brought.reported, getElem?_reportedParts]
  exact ⟨_, (congrArg (fun u : State => u.fans.recs[f]?) (modFan_eq _ held)).trans (recs_set_self _ held), rfl⟩

/-! ## The statement -/

/-- An injected observation is answered last: its step ends in a state that keeps what `u` and `v` share, with the reported
parts of `v`, and beside the records in `u` planning alone is touched. -/
theorem injected_ends {r : Request} {s u v : State} {data : List Byte} (serves : serving s = true)
    (run : exec (.inject r) s = finish (answerData 10 r .done data v)) (kept : Kept u v)
    (same : quiet u = quiet s := by rfl) :
    ∃ t, exec (.inject r) s = .next (ended t) ∧ Kept u t ∧ reportedParts t = reportedParts v ∧
      planningOnly u (ended t) := by
  have still : quiet u = true := same.trans (serving_quiet serves)
  have told := relayed_respond r 10 .done (echoTable 10 r) (echoIndex 10 r) data v
  have answered := kept.trans told.kept
  exact ⟨_, run.trans (finish_ended_of_kept answered still), answered, (recordsKept_relayed told.rest).reported,
    congrArg (fun w : State => w.setOuts (outputsOf (answerData 10 r .done data v))) (answered.planningOnly still)⟩

/-- Settles O58: the branches of `inject`, each with the lemma on what it takes. -/
theorem injectionTakesARecord : Obligations.InjectionTakesARecord := by
  intro r kind payload s serves permits fields c i gives parsed
  have run : exec c s = finish (inject r (taken c s)) := exec_inject serves permits fields
  have alone : ∀ st : Status, inject r (taken c s) = answer 10 r st (taken c s) → exec c s = gives (statusCode st) :=
    fun st h => by
      rw [run, h]
      exact finish_answered serves
  refine ⟨fun service => alone .refused (inject_service service), fun dry => ?_⟩
  obtain ⟨malformed, train, status, sample⟩ := inject_dryRun (s := taken c s) dry fields
  refine ⟨fun none => alone .badValue (malformed none), fun kinds spelled => ?samples, fun v q m spelled station held => ?velocity,
    fun p spelled => ?trains, fun st spelled => ?statuses⟩
  case samples =>
    obtain ⟨d, spells⟩ := Option.ne_none_iff_exists'.1 spelled
    have of : SampleOf i kind.toNat d := by
      rcases observationCommand_cases spells with ⟨train, _⟩ | ⟨status, _⟩ | of
      · simp [train] at kinds
      · simp [status] at kinds
      · exact of
    have injects := sample d spells of
    refine ⟨fun unused => alone .noSuch (injects.trans (injectSample_unused _ d unused)),
      fun used other => alone .badValue (injects.trans (injectSample_otherRole d used other)), fun role m used has uses held => ?_⟩
    obtain ⟨u, x, kept, marked, stands, now⟩ := takeInjected_leaves (s := taken c s) of held
    rw [injects, injectSample_taken (s := taken c s) d used has uses] at run
    obtain ⟨t, ends, leaves, _, planning⟩ := injected_ends serves run kept
    have samples : (ended t).samples = s.samples.set i u := leaves.samples
    refine ⟨ended t, u, x, ends, samples, marked, stands, now, ?_⟩
    rw [samples]
    exact planning
  case velocity =>
    have coded : kind.toNat = 0x10 ∧ SampleOf i kind.toNat (.velocitySample i v q) := by
      rcases observationCommand_cases spelled with ⟨_, p, other⟩ | ⟨_, st, other⟩ | of
      · cases other
      · cases other
      · exact ⟨of.kind_velocity, of⟩
    have injects := sample _ spelled coded.2
    rw [coded.1] at injects
    rw [run, injects, injectSample_velocity (s := taken c s) v q station held]
    exact finish_ended_of_kept (kept_offerReport _ _ rfl (by simp [reply, report, kindTest]))
      (by exact serving_quiet serves)
  case trains =>
    intro leaving
    have injects := train p spelled
    refine ⟨fun leaves absent => alone .noSuch (injects.trans
        ((injectTrain_departure (r := r) (s := taken c s) leaves).1 (slotOf_none (s := taken c s) absent))),
      fun leaves k q held same first => ?departs, fun stays slots => ?reports⟩
    case departs =>
      obtain ⟨slot, found⟩ := slotOf_some (s := taken c s) held same first
      obtain ⟨data, taking⟩ := (injectTrain_departure (r := r) (s := taken c s) leaves).2 k q slot found
      rw [injects, taking] at run
      obtain ⟨t, ends, kept, _, planning⟩ := injected_ends serves run (kept_takeDeparture slot)
      have trains : (ended t).trains = s.trains.set k none := kept.trains
      refine ⟨ended t, ends, trains, ?_⟩
      rw [trains]
      exact planning
    case reports =>
      obtain ⟨data, taking⟩ := injectTrain_report (r := r) (p := p) (s := taken c s) stays
      rw [injects, taking] at run
      obtain ⟨t, ends, kept, _, planning⟩ := injected_ends serves run (kept_takeTrain p true (taken c s))
      have trains : (ended t).trains = s.trains.set (slotFor s p.id).1 (some (trainOf p s.clock true)) := kept.trains
      refine ⟨ended t, ends, trains, slotFor_below p.id slots, ?_⟩
      rw [trains]
      exact planning
  case statuses =>
    have injects := status _ _ spelled
    refine ⟨fun above => alone .noSuch (injects.trans (if_pos above)), fun m below held => ?_⟩
    rw [injects, injectStatus, if_neg (by exact Nat.not_le.2 below)] at run
    obtain ⟨t, ends, _, reported, planning⟩ := injected_ends serves run (kept_takeStatus _ _ _ _)
    have stands := takeStatus_reported (s := taken c s) st true held
    rw [← reported] at stands
    obtain ⟨u, here, part⟩ := (getElem?_reportedParts t i _).1 stands
    exact ⟨ended t, u, ends, here, part, planning⟩

end Sys2Proof.Machine
end

section
/-!
The Train Table (R56 to R66): the occupancy class, the records and candidates that grow old, which slot a report is taken
into and what event it raises, and the statements about them.
-/

namespace Sys2Proof.Machine

open Sys2Proof

/-! ## The occupancy class (R64) -/

theorem mem_countedTrains {ts : List (Option Train)} {excluded : Option Nat} {r : Train} :
    r ∈ countedTrains ts excluded ↔ some r ∈ ts ∧ excluded ≠ some r.id := by
  rw [countedTrains, List.mem_filter, List.mem_filterMap]
  simp only [id, exists_eq_right, decide_eq_true_eq, ne_comm]

/-- R64: a train spans x. -/
theorem spans_iff (x : Nat) (r : Train) :
    (onSideA x r && onSideB x r) = true ↔ min r.head r.tail ≤ x ∧ x ≤ max r.head r.tail := by
  simp only [onSideA, onSideB, Bool.and_eq_true, decide_eq_true_eq]
  rfl

/-- Bits of weight 1 and 2 are read off their sum. -/
theorem bits_of_sum (a b : Bool) : bit a 1 + bit b 2 ≤ 3 ∧ ((bit a 1 + bit b 2) % 2 = 1 ↔ a = true) ∧
    (2 ≤ bit a 1 + bit b 2 ↔ b = true) := by
  cases a <;> cases b <;> decide

/-- R64: a bit is set where a counted train lies beyond x or spans it. -/
theorem any_counted_iff {ts : List (Option Train)} {excluded : Option Nat} {x : Nat} (beyond : Train → Prop)
    [DecidablePred beyond] :
    ((countedTrains ts excluded).any fun r => decide (beyond r) || (onSideA x r && onSideB x r)) = true ↔
      ∃ r, (some r ∈ ts ∧ excluded ≠ some r.id) ∧
        (beyond r ∨ (min r.head r.tail ≤ x ∧ x ≤ max r.head r.tail)) := by
  simp only [List.any_eq_true, mem_countedTrains, Bool.or_eq_true, decide_eq_true_eq, spans_iff]

/-- Settles O29: the class is the sum of its two bits. -/
theorem occupancyClassTellsTheSides : Obligations.OccupancyClassTellsTheSides := by
  intro ts x excluded counted
  obtain ⟨within, odd, high⟩ := bits_of_sum
    ((countedTrains ts excluded).any fun r => decide (r.hi < x) || (onSideA x r && onSideB x r))
    ((countedTrains ts excluded).any fun r => decide (x < r.lo) || (onSideA x r && onSideB x r))
  exact ⟨within, odd.trans (any_counted_iff fun r => r.hi < x), high.trans (any_counted_iff fun r => x < r.lo)⟩

/-! ## Records and candidates that grow old (R59, R76) -/

/-- A step that keeps what `u` holds ends beside it in planning alone, with the trains of `u`. -/
theorem Kept.ended_planning {u t : State} (kept : Kept u t) (still : Machine.quiet u = true) :
    (ended t).trains = u.trains ∧ Machine.planningOnly u (ended t) :=
  ⟨kept.trains, congrArg (fun v : State => v.setOuts (outputsOf t)) (kept.planningOnly still)⟩

theorem expiryDue_of_old {s : State} {k : Nat} {r : Train} (held : s.trains[k]? = some (some r))
    (old : r.takenAt + 300001 ≤ s.clock) : expiryDue k s = true := by
  simp [expiryDue_eq, List.getD, held, old]

theorem deadlineDue_of_reached {s : State} {k : Nat} {c : Candidate} (held : s.incidents.candidates[k]? = some (some c))
    (reached : c.deadline ≤ s.clock) : deadlineDue k s = true := by
  simp [deadlineDue_eq, List.getD, held, reached]

theorem discard_of_held {s : State} {k : Nat} {c : Candidate} (number : Nat) (cause : DiscardCause)
    (held : s.incidents.candidates[k]? = some (some c)) : discard number cause k s =
      notice 0x03 number ([byte k] ++ be16 c.chainage ++ [byte (discardCode cause)]) (setCandidate k none s) := by
  have here : candidateAt s k = some c := by simp [candidateAt, held]
  rw [discard, here]

/-- Settles O28: each event is due, and takes its record out. -/
theorem oldRecordsAreRemoved : Obligations.OldRecordsAreRemoved := by
  refine ⟨fun k r s still held old => ?train, fun k c s still held reached => ?candidate⟩
  case train =>
    have removed : quiet (setTrain k none s) = true := still
    have run : exec (.trainRecordExpiry k) s = finish (tableChanged (setTrain k none s)) :=
      congrArg finish (if_pos (expiryDue_of_old held old))
    exact ⟨_, run.trans (finish_ended_of_kept (kept_tableChanged _) removed),
      (kept_tableChanged _).ended_planning removed⟩
  case candidate =>
    have run : exec (.candidateDeadline k) s = finish (discard 0 .expired k s) :=
      congrArg finish (if_pos (deadlineDue_of_reached held reached))
    rw [run, finish_ended_of_kept (kept_discard 0 .expired k s) still, discard_of_held 0 .expired held]
    rfl

/-! ## The first of the least (R58, R70, R73) -/

/-- What `nearestFrom` finds stands in the list. -/
theorem nearestFrom_stands {ds : List (Option Nat)} {i j e : Nat} (h : nearestFrom i ds = some (j, e)) :
    ∃ m : Nat, ds[m]? = some (some e) := by
  induction ds generalizing i j e with
  | nil => cases h
  | cons o ds ih =>
    have later : nearestFrom (i + 1) ds = some (j, e) → ∃ m : Nat, (o :: ds)[m]? = some (some e) := fun found => by
      obtain ⟨m, there⟩ := ih found
      exact ⟨m + 1, there⟩
    rcases o with _ | d
    · exact later h
    · rw [nearestFrom] at h
      split at h
      · cases h
        exact ⟨0, rfl⟩
      · rename_i found
        split at h <;> cases h
        · exact ⟨0, rfl⟩
        · exact later found

/-- The least of a list, the first on a tie, is what `nearestFrom` finds. -/
theorem nearestFrom_of_least {ds : List (Option Nat)} {k d : Nat} (i : Nat) (here : ds[k]? = some (some d))
    (least : ∀ j e, ds[j]? = some (some e) → d < e ∨ (d = e ∧ k ≤ j)) : nearestFrom i ds = some (i + k, d) := by
  induction ds generalizing i k with
  | nil => cases here
  | cons o ds ih =>
    cases k with
    | zero =>
      obtain rfl : o = some d := by simpa using here
      rw [nearestFrom]
      split
      · rfl
      · rename_i m e found
        obtain ⟨n, there⟩ := nearestFrom_stands found
        have below : d ≤ e := by
          have := least (n + 1) e there
          omega
        exact if_pos below
    | succ k =>
      have later := ih (k := k) (i + 1) here fun j e there => by
        have := least (j + 1) e there
        omega
      have place : i + 1 + k = i + (k + 1) := by omega
      cases o with
      | none => rw [nearestFrom, later, place]
      | some f =>
        have above : ¬ f ≤ d := by
          have := least 0 f rfl
          omega
        simp only [nearestFrom, later, above, if_false, place]

/-! ## The slot a report is taken into (R58) -/

theorem slotFor_of_slotOf {s : State} {id k : Nat} (slot : slotOf s id = some k) : (slotFor s id).1 = k := by
  rw [slotFor, slot]

/-- R58 case 2: the lowest FREE slot. -/
theorem slotFor_of_free {s : State} {id k : Nat} (absent : slotOf s id = none) (free : s.trains[k]? = some none)
    (lowest : ∀ j < k, s.trains[j]? ≠ some none) : (slotFor s id).1 = k := by
  obtain ⟨below, here⟩ := List.getElem?_eq_some_iff.1 free
  have found : s.trains.findIdx? (fun o => o.isNone) = some k := by
    refine List.findIdx?_eq_some_iff_getElem.2 ⟨below, by simp [here], fun j before empty => ?_⟩
    exact lowest j before (List.getElem?_eq_some_iff.2 ⟨_, Option.isNone_iff_eq_none.1 empty⟩)
  rw [slotFor, absent, found]

/-- R58 case 3: the record with the earliest taken-at time, the lower slot on a tie. -/
theorem slotFor_of_full {s : State} {id k : Nat} {r : Train} (absent : slotOf s id = none) (full : none ∉ s.trains)
    (held : s.trains[k]? = some (some r))
    (earliest : ∀ (j : Nat) (q : Train), s.trains[j]? = some (some q) →
      r.takenAt < q.takenAt ∨ (r.takenAt = q.takenAt ∧ k ≤ j)) : (slotFor s id).1 = k := by
  have found : s.trains.findIdx? (fun o => o.isNone) = none :=
    List.findIdx?_eq_none_iff.2 fun o here => by
      cases o with
      | none => exact absurd here full
      | some q => rfl
  have oldest : oldestTrain s = k := by
    have first := nearestFrom_of_least (ds := s.trains.map fun o => o.map Train.takenAt) (k := k) (d := r.takenAt) 0
      (by rw [List.getElem?_map, held]; rfl) fun j e there => by
        rw [List.getElem?_map] at there
        obtain ⟨o, slot, time⟩ := Option.map_eq_some_iff.1 there
        obtain ⟨q, rfl, rfl⟩ := Option.map_eq_some_iff.1 time
        exact earliest j q slot
    rw [oldestTrain, nearest, first, Nat.zero_add]
    rfl
  rw [slotFor, absent, found]
  exact oldest

/-! ## The event a report raises (R60 to R62) -/

/-- R60: the fire position lies at the offset behind the head, within the extent, or at the midpoint, and in the bore. -/
theorem firePosition_eq (L : Nat) (r : Train) : firePosition L r = (max 0 (min (L : Int)
    (r.offset.elim (((r.head + r.tail) / 2 : Nat) : Int) fun o => max (min r.head r.tail : Nat)
      (min (max r.head r.tail : Nat) ((r.head : Int) - (if r.dir = .towardB then 1 else -1) * (o : Int)))))).toNat := by
  have extent : (r.lo : Int) ≤ r.hi := by
    have : r.lo ≤ r.hi := min_le_max
    exact_mod_cast this
  have sign : flowSign r.dir = if r.dir = .towardB then 1 else -1 := by cases r.dir <;> rfl
  simp only [firePosition, clampInt_eq _ extent, clampInt_eq _ (Int.natCast_nonneg L), sign]
  cases r.offset <;> rfl

theorem trainById_none {ts : List (Option Train)} {id : Nat} (absent : ∀ r : Train, some r ∈ ts → r.id ≠ id) :
    trainById ts id = none := by
  have none_found : ts.find? (holdsTrain id) = none := by
    refine List.find?_eq_none.2 fun o here holds => ?_
    obtain ⟨r, rfl, same⟩ := (holdsTrain_iff id o).1 holds
    exact absent r here same
  rw [trainById_eq, none_found]
  rfl

theorem trainById_some {ts : List (Option Train)} {id : Nat} {r : Train} (h : trainById ts id = some r) :
    some r ∈ ts ∧ r.id = id := by
  rw [trainById_eq, Option.join_eq_some_iff] at h
  obtain ⟨q, same, at_id⟩ := (holdsTrain_iff id _).1 (List.find?_some h)
  cases same
  exact ⟨List.mem_of_find?_eq_some h, at_id⟩

/-- R61: the fire flag rises, or the stopped flag while the fire flag stays set. -/
theorem reportRaises_of_held {s : State} {p : TrainReport} {r : Train} (held : trainById s.trains p.id = some r) :
    reportRaises s p = true ↔ p.fire = true ∧ (r.fire = false ∨ (r.stopped = false ∧ p.stopped = true)) := by
  simp [reportRaises, fireRises, trainOf, held]

/-- R61: a train that enters the table with the fire flag set raises the event. -/
theorem reportRaises_of_absent {s : State} {p : TrainReport} (absent : trainById s.trains p.id = none) :
    reportRaises s p = true ↔ p.fire = true := by
  simp [reportRaises, fireRises, trainOf, absent]

/-! ## The command (R56 to R58, R66) -/

theorem trainBlocked_eq (s : State) (id : Nat) : trainBlocked s id = (trainById s.trains id).any Train.injected := by
  unfold trainBlocked
  cases trainById s.trains id <;> rfl

theorem not_trainBlocked {s : State} {id : Nat}
    (plain : ∀ r : Train, some r ∈ s.trains → r.id = id → r.injected = false) : ¬ trainBlocked s id = true := by
  rw [trainBlocked_eq, Option.any_eq_true]
  rintro ⟨r, held, marked⟩
  obtain ⟨here, same⟩ := trainById_some held
  exact Bool.false_ne_true ((plain r here same).symm.trans marked)

/-- R66: a part that serves takes a report unless an injection marks its train's record. -/
theorem exec_trainReport {p : TrainReport} {s : State} (serves : serving s = true) : exec (.trainReport p) s =
    finish (if trainBlocked s p.id = true then taken (.trainReport p) s
      else takeTrainReport p false (taken (.trainReport p) s)) := by
  have service : inService (took (.trainReport p) s) = true := serving_inService serves
  have same : trainBlocked (took (.trainReport p) s) p.id = trainBlocked s p.id := rfl
  show execTrainReport p s = _
  simp only [execTrainReport, service, same]
  cases trainBlocked s p.id <;> rfl

/-- R57, R58: a departure report for a train that the table does not hold changes nothing. -/
theorem takeDeparture_of_absent {s : State} {id : Nat} (absent : slotOf s id = none) : takeDeparture id s = s := by
  rw [takeDeparture, absent]

theorem takeDeparture_of_held {s : State} {id k : Nat} (slot : slotOf s id = some k) :
    takeDeparture id s = tableChanged (setTrain k none s) := by
  rw [takeDeparture, slot]

/-- R61, R65: the event that may be raised and the indication keep all but planning. -/
theorem kept_raised_tableChanged (e : Detection) (b : Bool) (s : State) :
    Kept s (tableChanged (if b = true then takeEvent e s else s)) :=
  Kept.trans (.ite (kept_takeEvent e s) (.refl s)) (kept_tableChanged _)

/-- Settles O27: the report is a departure or is taken into `slotFor`'s slot, where `reportRaises` tells the event. -/
theorem trainReportIsTaken : Obligations.TrainReportIsTaken := by
  intro p s serves c
  have still : quiet (taken c s) = true := serving_quiet serves
  refine ⟨fun k r held same marked first => ?marked, fun plain => ?_⟩
  case marked =>
    have blocked : trainBlocked s p.id = true := by
      rwa [trainBlocked_eq, (slotOf_some held same first).2]
    exact (exec_trainReport serves).trans ((congrArg finish (if_pos blocked)).trans (finish_ended (quiet_due still)))
  intro leaving new middle place event becomes
  have run : exec c s = finish (takeTrainReport p false (taken c s)) :=
    (exec_trainReport serves).trans (congrArg finish (if_neg (not_trainBlocked plain)))
  have departs : leaving → exec c s = finish (takeDeparture p.id (taken c s)) := fun leaves =>
    run.trans (congrArg finish (if_pos ((isDeparture_iff _ _).2 leaves)))
  have raises : fireEvent s.tables s.params.L new = event := by
    have here : firePosition s.params.L new = place := by
      refine (firePosition_eq _ _).trans ?_
      simp only [place, middle, new]
      cases p.offset <;> rfl
    rw [fireEvent, here]
  have ends : ∀ (ts : List (Option Train)) (b : Bool) (raised : Prop), (b = true ↔ raised) →
      exec c s = finish (tableChanged (if b = true then takeEvent event { taken c s with trains := ts }
        else { taken c s with trains := ts })) → becomes ts raised := fun ts b raised tells taking => by
    have kept := kept_raised_tableChanged event b { taken c s with trains := ts }
    have leaves := taking.trans (finish_ended_of_kept kept still)
    refine ⟨fun yes => ?_, fun no => ?_, _, leaves, kept.ended_planning still⟩
    · rw [leaves, if_pos (tells.2 yes)]
    · rw [leaves, if_neg (mt tells.1 no)]
  have entered : ¬ leaving → ∀ (k : Nat) (raised : Prop), (slotFor s p.id).1 = k →
      (reportRaises s p = true ↔ raised) → becomes (s.trains.set k (some new)) raised :=
    fun stays k raised slot tells => by
      subst slot
      refine ends _ (reportRaises s p) raised tells ?_
      rw [run, ← raises]
      exact congrArg finish (if_neg (mt (isDeparture_iff _ _).1 stays))
  refine ⟨fun stays k r held same first => ?update, fun stays absent k free lowest => ?enter,
    fun stays absent full k r held earliest => ?replace, fun leaves k r held same first => ?depart,
    fun leaves absent => ?unknown⟩
  case update =>
    obtain ⟨slot, record⟩ := slotOf_some held same first
    exact entered stays k _ (slotFor_of_slotOf slot) (reportRaises_of_held record)
  case enter =>
    exact entered stays k _ (slotFor_of_free (slotOf_none absent) free lowest)
      (reportRaises_of_absent (trainById_none absent))
  case replace =>
    exact entered stays k _ (slotFor_of_full (slotOf_none absent) full held earliest)
      (reportRaises_of_absent (trainById_none absent))
  case depart =>
    have slot : slotOf (taken c s) p.id = some k := (slotOf_some held same first).1
    exact ends _ false False (by simp) ((departs leaves).trans (congrArg finish (takeDeparture_of_held slot)))
  case unknown =>
    have gone : slotOf (taken c s) p.id = none := slotOf_none absent
    rw [departs leaves, takeDeparture_of_absent gone, finish_ended (quiet_due still)]

end Sys2Proof.Machine
end

section
/-!
The direction lock (R110, R116): the relations between a state and what an operation makes of it, and the
operations of the planning blocks, which leave a locked head on its direction.
-/

namespace Sys2Proof.Machine

open Sys2Proof

/-! ## The relations -/

/-- The number of the first incident of the list. -/
def leader (s : State) : Option Nat := s.incidents.list.head?.map Incident.number

/-- R116: a live scenario locked on a direction keeps direction, scenario and lock, and on a record its group list. -/
def LockStands (a b : Option Live) : Prop :=
  ∀ l d, a = some l → l.locked = true → l.dir = some d → l.scenario ≠ .none →
    ∃ m, b = some m ∧ m.dir = some d ∧ m.locked = true ∧ m.scenario = l.scenario ∧
      ∀ n, l.scenario = .record n → m.groups = l.groups

/-- The listed incidents as the planner reads them and the live scenario are the same. -/
structure HeadKept (s t : State) : Prop where
  keys : t.incidents.list.map Incident.key = s.incidents.list.map Incident.key
  live : t.live = s.live

/-- The listed incidents are the same, and a locked scenario stands. -/
structure LockKept (s t : State) : Prop where
  keys : t.incidents.list.map Incident.key = s.incidents.list.map Incident.key
  lock : LockStands s.live t.live

/-- R81: the incident with a number is HEAD, and no other is. -/
def HeadIs (n : Nat) (l : List Incident) : Prop := ∀ j ∈ l, j.state = .head ↔ j.number = n

/-- R81, R82: the first incident has a number, and it alone is HEAD, in a list within its capacity. -/
structure LedBy (n : Nat) (l : List Incident) : Prop where
  first : ∃ i rest, l = i :: rest ∧ i.number = n
  roles : HeadIs n l
  room : l.length ≤ 4

/-- R116: where the same incident is still the head, a locked scenario stands. -/
def LockGuarded (s t : State) : Prop :=
  ∀ n, LedBy n s.incidents.list → leader t = some n → LockStands s.live t.live

theorem LockStands.refl (a : Option Live) : LockStands a a := fun l _ live locked dir _ =>
  ⟨l, live, dir, locked, rfl, fun _ _ => rfl⟩

theorem LockStands.trans {a b c : Option Live} (h : LockStands a b) (k : LockStands b c) : LockStands a c := by
  intro l d live locked dir held
  obtain ⟨m, live', dir', locked', scenario, groups⟩ := h l d live locked dir held
  obtain ⟨m', live'', dir'', locked'', scenario', groups'⟩ := k m d live' locked' dir' (scenario ▸ held)
  exact ⟨m', live'', dir'', locked'', scenario'.trans scenario, fun n record =>
    (groups' n (scenario.trans record)).trans (groups n record)⟩

/-- A scenario that is not locked may be replaced. -/
theorem LockStands.of_unlocked {a b : Option Live} (h : ∀ l, a = some l → l.locked = false) : LockStands a b :=
  fun l _ live locked _ _ => absurd (h l live) (by simp [locked])

theorem leader_of_keys {s t : State} (h : t.incidents.list.map Incident.key = s.incidents.list.map Incident.key) :
    leader t = leader s := by
  have numbers : ∀ u : State, leader u = (u.incidents.list.map Incident.key).head?.map Prod.fst := fun u => by
    cases listed : u.incidents.list <;> simp [leader, listed, Incident.key]
  rw [numbers, numbers, h]

theorem HeadKept.refl (s : State) : HeadKept s s := ⟨rfl, rfl⟩

theorem HeadKept.trans {s t u : State} (a : HeadKept s t) (b : HeadKept t u) : HeadKept s u :=
  ⟨b.keys.trans a.keys, b.live.trans a.live⟩

theorem LockKept.refl (s : State) : LockKept s s := ⟨rfl, .refl _⟩

theorem LockKept.trans {s t u : State} (a : LockKept s t) (b : LockKept t u) : LockKept s u :=
  ⟨b.keys.trans a.keys, a.lock.trans b.lock⟩

theorem HeadKept.lockKept {s t : State} (a : HeadKept s t) : LockKept s t := ⟨a.keys, a.live ▸ .refl _⟩

theorem LockKept.guarded {s t : State} (a : LockKept s t) : LockGuarded s t := fun _ _ _ => a.lock

theorem HeadKept.guarded {s t : State} (a : HeadKept s t) : LockGuarded s t := a.lockKept.guarded

theorem LockGuarded.refl (s : State) : LockGuarded s s := (HeadKept.refl s).guarded

/-- What follows a guarded change and leaves the listed incidents. -/
theorem LockGuarded.then {s t u : State} (a : LockGuarded s t) (b : LockKept t u) : LockGuarded s u :=
  fun n led leads => (a n led ((leader_of_keys b.keys).symm.trans leads)).trans b.lock

/-- A guarded change that follows one which leaves the list and the live scenario as they are. -/
theorem LockGuarded.after {s t u : State} (h : LockGuarded t u)
    (list : t.incidents.list = s.incidents.list) (live : t.live = s.live) : LockGuarded s u :=
  fun n led leads => live ▸ h n (list ▸ led) leads

theorem LockGuarded.of_empty {s t : State} (h : t.incidents.list = []) : LockGuarded s t :=
  fun _ _ leads => by simp [leader, h] at leads

/-! ## Offers, walks and fans -/

theorem headKept_relayed {s t : State} (h : t = { s with port := t.port, chip := t.chip, test := t.test }) :
    HeadKept s t := by
  rw [h]
  exact ⟨rfl, rfl⟩

theorem headKept_phaseTest (s : State) : HeadKept s (phaseTest s) :=
  ⟨(carried_phaseTest s).keys, (carried_phaseTest s).live⟩

theorem headKept_steps : FanSteps HeadKept where
  refl := .refl
  trans := .trans
  relayed := headKept_relayed
  fans _ _ _ := ⟨rfl, rfl⟩
  walked _ _ _ := ⟨rfl, rfl⟩
  phased := headKept_phaseTest

theorem headKept_notice (c n : Nat) (f : List Byte) (s : State) : HeadKept s (notice c n f s) :=
  headKept_steps.notice c n f s

theorem headKept_headNotice (c : Nat) (f : List Byte) (s : State) : HeadKept s (headNotice c f s) :=
  headKept_steps.headNotice c f s

theorem headKept_setDemand (x : Int) (s : State) : HeadKept s (setDemand x s) :=
  ⟨(obeyed_setDemand x s).keys, (setDemand_plan x s).1⟩

theorem headKept_computeOpenLoop (s : State) : HeadKept s (computeOpenLoop s) := by
  unfold computeOpenLoop
  split
  · exact .refl s
  · exact headKept_setDemand _ s

theorem headKept_trimStep (s : State) : HeadKept s (trimStep s) := by
  have trimmed : ∀ v vt, HeadKept s (trim v vt s) := fun v vt =>
    rel_ite (.refl s) ((headKept_setDemand _ s).trans (rel_ite (.refl _) (headKept_steps.hysteresisRevision _)))
  unfold trimStep
  split
  · exact .refl s
  · split
    · exact .refl s
    · split
      · exact .refl s
      · exact .refl s
      · split
        · exact .refl s
        · exact trimmed _ _

theorem headKept_comeIntoCommand (s : State) : HeadKept s (comeIntoCommand s) :=
  ⟨(cameIntoCommand s).keys, (cameIntoCommand s).live⟩

theorem headKept_leaveCommand (s : State) : HeadKept s (leaveCommand s) := by
  unfold leaveCommand
  refine rel_ite (HeadKept.trans ?_ (headKept_phaseTest _)) (.refl s)
  exact ⟨rfl, rfl⟩

theorem headKept_carryOut (s : State) : HeadKept s (carryOut s) :=
  rel_ite
    (((headKept_steps.freshWalk s).trans (headKept_steps.handWanted _)).trans (headKept_comeIntoCommand _))
    (((headKept_leaveCommand s).trans (headKept_steps.freshWalk _)).trans (headKept_steps.handWanted _))

theorem headKept_setPhase (p : Phase) (s : State) : HeadKept s (setPhase p s) :=
  ⟨(carried_setPhase p s).keys, rfl⟩

theorem headKept_announcePhase (p : Phase) (s : State) : HeadKept s (announcePhase p s) := by
  refine HeadKept.trans ?_ (headKept_steps.startTests _)
  refine (headKept_headNotice 0x0C [byte (phaseCode p)] s).trans ?_
  cases p
  case staging => exact headKept_phaseTest _
  all_goals exact .refl _

theorem headKept_foldl {g : State → Nat → State} (h : ∀ s f, HeadKept s (g s f)) (fs : List Nat) (s : State) :
    HeadKept s (fs.foldl g s) := by
  induction fs generalizing s with
  | nil => exact .refl s
  | cons f fs ih => exact (h s f).trans (ih _)

/-! ## The events of a fan -/

theorem headKept_ageUnknown (f : Nat) (s : State) : HeadKept s (ageUnknown f s).1 := by
  unfold ageUnknown
  simp only []
  split
  all_goals exact ⟨rfl, rfl⟩

theorem headKept_ackPasses (f : Nat) (s : State) : HeadKept s (ackPasses f s).1 := by
  unfold ackPasses
  split
  · exact .refl s
  · split
    · exact ⟨rfl, rfl⟩
    · split
      · exact ⟨rfl, rfl⟩
      · exact (headKept_steps.modFan f s).trans (headKept_headNotice _ _ _)

theorem headKept_resendNow (f : Nat) (s : State) : HeadKept s (resendNow f s) := by
  unfold resendNow
  split
  · exact .refl s
  · exact (headKept_steps.modFan f s).trans (headKept_steps.offerFanCommand f _ _)

theorem headKept_silenceResendAll (s : State) : HeadKept s (silenceResendAll s) := by
  have offered : ∀ t f, HeadKept t (silenceOffer t f) := fun t f => by
    unfold silenceOffer
    split
    · exact .refl t
    · exact headKept_steps.offerFanCommand f _ t
  exact HeadKept.trans (t := s.setPort { s.port with silentFor := 0 }) ⟨rfl, rfl⟩ (headKept_foldl offered _ _)

theorem headKept_dwellEnd (f : Nat) (s : State) : HeadKept s (dwellEnd f s) :=
  (headKept_steps.modFan f s).trans (headKept_steps.joinQueue f _)

theorem headKept_dryReport (f : Nat) (st : FanStatus) (s : State) : HeadKept s (dryReport f st s) :=
  rel_ite (.refl s) ⟨rfl, rfl⟩

theorem headKept_takeStatus (f : Nat) (st : FanStatus) (b : Bool) (s : State) : HeadKept s (takeStatus f st b s) := by
  refine HeadKept.trans ?_ (headKept_steps.fanEvent f _ _ (headKept_steps.statusBody f _ _))
  exact ⟨rfl, rfl⟩

/-! ## Authority Controller -/

theorem headKept_offerHold (x n : Nat) (s : State) : HeadKept s (offerHold x n s) := by
  refine HeadKept.trans (headKept_relayed (offerCommand_rest ⟨noticeDest s, kindHold, [byte x, byte n], false⟩ s)) ?_
  exact ⟨rfl, rfl⟩

theorem headKept_claimHold (s : State) : HeadKept s (claimHold s) := by
  obtain ⟨keys, live⟩ := headKept_offerHold s.params.holdTime (headNumber s) s
  exact ⟨keys, live⟩

theorem headKept_interception (s : State) : HeadKept s (interception s) := by
  refine HeadKept.trans (t := s.setAuth { s.auth with intercepted := satCount 255 s.auth.intercepted }) ⟨rfl, rfl⟩ ?_
  exact rel_ite (headKept_claimHold _) (.refl _)

theorem headKept_enterAutonomous (s : State) : HeadKept s (enterAutonomous s) :=
  ⟨(enterAutonomous_leaves s).keys, enterAutonomous_live s⟩

theorem headKept_moveAuth (a : AuthState) (s : State) : HeadKept s (moveAuth a s) :=
  HeadKept.trans (t := setAuthState a s) ⟨rfl, rfl⟩ (headKept_headNotice _ _ _)

theorem headKept_exitAutonomous (a : AuthState) (s : State) : HeadKept s (exitAutonomous a s) := by
  have left : HeadKept s (leaveCommand (setAuthState a s)) :=
    HeadKept.trans (t := setAuthState a s) ⟨rfl, rfl⟩ (headKept_leaveCommand _)
  have ended : ∀ t, HeadKept t (endHold t) := fun t =>
    HeadKept.trans (t := if 0 < t.auth.holdRemaining then offerHold 0 (headNumber t) t else t)
      (rel_ite (headKept_offerHold _ _ t) (.refl t)) ⟨rfl, rfl⟩
  exact (left.trans (ended _)).trans (headKept_headNotice _ _ _)

theorem headKept_listNotEmpty (s : State) : HeadKept s (listNotEmpty s) := by
  unfold listNotEmpty
  split
  · exact headKept_enterAutonomous s
  · exact headKept_headNotice _ _ s
  · exact .refl s

theorem headKept_geometryOpened (s : State) : HeadKept s (geometryOpened s) := by
  unfold geometryOpened
  split
  · exact headKept_moveAuth _ s
  · exact .refl s

theorem headKept_geometryClosed (s : State) : HeadKept s (geometryClosed s) := by
  unfold geometryClosed
  split
  · exact rel_ite (headKept_enterAutonomous s) (headKept_moveAuth _ s)
  · exact .refl s

theorem headKept_leaveStarting (s : State) : HeadKept s (leaveStarting s) :=
  (headKept_moveAuth _ s).trans (rel_ite (headKept_offerHold _ _ _) (.refl _))

theorem headKept_releaseAuthority (n : Nat) (s : State) : HeadKept s (releaseAuthority n s) :=
  rel_ite (headKept_exitAutonomous _ s) (headKept_headNotice _ _ s)

theorem headKept_resumeAuthority (s : State) : HeadKept s (resumeAuthority s) := by
  unfold resumeAuthority
  split
  · exact headKept_enterAutonomous s
  · exact .refl s

/-! ## Scenario Lookup (R109, R113, R114, R116) -/

/-- R113: a re-lookup is made for a head that is not locked alone. -/
theorem unlocked_of_mayRelookup {s : State} (h : mayRelookup s = true) {l : Live} (live : s.live = some l) :
    l.locked = false := by
  unfold mayRelookup at h
  simp only [live, Bool.and_eq_true, Bool.not_eq_true'] at h
  exact h.1.1

theorem lockKept_relookup {s : State} (h : mayRelookup s = true) : LockKept s (relookup s) :=
  ⟨(obeyed_relookup s).keys, .of_unlocked fun _ live => unlocked_of_mayRelookup h live⟩

/-- R113: whatever brings it, a re-lookup leaves a locked head. -/
theorem lockKept_if_mayRelookup (moved : Bool) (s : State) :
    LockKept s (if (mayRelookup s && moved) = true then relookup s else s) := by
  split
  · rename_i looks
    exact lockKept_relookup (Bool.and_eq_true_iff.1 looks).1
  · exact .refl s

theorem lockKept_tableChanged (s : State) : LockKept s (tableChanged s) := lockKept_if_mayRelookup _ s

theorem lockKept_scenarioSetValid (s : State) : LockKept s (scenarioSetValid s) := by
  unfold scenarioSetValid
  split
  · exact lockKept_relookup ‹_›
  · exact .refl s

/-- R107, R116: the rebuilt list is the fallback scenario's alone. -/
theorem lockKept_rebuildFallback (s : State) : LockKept s (rebuildFallback s) := by
  unfold rebuildFallback
  split
  · exact .refl s
  · rename_i l live
    split
    · rename_i fallback dir
      refine rel_ite (.refl s) (LockKept.trans ?_ (headKept_steps.freshRevision _).lockKept)
      refine ⟨rfl, ?_⟩
      intro k d' held locked dir' _
      obtain rfl := Option.some.inj (live.symm.trans held)
      exact ⟨_, rfl, dir', locked, rfl, fun n record => absurd (fallback.symm.trans record) ScenarioRef.noConfusion⟩
    · exact .refl s

theorem lockKept_chainageChanged (s : State) : LockKept s (chainageChanged s) :=
  ((lockKept_if_mayRelookup _ s).trans (lockKept_rebuildFallback _)).trans
    (headKept_steps.hysteresisRevision _).lockKept

/-- R109: the late lookup is that of a head on scenario none. -/
theorem lockKept_geometryLookup (s : State) : LockKept s (geometryLookup s) := by
  refine ⟨(steered_geometryLookup s).keys, fun l d live locked dir held => ?_⟩
  have stands : geometryLookup s = s := geometryLookup_stands fun m live' none => by
    obtain rfl := Option.some.inj (live.symm.trans live')
    exact absurd none held
  rw [stands]
  exact LockStands.refl _ l d live locked dir held

/-- R110: an expiry of the lock timer sets the lock; it never frees one. -/
theorem lockKept_lockExpires (n : Nat) (s : State) : LockKept s (lockExpires n s) := by
  have told : ∀ b k t, HeadKept t (when b (lockedNotice n k) t) := fun b k t =>
    rel_ite (headKept_notice _ _ _ t) (.refl t)
  unfold lockExpires
  split
  · exact .refl s
  · split
    · rename_i l _ live
      refine LockKept.trans (t := s.setLive (some (l.withLock true none))) ⟨rfl, ?_⟩ (told _ _ _).lockKept
      intro k d held _ dir _
      obtain rfl := Option.some.inj (live.symm.trans held)
      exact ⟨_, rfl, dir, rfl, rfl, fun _ _ => rfl⟩
    · refine LockKept.trans ?_ (told _ _ _).lockKept
      refine ⟨?_, .refl _⟩
      simp only [State.setIncidents_incidents, List.map_map]
      refine List.map_congr_left fun j _ => ?_
      simp only [Function.comp_apply]
      split <;> rfl
    · exact .refl s

end Sys2Proof.Machine
end

section
/-!
The direction lock (R110, R116) across the Incident Manager: which incident leads the list after a listing, a merge or a
clear, and that a head change leaves another head.
-/

namespace Sys2Proof.Machine

open Sys2Proof

/-! ## Numbers (R84) -/

/-- R84: where the search for a free number ends on a number that is held, every number it tested is held. -/
theorem freeNumber_tested {l : List Incident} {fuel n : Nat}
    (h : freeNumber l fuel n ∈ l.map Incident.number) : ∀ k ≤ fuel, succNumber^[k] n ∈ l.map Incident.number := by
  induction fuel generalizing n with
  | zero =>
    intro k hk
    obtain rfl := Nat.le_zero.1 hk
    exact h
  | succ fuel ih =>
    have holds : (l.any fun i => decide (i.number = n)) = true ↔ n ∈ l.map Incident.number := by simp
    unfold freeNumber at h
    split at h
    · rename_i taken
      intro k hk
      cases k with
      | zero => exact holds.1 taken
      | succ k => exact ih h k (Nat.le_of_succ_le_succ hk)
    · rename_i free
      exact absurd (holds.2 h) free

/-- R84: in a list with room the number found is free. -/
theorem freeNumber_free {l : List Incident} (n : Nat) (room : l.length < 4) :
    freeNumber l Config.listCapacity n ∉ l.map Incident.number := by
  intro held
  have tested := freeNumber_tested held
  have distinct : ((List.range 4).map fun k => succNumber^[k] n).Nodup := by
    simp only [List.range, List.range.loop, List.map_cons, List.map_nil, Function.iterate_succ_apply,
      Function.iterate_zero_apply, succNumber]
    simp only [List.nodup_cons, List.mem_cons, List.not_mem_nil, or_false, not_or, not_false_eq_true, List.nodup_nil,
      and_true]
    refine ⟨⟨?_, ?_, ?_⟩, ⟨?_, ?_⟩, ?_⟩
    all_goals split_ifs <;> omega
  have among : ((List.range 4).map fun k => succNumber^[k] n) ⊆ l.map Incident.number := by
    intro m hm
    obtain ⟨k, hk, rfl⟩ := List.mem_map.1 hm
    exact tested k (List.mem_range.1 hk).le
  have := (List.subperm_of_subset distinct among).length_le
  simp only [List.length_map, List.length_range] at this
  omega

/-! ## The list -/

theorem mem_enterList {x j : Incident} {l : List Incident} (h : j ∈ enterList x l) : j = x ∨ j ∈ l := by
  induction l with
  | nil => exact .inl (List.mem_singleton.1 h)
  | cons i rest ih =>
    unfold enterList at h
    split at h
    · rcases List.mem_cons.1 h with rfl | h
      · exact .inr List.mem_cons_self
      · exact (ih h).imp_right (List.mem_cons_of_mem i)
    · exact List.mem_cons.1 h

theorem mem_placeIncident {x j : Incident} {l : List Incident} (h : j ∈ placeIncident x l) : j = x ∨ j ∈ l := by
  induction l with
  | nil => exact .inl (List.mem_singleton.1 h)
  | cons i rest ih =>
    unfold placeIncident at h
    split at h
    · exact List.mem_cons.1 h
    · rcases List.mem_cons.1 h with rfl | h
      · exact .inr List.mem_cons_self
      · exact (ih h).imp_right (List.mem_cons_of_mem i)

/-- R85: a re-sort brings no incident in. -/
theorem mem_resort {n : Nat} {j : Incident} {l : List Incident} (h : j ∈ resort n l) : j ∈ l := by
  unfold resort at h
  split at h
  · exact h
  · rename_i x found
    rcases mem_placeIncident h with rfl | h
    · exact List.mem_of_find?_eq_some found
    · exact List.mem_of_mem_filter h

/-- R82: an ordered list is led by its first incident. -/
theorem ledBy_of_listInOrder {i : Incident} {rest : List Incident} (h : listInOrder (i :: rest) = true) :
    LedBy i.number (i :: rest) := by
  simp only [listInOrder, numbersDiffer, headFirst, Bool.and_eq_true, decide_eq_true_eq, List.all_eq_true] at h
  obtain ⟨⟨⟨room, _⟩, differ, _⟩, head, suspended⟩ := h
  refine ⟨⟨i, rest, rfl, rfl⟩, fun j hj => ?_, room⟩
  rcases List.mem_cons.1 hj with rfl | hj
  · exact iff_of_true head rfl
  · exact iff_of_false (by rw [suspended j hj]; exact IncidentState.noConfusion) (differ j hj)

/-! ## Head changes (R86, R87) -/

/-- The listed incidents are those that the planner reads in `s`; the live scenario may differ. -/
def KeysKept (s t : State) : Prop := t.incidents.list.map Incident.key = s.incidents.list.map Incident.key

theorem KeysKept.trans {s t u : State} (a : KeysKept s t) (b : KeysKept t u) : KeysKept s u := Eq.trans b a

theorem keysKept_setLive (s : State) (x : Option Live) : KeysKept s (s.setLive x) := rfl

theorem keysKept_setPhaseTimer (x : Option Nat) (s : State) : KeysKept s (setPhaseTimer x s) := rfl

theorem keysKept_when_notice (b : Bool) (c n : Nat) (f : List Byte) (s : State) :
    KeysKept s (when b (notice c n f) s) :=
  rel_ite (headKept_notice c n f s).keys rfl

theorem keysKept_freshScenario (s : State) : KeysKept s (freshScenario s) := by
  unfold freshScenario
  simp only []
  split
  · exact ((keysKept_setLive s _).trans (keysKept_when_notice _ _ _ _ _)).trans (keysKept_when_notice _ _ _ _ _)
  · exact keysKept_setLive s _

theorem keysKept_restoreScenario (p : SavedPlan) (s : State) : KeysKept s (restoreScenario p s).1 := by
  unfold restoreScenario
  split
  · split
    · exact (obeyed_lateLookup _ _ s).keys
    · exact keysKept_setLive s _
  · split
    · exact keysKept_setLive s _
    · simp only []
      split
      · exact keysKept_setLive s _
      · exact (keysKept_setLive s _).trans (headKept_notice _ _ _ _).keys

/-- R87: an activation lists no incident and removes none. -/
theorem keysKept_activate (saved : Option SavedPlan) (s : State) : KeysKept s (activate saved s) := by
  have computed : ∀ b t, KeysKept t (if b = true then computeOpenLoop t else t) := fun b t =>
    rel_ite (headKept_computeOpenLoop t).keys rfl
  have entered : ∀ p t, KeysKept t (announcePhase p (carryOut t)) := fun p t =>
    ((headKept_carryOut t).trans (headKept_announcePhase p _)).keys
  cases saved with
  | none =>
    unfold activate activateFresh
    refine KeysKept.trans ?_ (entered _ _)
    refine KeysKept.trans ?_ (keysKept_setPhaseTimer _ _)
    refine KeysKept.trans ?_ (headKept_setPhase _ _).keys
    exact KeysKept.trans (keysKept_freshScenario (s.setPlan { s.plan with demand := 0, saturated := false }))
      (computed _ _)
  | some p =>
    unfold activate activateSaved
    refine KeysKept.trans ?_ (entered _ _)
    refine KeysKept.trans ?_ (headKept_setPhase _ _).keys
    exact KeysKept.trans
      (keysKept_restoreScenario p (s.setPlan { s.plan with demand := p.demand, saturated := p.saturated }))
      (computed _ _)

/-- R86: a head change leaves the order of the list. -/
theorem leader_headChange (old : Nat) (s : State) : leader (headChange old s) = leader s := by
  unfold headChange
  split
  · rfl
  · rename_i i rest listed
    let t := s.setIncidents { s.incidents with
      list := headRoles (savedPlanOf s) s.incidents.list
      phaseTimer := none }
    have changed : KeysKept t (activate i.saved (headChangedNotice i.number old (setTrim none t))) :=
      KeysKept.trans (headKept_notice _ _ _ (setTrim none t)).keys (keysKept_activate _ _)
    refine (leader_of_keys changed).trans ?_
    simp [t, leader, listed, headRoles]

/-- R86: where the incident with a number is HEAD, the list settles without a head change or under another head. -/
theorem settleHead_cases {n : Nat} {s : State} (old : Nat) (h : HeadIs n s.incidents.list) :
    settleHead old s = s ∨ leader (settleHead old s) ≠ some n := by
  unfold settleHead
  split
  · rename_i differs
    refine .inr ?_
    rw [leader_headChange]
    unfold headDiffers at differs
    split at differs
    · cases differs
    · rename_i i rest listed
      have other : i.number ≠ n := fun same =>
        of_decide_eq_true differs ((h i (listed ▸ List.mem_cons_self)).2 same)
      simpa [leader, listed] using other
  · exact .inl rfl

/-- R116: a list that changes while the incident with a number stays HEAD, with its notices and the head change. -/
theorem lockStands_settleHead {n : Nat} {s t : State} (old : Nat) (h : HeadIs n t.incidents.list)
    (live : t.live = s.live) (leads : leader (settleHead old t) = some n) :
    LockStands s.live (settleHead old t).live := by
  rcases settleHead_cases old h with same | other
  · rw [same, live]
    exact .refl _
  · exact absurd leads other

/-! ## Listings (R82 to R84) -/

theorem headKept_discardWhere (n : Nat) (c : DiscardCause) (p : Candidate → Bool) (ks : List Nat) (s : State) :
    HeadKept s (discardWhere n c p ks s) := by
  have discarded : ∀ k t, HeadKept t (discard n c k t) := fun k t =>
    HeadKept.trans (t := setCandidate k none t) ⟨rfl, rfl⟩ (headKept_relayed (announced_discard n c k t).relayed.rest)
  induction ks generalizing s with
  | nil => exact .refl s
  | cons k ks ih =>
    unfold discardWhere
    refine HeadKept.trans ?_ (ih _)
    split
    · exact .refl s
    · exact rel_ite (discarded k s) (.refl s)

theorem headKept_absorb (n x : Nat) (s : State) : HeadKept s (absorb n x s) := headKept_discardWhere _ _ _ _ s
theorem headKept_emptyCandidates (s : State) : HeadKept s (emptyCandidates s) := headKept_discardWhere _ _ _ _ s

/-- R82, R84: a new incident takes another number than the head's and enters SUSPENDED. -/
theorem lockStands_enterIncident {n : Nat} {s : State} (p : Proposal) (held : ∃ j ∈ s.incidents.list, j.number = n)
    (roles : HeadIs n s.incidents.list) (room : s.incidents.list.length < 4)
    (leads : leader (enterIncident p s) = some n) : LockStands s.live (enterIncident p s).live := by
  obtain ⟨j, listed, number⟩ := held
  have other : freeNumber s.incidents.list Config.listCapacity s.incidents.nextNumber ≠ n := fun same =>
    freeNumber_free s.incidents.nextNumber room (same ▸ number ▸ List.mem_map_of_mem listed)
  have after : ∀ k b t, HeadKept t (absorb k p.chainage (if b = true then listNotEmpty t else t)) := fun k b t =>
    HeadKept.trans (rel_ite (headKept_listNotEmpty t) (.refl t)) (headKept_absorb _ _ _)
  unfold enterIncident at leads ⊢
  simp only [] at leads ⊢
  rw [leader_of_keys (after _ _ _).keys] at leads
  rw [(after _ _ _).live]
  refine lockStands_settleHead _ ?_ (headKept_notice _ _ _ _).live leads
  rw [listedNotice, (announced_notice _ _ _ _).incidents]
  intro j hj
  rcases mem_enterList hj with rfl | hj
  · exact iff_of_false IncidentState.noConfusion other
  · exact roles j hj

/-- R83: the incident that a full list drops is not the head. -/
theorem lockGuarded_listIncident (p : Proposal) (s : State) : LockGuarded s (listIncident p s) := by
  rintro n ⟨⟨i, rest, listed, number⟩, roles, room⟩
  unfold listIncident
  split
  · rename_i free
    exact lockStands_enterIncident p ⟨i, listed ▸ List.mem_cons_self, number⟩ roles free
  · rename_i full
    split
    · exact fun _ => .refl _
    · rename_i last _
      split
      · let front := s.setIncidents { s.incidents with list := s.incidents.list.dropLast }
        have told := announced_notice 0x06 last.number ([byte last.severity] ++ be16 last.chainage) front
        have list : (droppedNotice last front).incidents.list = s.incidents.list.dropLast := by
          rw [droppedNotice, told.incidents]
          rfl
        have live : (droppedNotice last front).live = s.live := (headKept_notice _ _ _ front).live
        have long : rest ≠ [] := fun short => full (by simp [listed, short, Config.listCapacity])
        refine fun leads => live ▸ lockStands_enterIncident p (n := n) ?_ ?_ ?_ leads
        · exact ⟨i, by simp [list, listed, List.dropLast_cons_of_ne_nil long], number⟩
        · exact list ▸ fun j hj => roles j (List.mem_of_mem_dropLast hj)
        · rw [list, List.length_dropLast, listed]
          simp only [listed, List.length_cons] at room ⊢
          omega
      · exact fun _ => (headKept_notice _ _ _ s).live ▸ .refl _

/-! ## Merges (R71, R75, R79, R85, R88) -/

theorem corroborated_role (t : TableStore) (e : Detection) (i : Incident) :
    (corroborated t e i).number = i.number ∧ (corroborated t e i).state = i.state := by
  unfold corroborated Incident.moved
  simp only []
  split_ifs <;> exact ⟨rfl, rfl⟩

theorem mergedCandidate_role (t : TableStore) (p : Proposal) (i : Incident) :
    (mergedCandidate t p i).number = i.number ∧ (mergedCandidate t p i).state = i.state := by
  unfold mergedCandidate Incident.moved
  simp only []
  split <;> split_ifs <;> exact ⟨rfl, rfl⟩

theorem mergedDeclaration_role (t : TableStore) (d : Declaration) (x : Nat) (i : Incident) :
    (mergedDeclaration t d x i).number = i.number ∧ (mergedDeclaration t d x i).state = i.state := by
  unfold mergedDeclaration Incident.moved
  cases d.chainage <;> cases i.train <;> exact ⟨rfl, rfl⟩

/-- R88: what the head hands on leaves a locked head. -/
theorem lockKept_handOn (old new : Incident) (s : State) : LockKept s (handOn old new s) := by
  unfold handOn
  split
  · exact LockKept.trans (rel_ite (.refl s) (lockKept_chainageChanged s))
      (rel_ite (.refl _) (lockKept_tableChanged _))
  · exact .refl s

/-- R71, R75, R79: a merge keeps number and state of the incident, so the same one leads, or a head change follows. -/
theorem lockGuarded_mergeRecord (cause : MergeCause) {old new : Incident} {s : State} (listed : old ∈ s.incidents.list)
    (role : new.number = old.number ∧ new.state = old.state) : LockGuarded s (mergeRecord cause old new s) := by
  obtain ⟨number, state⟩ := role
  have settled : ∀ l o, (∀ n, HeadIs n s.incidents.list → HeadIs n l) →
      LockGuarded s (settleHead o (mergedNotice cause new (s.setIncidents { s.incidents with list := l }))) := by
    intro l o roles n led leads
    refine lockStands_settleHead o ?_ (headKept_notice _ _ _ _).live leads
    rw [mergedNotice, (announced_notice _ _ _ _).incidents]
    exact roles n led.roles
  have mapped : ∀ n, HeadIs n s.incidents.list →
      HeadIs n (s.incidents.list.map fun i => if i.number = old.number then new else i) := by
    intro n roles j hj
    obtain ⟨i, hi, rfl⟩ := List.mem_map.1 hj
    split
    · rw [number, state]
      exact roles old listed
    · exact roles i hi
  refine (settled _ _ fun n roles j hj => mapped n roles j ?_).then (lockKept_handOn _ _ _)
  split at hj
  · exact mem_resort hj
  · exact hj

theorem mem_of_incidentAt {s : State} {o : Option Nat} {i : Incident} (h : o.bind (incidentAt s) = some i) :
    i ∈ s.incidents.list := by
  obtain ⟨k, _, held⟩ := Option.bind_eq_some_iff.1 h
  exact List.mem_of_getElem? held

/-! ## Candidates and events (R71 to R75) -/

theorem lockGuarded_promote (slot : Nat) (c : Candidate) (s : State) : LockGuarded s (promote slot c s) := by
  unfold promote
  simp only []
  split
  · rename_i i near
    exact (lockGuarded_mergeRecord .candidate (mem_of_incidentAt near) (mergedCandidate_role _ _ i)).after rfl rfl
  · exact (lockGuarded_listIncident _ (setCandidate slot none s)).after rfl rfl

theorem lockGuarded_testCandidate (slot : Nat) (s : State) : LockGuarded s (testCandidate slot s) := by
  unfold testCandidate
  split
  · exact .refl s
  · rename_i c _
    split
    · exact rel_ite (lockGuarded_promote slot c s) (.refl s)
    · exact .refl s
    · let d : Candidate := { c with confirmedAt := some s.clock }
      have list : (confirmedNotice slot d (setCandidate slot (some d) s)).incidents.list = s.incidents.list := by
        rw [confirmedNotice, (announced_notice _ _ _ _).incidents]
        rfl
      have live : (confirmedNotice slot d (setCandidate slot (some d) s)).live = s.live :=
        (headKept_notice _ _ _ _).live
      exact rel_ite ((lockGuarded_promote slot d _).after list live) ((LockGuarded.refl _).after list live)

theorem lockGuarded_openCandidate (slot : Nat) (e : Detection) (s : State) :
    LockGuarded s (openCandidate slot e s) := by
  refine (lockGuarded_testCandidate slot _).after ?_ (headKept_notice _ _ _ _).live
  rw [openedNotice, (announced_notice _ _ _ _).incidents]
  rfl

/-- R71 to R75: a detector event. -/
theorem lockGuarded_takeEvent (e : Detection) (s : State) : LockGuarded s (takeEvent e s) := by
  unfold takeEvent
  split
  · rename_i i near
    exact rel_ite (.refl s) (lockGuarded_mergeRecord .event (mem_of_incidentAt near) (corroborated_role _ e i))
  · split
    · split
      · exact .refl s
      · exact (lockGuarded_testCandidate _ _).after rfl rfl
    · split
      · exact lockGuarded_openCandidate _ e s
      · have told := announced_discard 0 .tableFull (oldestCandidate s) s
        refine (lockGuarded_openCandidate _ e _).after ?_ (headKept_relayed told.relayed.rest).live
        rw [told.incidents]
        rfl

/-! ## Declarations and clears (R78 to R80, R91 to R93) -/

theorem lockGuarded_declare (q : Nat) (d : Declaration) (s : State) : LockGuarded s (declare q d s) := by
  have rejected : ∀ c, LockGuarded s (rejectDeclare c q s) := fun c => (headKept_notice _ _ _ s).guarded
  unfold declare
  extract_lets badZone
  refine rel_ite (rejected 1) ?_
  split
  · exact rejected 0
  · split
    · rename_i i near
      exact (lockGuarded_mergeRecord .declaration (mem_of_incidentAt near) (mergedDeclaration_role _ d _ i)).then
        (headKept_absorb _ _ _).lockKept
    · exact lockGuarded_listIncident _ s

theorem list_clearAll (s : State) : (clearAll s).incidents.list = [] :=
  (listEmptied_leaves _ (by rw [(announced_removeAll _ s rfl).incidents]; rfl)).list

/-- R91: a clear leaves the head where another incident is removed. -/
theorem lockGuarded_clearOne (number : Nat) (s : State) : LockGuarded s (clearOne number s) := by
  intro n led
  unfold clearOne
  simp only []
  generalize hl : (s.incidents.list.filter fun i => decide (i.number ≠ number)) = rest
  have told := announced_notice 0x0A number [byte rest.length] (s.setIncidents { s.incidents with list := rest })
  split
  · rename_i empty
    refine fun leads => LockGuarded.of_empty (listEmptied_leaves _ ?_).list n led leads
    rw [clearedNotice, told.incidents]
    exact List.isEmpty_iff.1 empty
  · refine lockStands_settleHead _ ?_ (headKept_notice _ _ _ _).live
    rw [clearedNotice, told.incidents]
    exact fun j hj => led.roles j (List.mem_of_mem_filter (hl ▸ hj))

theorem lockGuarded_clearIncident (n : Nat) (s : State) : LockGuarded s (clearIncident n s) := by
  have rejected : ∀ k, LockGuarded s (clearRejected k s) := fun k => (headKept_notice _ _ _ s).guarded
  exact rel_ite (rel_ite (.of_empty (list_clearAll s)) (rejected 0)) (rel_ite (lockGuarded_clearOne n s) (rejected n))

end Sys2Proof.Machine
end

section
/-!
The direction lock (R110, R116) across every command and every step.
-/

namespace Sys2Proof.Machine

open Sys2Proof

/-! ## Ring IN and ring OUT -/

/-- What changes neither list nor live scenario. -/
theorem lockGuarded_of_same {s t : State} (list : t.incidents.list = s.incidents.list)
    (live : t.live = s.live) : LockGuarded s t := HeadKept.guarded ⟨by rw [list], live⟩

theorem headKept_count (s : State) (f : Counters → Counters) : HeadKept s (s.count f) := by
  unfold State.count
  exact rel_ite (.refl s) ⟨rfl, rfl⟩

/-- Whatever its mark or kind, a report offered leaves the head. -/
theorem headKept_offerReport (q : QFrame) (s : State) : HeadKept s (offerReport q s) := by
  by_cases room : insertCount s.port < Config.insertCapacity
  · rw [offerReport_of_room q room]
    exact HeadKept.trans ⟨rfl, rfl⟩ (headKept_relayed (serve_leaves _))
  · rw [offerReport_of_full q room]
    exact headKept_relayed (dropReport_rest q s)

theorem headKept_observe (f : Frame) (s : State) : HeadKept s (observe f s) := by
  unfold observe
  split
  · exact headKept_count s _
  · split
    · exact headKept_count s _
    · split
      · split
        · exact headKept_count s _
        · exact ⟨rfl, rfl⟩
      · exact .refl s

theorem headKept_useOrCount (f : Frame) (s : State) : HeadKept s (useOrCount f s) :=
  rel_ite (.refl s) (rel_ite (headKept_count s _) (rel_ite (headKept_observe f s) (.refl s)))

theorem headKept_dispatchRequest (f : Frame) (l : Lookup) (s : State) : HeadKept s (dispatchRequest f l s) :=
  rel_ite (HeadKept.trans (headKept_count s _) ⟨rfl, rfl⟩) ⟨rfl, rfl⟩

theorem headKept_dispatchCentre (f : Frame) (s : State) : HeadKept s (dispatchCentre f s) := by
  unfold dispatchCentre
  split
  · split
    · exact headKept_count s _
    · exact ⟨rfl, rfl⟩
  · exact headKept_count s _

theorem headKept_consume (f : Frame) (s : State) : HeadKept s (consume f s) :=
  rel_ite (.refl s) <| rel_ite (rel_ite (headKept_dispatchRequest f _ s) (.refl s)) <|
    rel_ite (headKept_dispatchRequest f _ s) <| rel_ite (headKept_dispatchCentre f s) (headKept_useOrCount f s)

theorem headKept_restoredNotice (restored : Bool) (s : State) : HeadKept s (restoredNotice restored s) :=
  rel_ite (headKept_headNotice _ _ s) (.refl s)

theorem headKept_forwardFrame (restored : Bool) (bs : List Byte) (s : State) :
    HeadKept s (forwardFrame restored bs s) := headKept_relayed (relayed_forwardFrame restored bs s).rest

theorem headKept_route (restored : Bool) (bytes : List Byte) (s : State) : HeadKept s (route restored bytes s) := by
  have noticed := headKept_restoredNotice restored s
  refine rel_ite noticed (rel_ite (noticed.trans (headKept_consume _ _)) ?_)
  exact rel_ite (headKept_forwardFrame _ _ s) <| rel_ite (noticed.trans (headKept_interception _))
    ((headKept_useOrCount _ s).trans (headKept_forwardFrame _ _ _))

theorem headKept_receive (bytes : List Byte) (s : State) : HeadKept s (receive bytes s) :=
  rel_ite (headKept_count s _)
    ((headKept_count s _).trans <| HeadKept.trans (t := restartSilence (countGood s)) ⟨rfl, rfl⟩ (headKept_route _ _ _))

theorem headKept_endTransmission (s : State) : HeadKept s (endTransmission s) := by
  unfold endTransmission
  split
  · exact .refl s
  · exact rel_ite ⟨rfl, rfl⟩ (HeadKept.trans ⟨rfl, rfl⟩ (headKept_relayed (serve_leaves _)))

theorem headKept_raiseSilent (s : State) : HeadKept s (raiseSilent s) :=
  HeadKept.trans (t := s.setPort { s.port with inSilent := true, silentFor := 0 }) ⟨rfl, rfl⟩
    (rel_ite (.refl _) (headKept_headNotice _ _ _))

theorem headKept_readTestCounters (source sequence : Nat) (s : State) :
    HeadKept s (readTestCounters source sequence s) :=
  HeadKept.trans (t := s.testCount LoopTest.cleared) ⟨rfl, rfl⟩ (headKept_offerReport _ _)

theorem headKept_frameIn (bytes : List Byte) (s : State) : HeadKept s (frameIn bytes s) := by
  refine rel_ite (.refl s) (rel_ite (rel_ite ⟨rfl, rfl⟩ ?_) (headKept_receive bytes s))
  refine HeadKept.trans (t := restartSilence s) ⟨rfl, rfl⟩ ?_
  exact rel_ite (rel_ite ⟨rfl, rfl⟩ ⟨rfl, rfl⟩) (rel_ite (headKept_readTestCounters _ _ _) (.refl _))

/-! ## Resets and the end of a step -/

theorem headKept_offerTestFrame (s : State) : HeadKept s (offerTestFrame s) := by
  obtain ⟨keys, live⟩ := headKept_relayed
    (offerCommand_rest ⟨strappedAddr s.chip.strap, kindTest, testPayload s.test.number, false⟩ s)
  exact ⟨keys, live⟩

/-- R96: a reset empties the incident list. -/
theorem list_endReset (addr : BitVec 6) (test : Bool) (s : State) : (endReset addr test s).incidents.list = [] := by
  cases test
  · rfl
  · exact List.map_eq_nil_iff.1 (headKept_offerTestFrame _).keys

theorem lockGuarded_settle {s t : State} (h : LockGuarded s t) : LockGuarded s (settle t) := by
  have settled : settle t = if t.chip.softResetDue = true
      then (softResetNow t).setOuts (outputsOf (softResetNow t)) else t.setOuts (outputsOf t) := by
    unfold settle
    split <;> rfl
  rw [settled]
  exact rel_ite (.of_empty (list_endReset _ _ t)) h

/-- An outcome answers no state in which the head has lost its lock. -/
def AnswersGuarded (s : State) (o : Host.Outcome State Fault Refusal) : Prop := ∀ t, o = .next t → LockGuarded s t

theorem answersGuarded_finish {s t : State} (h : LockGuarded s t) : AnswersGuarded s (finish t) := by
  rintro u ⟨⟩
  exact lockGuarded_settle h

/-- A timed event that takes effect when it is due. -/
theorem answersGuarded_due {s t : State} {c : Prop} [Decidable c] (h : LockGuarded s t) :
    AnswersGuarded s (finish (if c then t else s)) := answersGuarded_finish (rel_ite h (.refl s))

/-- A command in service, struck from the dispatched frames. -/
theorem answersGuarded_taken {s u : State} {p : Prop} [Decidable p] (c : Instr) (h : LockGuarded (took c s) u) :
    AnswersGuarded s (finish (if p then u else took c s)) :=
  answersGuarded_finish ((rel_ite h (.refl _)).after rfl rfl)

/-! ## Samples and trains -/

theorem lockGuarded_raise (e : Option Detection) (s : State) : LockGuarded s (raise e s) := by
  cases e
  · exact .refl s
  · exact lockGuarded_takeEvent _ s

theorem lockGuarded_takeTrain (p : TrainReport) (injected : Bool) (s : State) :
    LockGuarded s (takeTrain p injected s) := by
  have taken : ∀ t, LockGuarded t (if reportRaises s p = true
      then takeEvent (fireEvent s.tables s.params.L (trainOf p s.clock injected)) t else t) := fun t =>
    rel_ite (lockGuarded_takeEvent _ t) (.refl t)
  exact ((taken _).then (lockKept_tableChanged _)).after rfl rfl

theorem lockKept_takeDeparture (id : Nat) (s : State) : LockKept s (takeDeparture id s) := by
  unfold takeDeparture
  split
  · exact .refl s
  · rename_i k _
    exact LockKept.trans (t := setTrain k none s) ⟨rfl, .refl _⟩ (lockKept_tableChanged _)

theorem lockGuarded_takeTrainReport (p : TrainReport) (injected : Bool) (s : State) :
    LockGuarded s (takeTrainReport p injected s) :=
  rel_ite (lockKept_takeDeparture _ s).guarded (lockGuarded_takeTrain p injected s)

theorem lockKept_lengthChanged (before : Nat) (s : State) : LockKept s (lengthChanged before s) := by
  have removed : ∀ l, LockKept s (tableChanged (s.setTrains l)) := fun l =>
    LockKept.trans (t := s.setTrains l) ⟨rfl, .refl _⟩ (lockKept_tableChanged _)
  exact rel_ite (.refl s) (rel_ite (.refl s) (removed _))

/-! ## Tables and stored image -/

theorem headKept_updateOwnAddr (s : State) : HeadKept s (updateOwnAddr s) := rel_ite (.refl s) ⟨rfl, rfl⟩

theorem headKept_setLoaded (found : ImageFound) (s : State) : HeadKept s (setLoaded found s).1 := by
  cases found <;> exact ⟨rfl, rfl⟩

theorem lockKept_endStartUpLoad (s : State) : LockKept s (endStartUpLoad s) := by
  have loaded := (headKept_setLoaded (imageFound s.eeprom) s).lockKept.trans (lockKept_lengthChanged s.params.L _)
  have told : ∀ bads l c v x b u, HeadKept u (tableNotices bads l (tableNotice c v x b u)) := fun bads l c v x b u =>
    headKept_relayed ((announced_tableNotice c v x b u).trans (announced_tableNotices bads l _)).relayed.rest
  exact loaded.trans
    (((told _ _ _ _ _ _ _).trans (headKept_leaveStarting _)).trans (headKept_updateOwnAddr _)).lockKept

theorem headKept_endStore (failed : Bool) (s : State) : HeadKept s (endStore failed s) := by
  obtain ⟨keys, live⟩ := headKept_headNotice 0x16
    ([byte 0, byte (validityCode (if failed = true then .invalid else .valid)), byte causeStore] ++ be16 0)
    (s.setTables { s.tables with
      store := .idle
      imageFault := failed
      port := { s.tables.port with mode := .idle } })
  exact ⟨keys, live⟩

theorem answersGuarded_makeWrite {s t : State} (polled : List Transfer) (w : StoreWrite) (h : HeadKept s t) :
    AnswersGuarded s (makeWrite polled w t) := by
  unfold makeWrite
  dsimp only
  split
  · exact answersGuarded_finish (HeadKept.trans h ⟨rfl, rfl⟩).guarded
  · rintro u ⟨⟩

/-! ## Requests -/

theorem headKept_answerData (code : Nat) (r : Request) (st : Status) (data : List Byte) (s : State) :
    HeadKept s (answerData code r st data s) := headKept_relayed (relayed_respond _ _ _ _ _ _ s).rest

theorem headKept_answer (code : Nat) (r : Request) (st : Status) (s : State) : HeadKept s (answer code r st s) :=
  headKept_answerData code r st [] s

theorem answered_guarded (code : Nat) (r : Request) (st : Status) (s : State) : LockGuarded s (answer code r st s) :=
  (headKept_answer code r st s).guarded

theorem lockGuarded_checked {rule : State → State} (code : Nat) (r : Request) (form : Bool)
    (h : ∀ s, LockGuarded s (rule s)) (s : State) : LockGuarded s (checked code r form rule s) :=
  rel_ite (answered_guarded _ _ _ s) (rel_ite (answered_guarded _ _ _ s) (h s))

theorem lockGuarded_checkedTable {rule : TableId → State → State} (code : Nat) (r : Request) (form : Bool)
    (h : ∀ id s, LockGuarded s (rule id s)) (s : State) : LockGuarded s (checkedTable code r form rule s) := by
  unfold checkedTable
  split
  · exact lockGuarded_checked code r false (fun s => .refl s) s
  · exact lockGuarded_checked code r form (h _) s

theorem answersGuarded_request {rule : State → State} (c : Instr) (h : ∀ s, LockGuarded s (rule s)) (s : State) :
    AnswersGuarded s (finish (takeRequest c rule s)) :=
  answersGuarded_taken c (h _)

theorem headKept_handOpen (id : TableId) (s : State) : HeadKept s (handOpen id s) := by
  have opened : HeadKept s (if id.isGeometry = true then emptyCandidates (geometryOpened s) else s) :=
    rel_ite ((headKept_geometryOpened s).trans (headKept_emptyCandidates _)) (.refl s)
  cases id
  case global => exact opened.trans (headKept_updateOwnAddr _)
  case stations => exact opened.trans ⟨rfl, rfl⟩
  case fans => exact opened.trans ⟨rfl, rfl⟩
  all_goals exact opened

theorem lockGuarded_openLoad (r : Request) (id : TableId) (s : State) : LockGuarded s (openLoad r id s) := by
  refine rel_ite (answered_guarded _ _ _ s) (rel_ite (answered_guarded _ _ _ s) (HeadKept.guarded ?_))
  exact HeadKept.trans (t := setTable id (openedTable id) s) ⟨rfl, rfl⟩ <|
    (headKept_answer 1 r .done _).trans <| (headKept_headNotice _ _ _).trans (headKept_handOpen id _)

theorem lockGuarded_writeRecord (r : Request) (id : TableId) (s : State) : LockGuarded s (writeRecord r id s) :=
  rel_ite (answered_guarded _ _ _ s) <| rel_ite (answered_guarded _ _ _ s) <| rel_ite (answered_guarded _ _ _ s) <|
    (answered_guarded 2 r .done _).after rfl rfl

theorem lockKept_handClose (id : TableId) (before : Nat) (passed : Bool) (s : State) :
    LockKept s (handClose id before passed s) :=
  ((headKept_updateOwnAddr s).lockKept.trans (lockKept_lengthChanged before _)).trans <|
    rel_ite ((headKept_geometryClosed _).lockKept.trans (lockKept_geometryLookup _)) <|
      rel_ite (lockKept_scenarioSetValid _) (.refl _)

theorem lockGuarded_closeLoad (r : Request) (id : TableId) (s : State) : LockGuarded s (closeLoad r id s) := by
  refine rel_ite (answered_guarded _ _ _ s) ?_
  dsimp only
  have closed : ∀ st i v b k p, LockKept s (handClose id s.params.L p (tableNotice r.table v causeClose b
      (respond r 3 st r.table i [] (s.setTables k)))) := fun st i v b k p =>
    LockKept.trans (t := s.setTables k) ⟨rfl, .refl _⟩ <|
      (headKept_relayed (relayed_respond r 3 st r.table i [] _).rest).lockKept.trans <|
        (headKept_headNotice _ _ _).lockKept.trans (lockKept_handClose _ _ _ _)
  split
  all_goals exact (closed _ _ _ _ _ _).guarded

theorem lockGuarded_readRecord (r : Request) (id : TableId) (s : State) : LockGuarded s (readRecord r id s) :=
  rel_ite (answered_guarded _ _ _ s) (headKept_answerData _ _ _ _ s).guarded

theorem lockGuarded_readState (r : Request) (s : State) : LockGuarded s (readState r s) := by
  unfold readState
  split
  · exact answered_guarded _ _ _ s
  · exact (headKept_answerData _ _ _ _ s).guarded

theorem lockGuarded_readFan (r : Request) (s : State) : LockGuarded s (readFan r s) :=
  rel_ite (answered_guarded _ _ _ s) (headKept_answerData _ _ _ _ s).guarded

theorem lockGuarded_readCounters (r : Request) (s : State) : LockGuarded s (readCounters r s) :=
  LockGuarded.after (t := clearCounters s) (headKept_answerData _ _ _ _ _).guarded rfl rfl

theorem lockGuarded_setTestMode (r : Request) (s : State) : LockGuarded s (setTestMode r s) := by
  unfold setTestMode
  split
  · exact LockGuarded.then (rel_ite (.of_empty (endDryRun_leaves s).list) (.refl s)) (headKept_answer _ _ _ _).lockKept
  · exact rel_ite (answered_guarded _ _ _ s) ((answered_guarded 9 r .done (setDryRun true s)).after rfl rfl)
  · exact answered_guarded _ _ _ s

theorem lockGuarded_takeInjected (c : Instr) (s : State) : LockGuarded s (takeInjected c s) := by
  unfold takeInjected
  split
  · exact lockGuarded_of_same rfl rfl
  · exact (lockGuarded_raise _ _).after rfl rfl
  · exact (lockGuarded_raise _ _).after rfl rfl
  · exact (lockGuarded_raise _ _).after rfl rfl
  · exact .refl s

theorem lockGuarded_inject (r : Request) (s : State) : LockGuarded s (inject r s) := by
  have answers : ∀ {t} d, LockGuarded s t → LockGuarded s (answerData 10 r .done d t) := fun d h =>
    h.then (headKept_answerData _ _ _ _ _).lockKept
  have sample : ∀ kind c, LockGuarded s (injectSample r kind c s) := fun kind c =>
    rel_ite (answered_guarded _ _ _ s) <| rel_ite (answered_guarded _ _ _ s) (answers _ (lockGuarded_takeInjected c s))
  have train : ∀ p, LockGuarded s (injectTrain r p s) := fun p => by
    refine rel_ite ?_ (answers _ (lockGuarded_takeTrain p true s))
    split
    · exact answers _ (lockKept_takeDeparture p.id s).guarded
    · exact answered_guarded _ _ _ s
  have status : ∀ st, LockGuarded s (injectStatus r st s) := fun st =>
    rel_ite (answered_guarded _ _ _ s) (answers _ (headKept_takeStatus r.index st true s).guarded)
  refine rel_ite (answered_guarded _ _ _ s) ?_
  dsimp only
  split
  · exact train _
  · exact status _
  · exact sample _ _
  · exact answered_guarded _ _ _ s

theorem lockGuarded_softReset (r : Request) (s : State) : LockGuarded s (softReset r s) :=
  rel_ite (answered_guarded _ _ _ s) (headKept_offerReport _ s).guarded

/-! ## Every command -/

theorem answersGuarded_storeTables (r : Request) (s : State) : AnswersGuarded s (execStoreTables r s) := by
  unfold execStoreTables
  dsimp only
  split
  · exact answersGuarded_makeWrite _ _
      (HeadKept.trans (t := took (.storeTables r) s) ⟨rfl, rfl⟩ (headKept_answer 8 r .done _))
  · exact answersGuarded_request _ (lockGuarded_checked 8 r true fun s => answered_guarded _ _ _ s) s

theorem answersGuarded_storeWriteReady (s : State) : AnswersGuarded s (execStoreWriteReady s) := by
  unfold execStoreWriteReady
  split
  · exact answersGuarded_finish (.refl s)
  · dsimp only
    split
    · exact answersGuarded_finish (lockGuarded_of_same rfl rfl)
    · split
      · exact answersGuarded_makeWrite _ _ ⟨rfl, rfl⟩
      · exact answersGuarded_finish ((headKept_endStore false _).guarded.after rfl rfl)

theorem answersGuarded_storeWriteTimeout (s : State) : AnswersGuarded s (execStoreWriteTimeout s) := by
  unfold execStoreWriteTimeout
  split
  · exact answersGuarded_finish (.refl s)
  · exact answersGuarded_due ((headKept_endStore true _).guarded.after rfl rfl)

/-- R116: every command leaves a locked head on its direction. -/
theorem exec_answersGuarded (c : Instr) (s : State) : AnswersGuarded s (exec c s) := by
  have event : ∀ f (body : State → State × Bool), HeadKept s (body s).1 → LockGuarded s (fanEvent f body s) :=
    fun f body own => (headKept_steps.fanEvent f body s own).guarded
  cases c with
  | powerOnReset loop addr => exact answersGuarded_finish (.of_empty (list_endReset _ _ s))
  | resetN => exact answersGuarded_finish (.of_empty rfl)
  | resetNRelease addr => exact answersGuarded_due (.of_empty (list_endReset _ _ s))
  | frameReceived bytes => exact answersGuarded_finish (headKept_frameIn bytes s).guarded
  | transmissionEnd => exact answersGuarded_finish (headKept_endTransmission s).guarded
  | inSilentRaised => exact answersGuarded_due (headKept_raiseSilent s).guarded
  | stripAddressExpiry => exact answersGuarded_due (lockGuarded_of_same rfl rfl)
  | velocitySample i v q => exact answersGuarded_taken _ (lockGuarded_of_same rfl rfl)
  | opacitySample i e q => exact answersGuarded_taken _ ((lockGuarded_raise _ _).after rfl rfl)
  | temperatureSample i x q => exact answersGuarded_taken _ ((lockGuarded_raise _ _).after rfl rfl)
  | heatLineReport i l a => exact answersGuarded_taken _ ((lockGuarded_raise _ _).after rfl rfl)
  | trainReport p => exact answersGuarded_taken _ (lockGuarded_takeTrainReport p false _)
  | fanStatus f st =>
    exact answersGuarded_taken _
      (rel_ite (headKept_dryReport f st _).guarded (headKept_takeStatus f st false _).guarded)
  | incidentDeclare q d => exact answersGuarded_taken _ (lockGuarded_declare q d _)
  | incidentClear n => exact answersGuarded_taken _ (lockGuarded_clearIncident n _)
  | authorityRelease n => exact answersGuarded_taken _ (headKept_releaseAuthority n _).guarded
  | authorityResume => exact answersGuarded_taken _ (headKept_resumeAuthority _).guarded
  | openLoad r => exact answersGuarded_request _ (lockGuarded_checkedTable 1 r true (lockGuarded_openLoad r)) s
  | writeRecord r => exact answersGuarded_request _ (lockGuarded_checkedTable 2 r true (lockGuarded_writeRecord r)) s
  | closeLoad r => exact answersGuarded_request _ (lockGuarded_checkedTable 3 r _ (lockGuarded_closeLoad r)) s
  | readRecord r => exact answersGuarded_request _ (lockGuarded_checkedTable 4 r true (lockGuarded_readRecord r)) s
  | readState r => exact answersGuarded_request _ (lockGuarded_checked 5 r true (lockGuarded_readState r)) s
  | readFan r => exact answersGuarded_request _ (lockGuarded_checked 6 r true (lockGuarded_readFan r)) s
  | readCounters r => exact answersGuarded_request _ (lockGuarded_checked 7 r true (lockGuarded_readCounters r)) s
  | storeTables r => exact answersGuarded_storeTables r s
  | setTestMode r => exact answersGuarded_request _ (lockGuarded_checked 9 r _ (lockGuarded_setTestMode r)) s
  | inject r => exact answersGuarded_request _ (lockGuarded_checked 10 r _ (lockGuarded_inject r)) s
  | softReset r => exact answersGuarded_request _ (lockGuarded_checked 11 r true (lockGuarded_softReset r)) s
  | candidateDeadline k =>
    exact answersGuarded_due <| LockGuarded.after (t := setCandidate k none s)
      (headKept_relayed (announced_discard 0 .expired k s).relayed.rest).guarded rfl rfl
  | phaseTimerExpiry =>
    exact answersGuarded_due <| HeadKept.guarded <| HeadKept.trans (t := setPhaseTimer none s) ⟨rfl, rfl⟩ <|
      (headKept_setPhase .staging _).trans (headKept_announcePhase .staging _)
  | lockTimerExpiry n => exact answersGuarded_due (lockKept_lockExpires n s).guarded
  | trimTimerExpiry => exact answersGuarded_due ((headKept_trimStep _).guarded.after rfl rfl)
  | statusAgeUnknown f => exact answersGuarded_due (event f _ (headKept_ageUnknown f s))
  | ackDeadline f => exact answersGuarded_due (event f _ (headKept_ackPasses f s))
  | resendTime f => exact answersGuarded_due (headKept_resendNow f s).guarded
  | silenceResend => exact answersGuarded_due (headKept_silenceResendAll s).guarded
  | startSpacingExpiry => exact answersGuarded_due ((headKept_steps.startTests _).guarded.after rfl rfl)
  | dwellTimerExpiry f => exact answersGuarded_due (event f _ (headKept_dwellEnd f s))
  | startTimerExpiry f => exact answersGuarded_due (event f _ (headKept_steps.failedAttempt f s))
  | holdRefresh => exact answersGuarded_due (headKept_claimHold s).guarded
  | trainRecordExpiry k => exact answersGuarded_due ((lockKept_tableChanged _).guarded.after rfl rfl)
  | startUpLoadEnd answers => exact answersGuarded_due ((lockKept_endStartUpLoad _).guarded.after rfl rfl)
  | storeWriteReady => exact answersGuarded_storeWriteReady s
  | storeWriteTimeout => exact answersGuarded_storeWriteTimeout s
  | testFrameOffer => exact answersGuarded_due (headKept_offerTestFrame s).guarded
  | testFrameDeadline n => exact answersGuarded_due (lockGuarded_of_same rfl rfl)
  | testFrameReceived bytes => exact answersGuarded_finish (headKept_frameIn bytes s).guarded
  | testReadCounters a q => exact answersGuarded_due (headKept_readTestCounters a q s).guarded

/-! ## Every step -/

/-- R110: a millisecond moves the lock timer, not the lock. -/
theorem lockKept_tick (s : State) : LockKept s (tick s) := by
  refine rel_ite (.refl s) ⟨?_, fun l d live locked dir _ => ?_⟩
  · simp only [List.map_map]
    exact List.map_congr_left fun _ _ => rfl
  · exact ⟨{ l with lockTimer := countDown l.lockTimer }, congrArg (Option.map _) live, dir, locked, rfl,
      fun _ _ => rfl⟩

theorem lockGuarded_idle (s : State) : LockGuarded s (idle s) := by
  unfold idle
  split
  · rename_i d rest _
    unfold takeDispatch
    split
    · exact lockGuarded_of_same rfl rfl
    · refine lockGuarded_settle (LockGuarded.after (t := s.setDispatched rest) ?_ rfl rfl)
      exact rel_ite (lockGuarded_checked _ _ false (fun s => .refl s) _) (.refl _)
  · exact lockGuarded_of_same rfl rfl
  · exact (lockKept_tick s).guarded

theorem step_lockGuarded {s t : State} (h : step s = .next t) : LockGuarded s t := by
  unfold step at h
  split at h
  · cases h
    exact lockGuarded_idle s
  · exact (exec_answersGuarded _ _ t h).after rfl rfl

/-- Settles O11: an ordered list is led by its first incident, and every step guards the lock of the one that leads. -/
theorem lockedHeadKeepsItsDirection : Obligations.LockedHeadKeepsItsDirection := by
  intro s t i j rest rest' l d ordered listed live locked dir held stepped listed' same
  have led : LedBy i.number s.incidents.list := listed ▸ ledBy_of_listInOrder (listed ▸ ordered)
  have leads : leader t = some i.number := by simp [leader, listed', same]
  exact step_lockGuarded stepped i.number led leads l d live locked dir held

end Sys2Proof.Machine
end

section
/-!
The lock timer of the head and of a suspended incident (R110).
-/

namespace Sys2Proof.Machine

open Sys2Proof

/-- R82: of incidents whose numbers differ one is found by its number. -/
theorem find?_number {l : List Incident} {i : Incident} (differ : numbersDiffer l = true) (listed : i ∈ l) :
    (l.find? fun j => decide (j.number = i.number)) = some i := by
  induction l with
  | nil => cases listed
  | cons j rest ih =>
    simp only [numbersDiffer, Bool.and_eq_true, List.all_eq_true, decide_eq_true_eq] at differ
    obtain ⟨others, differ⟩ := differ
    rcases List.mem_cons.1 listed with rfl | later
    · exact List.find?_cons_of_pos (decide_eq_true rfl)
    · rw [List.find?_cons_of_neg (by simpa using (others i later).symm)]
      exact ih differ later

/-- R82: an incident is told by its number. -/
theorem eq_of_number {l : List Incident} {i j : Incident} (differ : numbersDiffer l = true) (listed : i ∈ l)
    (listed' : j ∈ l) (same : j.number = i.number) : j = i := by
  have found := find?_number differ listed'
  rw [same] at found
  exact Option.some.inj (found.symm.trans (find?_number differ listed))

theorem exec_lockTimerExpiry {n : Nat} {s : State} (still : quiet s = true) (due : lockDue n s = true) :
    exec (.lockTimerExpiry n) s = .next (ended (lockExpires n s)) := by
  have run : exec (.lockTimerExpiry n) s = finish (lockExpires n s) := congrArg finish (if_pos due)
  rw [run]
  exact finish_ended_of_kept (kept_lockExpires n s) still

/-! ## The head -/

theorem lockDue_head {s : State} {i : Incident} {l : Live}
    (found : (s.incidents.list.find? fun j => decide (j.number = i.number)) = some i) (head : i.state = .head)
    (live : s.live = some l) (due : l.lockTimer = some 0) : lockDue i.number s = true := by
  simp [lockDue, found, head, live, due]

theorem lockExpires_head {s : State} {i : Incident} {l : Live}
    (found : (s.incidents.list.find? fun j => decide (j.number = i.number)) = some i) (head : i.state = .head)
    (live : s.live = some l) : lockExpires i.number s =
      when (decide (l.scenario ≠ .none)) (lockedNotice i.number (liveDirCode l))
        { s with live := some { l with locked := true, lockTimer := none } } := by
  simp only [lockExpires, found, head, live]
  rfl

/-! ## A suspended incident -/

theorem lockDue_suspended {s : State} {i : Incident} {p : SavedPlan}
    (found : (s.incidents.list.find? fun j => decide (j.number = i.number)) = some i) (suspended : i.state = .suspended)
    (saved : i.saved = some p) (due : p.lockTimer = some 0) : lockDue i.number s = true := by
  simp [lockDue, found, suspended, saved, due]

theorem lockExpires_suspended {s : State} {i : Incident} {p : SavedPlan}
    (differ : numbersDiffer s.incidents.list = true) (listed : i ∈ s.incidents.list)
    (suspended : i.state = .suspended) (saved : i.saved = some p) : lockExpires i.number s =
      when (decide (p.scenario ≠ .none)) (lockedNotice i.number ((p.dir.map dirCode).getD 0))
        { s with incidents := { s.incidents with list := s.incidents.list.map fun x => if x.number = i.number
          then { i with saved := some { p with locked := true, lockTimer := none } } else x } } := by
  have marked : (s.incidents.list.map fun j =>
        if j.number = i.number then { j with saved := j.saved.map lockSaved } else j) =
      s.incidents.list.map fun x => if x.number = i.number
        then { i with saved := some { p with locked := true, lockTimer := none } } else x := by
    refine List.map_congr_left fun j hj => ?_
    split
    · rename_i same
      rw [eq_of_number differ listed hj same, saved]
      rfl
    · rfl
  simp only [lockExpires, find?_number differ listed, suspended, saved, marked]
  rfl

/-- Settles O34: the incident is found by its number, and a notice is offered on a scenario alone. -/
theorem lockTimerSetsTheLock : Obligations.LockTimerSetsTheLock := by
  intro s i still listed differ c tell
  have found := find?_number differ listed
  refine ⟨fun l head live due => ?head, fun p suspended saved due => ?suspended⟩
  case head =>
    intro u
    have run := exec_lockTimerExpiry still (lockDue_head found head live due)
    rw [lockExpires_head found head live] at run
    refine ⟨fun d scenario dir => run.trans ?_, fun none => run.trans ?_⟩
    · have way : liveDirCode l = dirCode d := by rw [liveDirCode, dir]
      rw [decide_eq_true scenario, way]
      rfl
    · rw [decide_eq_false (not_not_intro none)]
      rfl
  case suspended =>
    intro j u
    have run := exec_lockTimerExpiry still (lockDue_suspended found suspended saved due)
    rw [lockExpires_suspended differ listed suspended saved] at run
    refine ⟨fun d scenario dir => run.trans ?_, fun none => run.trans ?_⟩
    · have way : (p.dir.map dirCode).getD 0 = dirCode d := by rw [dir]; rfl
      rw [decide_eq_true scenario, way]
      rfl
    · rw [decide_eq_false (not_not_intro none)]
      rfl

end Sys2Proof.Machine
end

section
/-!
The lookup of a scenario for the head (R104, R105), the fallback scenario and its list (R106, R107), and the
re-lookup of an unlocked head (R113, R114).
-/

namespace Sys2Proof.Machine

open Sys2Proof

/-! ## The checks of a lookup (R104, R105) -/

theorem lookupFailure_setNotValid {t : TableStore} (z c : Nat) (invalid : t.scenarioValid = false) :
    lookupFailure t z c = some .setNotValid := by
  simp [lookupFailure, invalid]

theorem lookupFailure_noEntry {t : TableStore} {z : Nat} (c : Nat) (valid : t.scenarioValid = true)
    (beyond : t.directory.count ≤ z) : lookupFailure t z c = some .noEntry := by
  simp [lookupFailure, valid, beyond]

/-- R105: a directory entry brings the checks on its record. -/
theorem lookupFailure_entry {t : TableStore} {z : Nat} (c : Nat) (valid : t.scenarioValid = true)
    (entry : z < t.directory.count) : lookupFailure t z c = checkRecord t (recordNumber t z c) := by
  simp [lookupFailure, valid, Nat.not_le.2 entry]

/-- R105: the checks on a record, in order, while the scenario set is VALID. -/
theorem checkRecord_cases {t : TableStore} (n : Nat) (valid : t.scenarioValid = true) :
    (t.scenarios.count ≤ n → checkRecord t n = some .outOfRange) ∧
    (n < t.scenarios.count → scenValid (t.scenarios.fields n) = false → checkRecord t n = some .recordInvalid) ∧
    (n < t.scenarios.count → scenValid (t.scenarios.fields n) = true →
      (∃ g ∈ scenGroups (t.scenarios.fields n), t.groups.count ≤ g) → checkRecord t n = some .badGroup) ∧
    (n < t.scenarios.count → scenValid (t.scenarios.fields n) = true →
      (∀ g ∈ scenGroups (t.scenarios.fields n), g < t.groups.count) → checkRecord t n = none) := by
  have bad : ((scenGroups (t.scenarios.fields n)).any fun g => decide (t.groups.count ≤ g)) = true ↔
      ∃ g ∈ scenGroups (t.scenarios.fields n), t.groups.count ≤ g := by simp
  unfold checkRecord
  refine ⟨fun beyond => ?_, fun below invalid => ?_, fun below record group => ?_, fun below record groups => ?_⟩
  · simp [valid, beyond]
  · simp [valid, Nat.not_le.2 below, invalid]
  · simp only [valid, Nat.not_le.2 below, record, bad.2 group, Bool.not_true, Bool.false_eq_true, if_false, if_true]
  · have good : ¬ ((scenGroups (t.scenarios.fields n)).any fun g => decide (t.groups.count ≤ g)) = true := by
      rw [bad]
      rintro ⟨g, listed, beyond⟩
      exact absurd (groups g listed) (Nat.not_lt.2 beyond)
    simp only [valid, Nat.not_le.2 below, record, good, Bool.not_true, Bool.false_eq_true, if_false]

/-- R104: the variant of a variant count of 1, 2 or 4. -/
theorem variantOf_eq {count c v : Nat} (h : (count = 1 ∧ v = 0) ∨ (count = 2 ∧ v = if c = 0 then 0 else 1) ∨
    (count = 4 ∧ v = c)) : variantOf count c = v := by
  rcases h with ⟨rfl, rfl⟩ | ⟨rfl, rfl⟩ | ⟨rfl, rfl⟩ <;> rfl

/-! ## What a lookup finds -/

theorem lookedUp_of_failure {s : State} {e : FallbackCause}
    (h : lookupFailure s.tables (zoneNow s) (classNow s) = some e) :
    lookedUp s = fallbackLive s (fallbackDir s) (some e) (some (zoneNow s, classNow s)) := by
  simp only [lookedUp, h]

theorem lookedUp_of_record {s : State} (h : lookupFailure s.tables (zoneNow s) (classNow s) = none) :
    lookedUp s =
      recordLive s.tables (recordNumber s.tables (zoneNow s) (classNow s)) (some (zoneNow s, classNow s)) := by
  simp only [lookedUp, h]

/-- R104: a lookup records the zone and class it was made under. -/
theorem lookedUp_under (s : State) : (lookedUp s).under = some (zoneNow s, classNow s) := by
  rcases h : lookupFailure s.tables (zoneNow s) (classNow s) with _ | e
  · rw [lookedUp_of_record h]
    rfl
  · rw [lookedUp_of_failure h]
    rfl

/-- R106: the direction of the incident train where the table holds it. -/
theorem fallbackDir_of_train {s : State} {n : Nat} {r : Train} (train : headTrain s = some n)
    (held : trainById s.trains n = some r) : fallbackDir s = r.dir := by
  simp [fallbackDir, train, held]

/-- R106: else the default direction. -/
theorem fallbackDir_default {s : State} (h : ∀ n, headTrain s = some n → trainById s.trains n = none) :
    fallbackDir s = s.params.defaultDir := by
  have none : (headTrain s).bind (trainById s.trains) = none := Option.bind_eq_none_iff.2 h
  simp [fallbackDir, none]

/-! ## The fallback list (R107) -/

/-- The order of the fallback list along a distance: upstream first, then by falling distance, equal ones by number. -/
def inFallbackOrder (w : Nat → Int) (a b : Nat) : Prop :=
  (w a < 0 ∧ 0 ≤ w b) ∨ ((w a < 0 ↔ w b < 0) ∧ (w b < w a ∨ (w a = w b ∧ a < b)))

theorem inFallbackOrder_of_byKey {w : Nat → Int} {a b : Nat} (side : w a < 0 ↔ w b < 0)
    (h : byKey (fun g => -w g) a b) : inFallbackOrder w a b := by
  refine .inr ⟨side, ?_⟩
  simp only [byKey] at h
  omega

/-- R107: each half is sorted, and the upstream half comes first. -/
theorem pairwise_fallbackOrder (w : Nat → Int) {l : List Nat} (rising : l.Pairwise (· < ·)) :
    (sortByKey (fun g => -w g) (l.filter fun g => decide (w g < 0)) ++
      sortByKey (fun g => -w g) (l.filter fun g => decide (0 ≤ w g))).Pairwise (inFallbackOrder w) := by
  have upstream : ∀ a ∈ sortByKey (fun g => -w g) (l.filter fun g => decide (w g < 0)), w a < 0 := fun a ha =>
    of_decide_eq_true (List.mem_filter.1 ((sortByKey_perm _ _).mem_iff.1 ha)).2
  have downstream : ∀ a ∈ sortByKey (fun g => -w g) (l.filter fun g => decide (0 ≤ w g)), 0 ≤ w a := fun a ha =>
    of_decide_eq_true (List.mem_filter.1 ((sortByKey_perm _ _).mem_iff.1 ha)).2
  refine List.pairwise_append.2 ⟨?_, ?_, fun a ha b hb => .inl ⟨upstream a ha, downstream b hb⟩⟩
  · exact (sortByKey_pairwise _ _ (rising.filter _)).imp_of_mem fun {a b} ha hb h =>
      inFallbackOrder_of_byKey (iff_of_true (upstream a ha) (upstream b hb)) h
  · exact (sortByKey_pairwise _ _ (rising.filter _)).imp_of_mem fun {a b} ha hb h =>
      inFallbackOrder_of_byKey (iff_of_false (not_lt.2 (downstream a ha)) (not_lt.2 (downstream b hb))) h

theorem fallbackGroups_perm (t : TableStore) (d : Dir) (x : Nat) :
    (fallbackGroups t d x).Perm (List.range t.groups.count) := by
  have complement : (fun g => decide (0 ≤ downstream d x (groupChainage t g))) =
      fun g => !decide (downstream d x (groupChainage t g) < 0) := by
    funext g
    rw [← decide_not, decide_eq_decide, not_lt]
  refine ((sortByKey_perm _ _).append (sortByKey_perm _ _)).trans ?_
  rw [complement]
  exact List.filter_append_perm _ _

theorem downstream_eq (d : Dir) (x g : Nat) :
    downstream d x g = (if d = .towardB then (1 : Int) else -1) * ((g : Int) - x) := by cases d <;> rfl

theorem fallbackGroups_pairwise (t : TableStore) (d : Dir) (x : Nat) :
    (fallbackGroups t d x).Pairwise
      (inFallbackOrder fun g => (if d = .towardB then (1 : Int) else -1) * ((groupChainage t g : Int) - x)) := by
  have sorted := pairwise_fallbackOrder (fun g => downstream d x (groupChainage t g)) (l := List.range t.groups.count)
    List.pairwise_lt_range
  simp only [downstream_eq] at sorted
  simpa only [fallbackGroups, downstream_eq] using sorted

/-! ## When a re-lookup is made (R113) -/

/-- R109, R113: what keeps a head from a re-lookup. -/
def barsRelookup (l : Live) (t : TableStore) : Prop :=
  l.locked = true ∨ l.scenario = .none ∨ t.geometryValid = false

theorem mayRelookup_iff {s : State} {l : Live} (live : s.live = some l) :
    mayRelookup s = true ↔ ¬ barsRelookup l s.tables := by
  simp only [mayRelookup, live, geometryValid, barsRelookup, Bool.and_eq_true, Bool.not_eq_true', decide_eq_true_eq,
    not_or, Bool.not_eq_true, Bool.not_eq_false, and_assoc]

theorem mayRelookup_headless {s : State} (h : s.live = none) : mayRelookup s = false := by
  simp [mayRelookup, h]

theorem classMoved_iff {s : State} {l : Live} (live : s.live = some l) :
    classMoved s = true ↔ ∃ u, l.under = some u ∧ u.2 ≠ classNow s := by
  rcases under : l.under with _ | u <;> simp [classMoved, live, under]

theorem zoneMoved_iff {s : State} {l : Live} (live : s.live = some l) :
    zoneMoved s = true ↔ ∃ u, l.under = some u ∧ u.1 ≠ zoneNow s := by
  rcases under : l.under with _ | u <;> simp [zoneMoved, live, under]

/-- R113: under the zone and class it was chosen under, the head brings no re-lookup. -/
theorem classMoved_stands {s : State} {l : Live} (live : s.live = some l)
    (same : ∀ u, l.under = some u → u.2 = classNow s) : classMoved s = false := by
  rw [Bool.eq_false_iff, ne_eq, classMoved_iff live]
  rintro ⟨u, under, moved⟩
  exact moved (same u under)

theorem zoneMoved_stands {s : State} {l : Live} (live : s.live = some l)
    (same : ∀ u, l.under = some u → u.1 = zoneNow s) : zoneMoved s = false := by
  rw [Bool.eq_false_iff, ne_eq, zoneMoved_iff live]
  rintro ⟨u, under, moved⟩
  exact moved (same u under)

/-- R107: a record keeps its own list. -/
theorem rebuildFallback_record {s : State} {l : Live} {m : Nat} (live : s.live = some l)
    (record : l.scenario = .record m) : rebuildFallback s = s := by
  simp [rebuildFallback, live, record]

/-! ## What a re-lookup does (R114) -/

theorem relookup_same_record {s : State} {l : Live} {m : Nat} (live : s.live = some l) (record : l.scenario = .record m)
    (found : (lookedUp s).scenario = .record m) :
    relookup s = { s with live := some { l with under := some (zoneNow s, classNow s) } } := by
  simp only [relookup, live, found, record, if_true, lookedUp_under]
  rfl

theorem relookup_same_fallback {s : State} {l : Live} {d : Dir} (live : s.live = some l)
    (fallback : l.scenario = .fallback) (found : (lookedUp s).scenario = .fallback) (dir : l.dir = some d) :
    let groups := fallbackGroups s.tables d (headChainage s)
    let u : State := { s with live := some { l with
      cause := (lookedUp s).cause
      under := some (zoneNow s, classNow s)
      groups := groups } }
    relookup s = if groups = l.groups then u else freshRevision u := by
  simp only [relookup, live, found, fallback, dir, if_true, lookedUp_under]
  rfl

/-- R95, R114: another scenario, with its SCENARIO notice in the words of the statements. -/
theorem relookup_other {s : State} {l : Live} (live : s.live = some l) (other : l.scenario ≠ (lookedUp s).scenario) :
    relookup s = freshRevision (computeOpenLoop (offerReport
      (report (noticeDest s) 0x49 ([0x0E, byte (headNumber s),
        (match (lookedUp s).scenario with | .record m => byte m | _ => 255),
        (match (lookedUp s).dir with | some .towardB => 1 | _ => 0)] ++ be16 (lookedUp s).vt))
      { s with live := some { lookedUp s with locked := l.locked, lockTimer := l.lockTimer } })) := by
  have scenario : byte (scenarioCode (lookedUp s).scenario) =
      match (lookedUp s).scenario with | .record m => byte m | _ => (255 : Byte) := by
    rcases found : (lookedUp s).scenario with m | _ | _
    · rfl
    · rfl
    · exact absurd found (lookedUp_scenario s)
  have way : byte (liveDirCode (lookedUp s)) = match (lookedUp s).dir with | some .towardB => (1 : Byte) | _ => 0 := by
    unfold liveDirCode
    rcases (lookedUp s).dir with _ | d
    · rfl
    · cases d <;> rfl
  rw [← scenario, ← way]
  simp only [relookup, live, if_neg other.symm]
  rfl

/-! ## The statement -/

/-- R106: a failed lookup, in the words of the statement. -/
theorem fallback_of_failure {s : State} {e : FallbackCause}
    (h : lookupFailure s.tables (zoneNow s) (classNow s) = some e) :
    ∃ d, lookedUp s = fallbackLive s d (some e) (some (zoneNow s, classNow s)) ∧
      (∀ n r, headTrain s = some n → trainById s.trains n = some r → d = r.dir) ∧
      ((∀ n, headTrain s = some n → trainById s.trains n = none) → d = s.params.defaultDir) :=
  ⟨fallbackDir s, lookedUp_of_failure h, fun _ _ => fallbackDir_of_train, fallbackDir_default⟩

/-- R113: where nothing brings a re-lookup the events leave the head. -/
theorem noRelookup {s : State} (h : mayRelookup s = false) : tableChanged s = s ∧ scenarioSetValid s = s := by
  simp [tableChanged, scenarioSetValid, h]

/-- R88, R113: on a record, a chainage that brings no re-lookup brings the walk under hysteresis alone. -/
theorem chainageChanged_record {s : State} {l : Live} {m : Nat} (live : s.live = some l)
    (record : l.scenario = .record m) (h : mayRelookup s = false ∨ (zoneMoved s = false ∧ classMoved s = false)) :
    chainageChanged s = hysteresisRevision s := by
  have still : (mayRelookup s && (zoneMoved s || classMoved s)) = false := by
    rcases h with barred | ⟨zone, cls⟩
    · rw [barred, Bool.false_and]
    · rw [zone, cls, Bool.or_false, Bool.and_false]
  rw [chainageChanged, still, if_neg Bool.false_ne_true, rebuildFallback_record live record]

/-- Settles O35: the checks of a lookup by `checkRecord_cases`, the list by `fallbackGroups_pairwise`,
and each re-lookup by its outcome. -/
theorem lookupFindsTheVariantOrFallsBack : Obligations.LookupFindsTheVariantOrFallsBack := by
  intro s t z k falls
  have failed : ∀ e, lookupFailure t z k = some e → falls e := fun e h => fallback_of_failure h
  refine ⟨fun invalid => failed _ (lookupFailure_setNotValid z k invalid),
    fun valid beyond => failed _ (lookupFailure_noEntry k valid beyond), fun valid entry v hv => ?record,
    fun d x => ⟨fallbackGroups_perm t d x, fallbackGroups_pairwise t d x⟩,
    fun none => noRelookup (mayRelookup_headless none), fun l live => ?relookup⟩
  case record =>
    intro n r
    have same : recordNumber t z k = n := congrArg (dirBase t z + ·) (variantOf_eq hv)
    have number : lookupFailure t z k = checkRecord t n := by
      rw [lookupFailure_entry k valid entry, same]
    obtain ⟨outOfRange, invalid, badGroup, good⟩ := checkRecord_cases n valid
    refine ⟨fun beyond => failed _ (number.trans (outOfRange beyond)),
      fun below record => failed _ (number.trans (invalid below record)),
      fun below record group => failed _ (number.trans (badGroup below record group)), fun below record groups => ?_⟩
    refine (lookedUp_of_record (number.trans (good below record groups))).trans ?_
    exact congrArg (recordLive t · (some (z, k))) same
  case relookup =>
    intro n bars looks
    have may : mayRelookup s = true ↔ ¬ bars := mayRelookup_iff live
    have barred : bars → mayRelookup s = false := fun h => Bool.eq_false_iff.2 fun looks => may.1 looks h
    have relooked : looks (relookup s) := by
      refine ⟨fun m record found => relookup_same_record live record found, fun d fallback found dir => ?_,
        fun other => relookup_other live other⟩
      have both := relookup_same_fallback live fallback found dir
      exact ⟨fun same => both.trans (if_pos same), fun differ => both.trans (if_neg differ)⟩
    refine ⟨fun h => ?stands, fun free u under moved => ?moved, fun h => (noRelookup (barred h)).2, fun free => ?set,
      fun m record h => ?chainage⟩
    case stands =>
      rcases h with h | same
      · exact (noRelookup (barred h)).1
      · exact if_neg (by rw [classMoved_stands live same, Bool.and_false]; exact Bool.false_ne_true)
    case moved =>
      have looked : tableChanged s = relookup s :=
        if_pos (Bool.and_eq_true_iff.2 ⟨may.2 free, (classMoved_iff live).2 ⟨u, under, moved⟩⟩)
      rw [looked]
      exact relooked
    case set =>
      have looked : scenarioSetValid s = relookup s := if_pos (may.2 free)
      rw [looked]
      exact relooked
    case chainage =>
      exact chainageChanged_record live record <| h.imp barred fun same =>
        ⟨zoneMoved_stands live fun u under => congrArg Prod.fst (same u under),
          classMoved_stands live fun u under => congrArg Prod.snd (same u under)⟩

end Sys2Proof.Machine
end

section
/-!
The thrust of a fan, the walks and the wanted states (R121, R123 to R129, R131).
-/

namespace Sys2Proof.Machine

open Sys2Proof

/-! ## Open-loop demand (R121) -/

/-- R121, R134: a value that is not negative is capped at 65,535. -/
theorem setDemand_of_nat (d : Nat) (s : State) :
    let t : State := { s with plan := { s.plan with demand := min d 65535, saturated := decide (65535 < d) } }
    setDemand d s = if 65535 < d ∧ s.plan.saturated = false then headNotice 0x10 [] t else t := by
  have beyond : ((65535 : Nat) : Int) < (d : Int) ↔ 65535 < d := Int.ofNat_lt
  have demand : (clampInt 0 Config.thrustMax d).toNat = min d 65535 := by
    rw [clampInt_eq _ (by decide), Config.thrustMax]
    omega
  unfold setDemand
  simp only [demand]
  simp only [Config.thrustMax, beyond, Bool.and_eq_true, decide_eq_true_eq, Bool.not_eq_true']
  rfl

/-- Settles O36: `setDemand_of_nat` at the formula, below the top of the range and above it. -/
theorem openLoopDemandFollowsTheFormula : Obligations.OpenLoopDemandFollowsTheFormula := by
  intro s l live d high
  have computed : computeOpenLoop s = setDemand d s := by
    rw [computeOpenLoop, live]
    rfl
  have set := setDemand_of_nat d s
  rw [computed, set]
  refine ⟨fun within => ?within, fun beyond again => ?again, fun beyond first => ?first⟩
  case within => simp [within, Nat.not_lt.2 within]
  case again => simp [beyond, again, Nat.le_of_lt beyond, high]
  case first =>
    simp only [beyond, first, and_self, if_true, Nat.min_eq_right (Nat.le_of_lt beyond), decide_true]
    rfl

/-! ## Thrust and availability (R123 to R125) -/

theorem baseThrust_driveFor (t : TableStore) (d : Dir) (f : Nat) :
    baseThrust t f (driveFor t d f) = if fanOrientation t f = d then fanFwd t f else fanRev t f := by
  unfold driveFor
  split <;> rfl

theorem stepThrust_eq (base : Nat) (x : SpeedStep) : stepThrust base x = if x = .full then base else base / 4 := by
  cases x <;> rfl

theorem isHot_iff (t : TableStore) (l : Live) (d : Dir) (x f : Nat) : isHot t l d x f = true ↔
    0 ≤ (if d = .towardB then 1 else -1) * ((groupChainage t (fanGroup t f) : Int) - x) ∧
      (if d = .towardB then 1 else -1) * ((groupChainage t (fanGroup t f) : Int) - x) ≤ l.H := by
  rw [← downstream_eq]
  simp only [isHot, Bool.and_eq_true, decide_eq_true_eq]

/-- R123, R124: the thrust in the drive direction that blows along the flow, at the fan's step, less where it is hot. -/
theorem effective_eq {s : State} {l : Live} {d : Dir} (f : Nat) (live : s.live = some l) (dir : l.dir = some d) :
    effective s f =
      let T := stepThrust (baseThrust s.tables f (driveFor s.tables d f)) (fanRec s f).step
      if isHot s.tables l d (headChainage s) f = true then T * l.h / 100 else T := by
  simp only [effective, live, effThrust, dir]

theorem available_iff (s : State) (f : Nat) : available s f = true ↔ f < s.tables.fans.count ∧
    fanInService s.tables f = true ∧ (fanRec s f).state ∉ [.failed, .lost, .unavailable] := by
  unfold available
  cases (fanRec s f).state <;> simp

/-! ## Walks (R126, R127, R129, R131) -/

theorem takeSelection_same {sel : List Nat} {s : State} (same : s.plan.demand - covered s sel = s.plan.shortfall) :
    takeSelection sel s =
      { s with plan := { s.plan with selection := sel, shortfall := s.plan.demand - covered s sel } } := if_pos same

/-- R127: a shortfall that changes brings its notice. -/
theorem takeSelection_changed {sel : List Nat} {s : State} (other : s.plan.demand - covered s sel ≠ s.plan.shortfall) :
    takeSelection sel s = headNotice 0x0F (be16 (s.plan.demand - covered s sel))
      { s with plan := { s.plan with selection := sel, shortfall := s.plan.demand - covered s sel } } := if_neg other

theorem takeSelection_selection (sel : List Nat) (s : State) : (takeSelection sel s).plan.selection = sel := by
  by_cases same : s.plan.demand - covered s sel = s.plan.shortfall
  · rw [takeSelection_same same]
  · rw [takeSelection_changed same, (relayed_headNotice _ _ _).rest]

theorem covered_append (s : State) (a b : List Nat) : covered s (a ++ b) = covered s a + (b.map (effective s)).sum := by
  simp [covered]

theorem covered_dropLast_le (s : State) (sel : List Nat) : covered s sel.dropLast ≤ covered s sel :=
  ((List.dropLast_sublist sel).map _).sum_le_sum (by simp)

/-- R126: a fresh walk takes the shortest run from the front that covers D. -/
theorem freshSelection_spec (s : State) :
    freshSelection s <+: candidatesOf s ∧
      (s.plan.demand ≤ covered s (freshSelection s) ∨ freshSelection s = candidatesOf s) ∧
      ∀ k < (freshSelection s).length, covered s ((freshSelection s).take k) < s.plan.demand := by
  have run := appendUntil_spec (effective s) s.plan.demand (candidatesOf s) 0
  simp only [Nat.zero_add] at run
  exact run

/-- R129: fans that fall short of D are kept, and the shortest run of others that covers D is appended. -/
theorem hysteresisSelection_short {s : State} {kept others : List Nat}
    (keeps : s.plan.selection.filter (available s) = kept)
    (rest : (candidatesOf s).filter (fun f => !kept.contains f) = others) (short : covered s kept < s.plan.demand) :
    ∃ more, hysteresisSelection s = kept ++ more ∧ more <+: others ∧
      (s.plan.demand ≤ covered s (hysteresisSelection s) ∨ more = others) ∧
      ∀ k < more.length, covered s (kept ++ more.take k) < s.plan.demand := by
  obtain ⟨front, enough, least⟩ := appendUntil_spec (effective s) s.plan.demand others (covered s kept)
  have appended : hysteresisSelection s = kept ++ appendUntil (effective s) s.plan.demand others (covered s kept) := by
    simp only [hysteresisSelection, keeps, rest]
    split
    · rename_i none
      have stays : ¬ s.plan.demand + s.params.M ≤ covered s kept.dropLast := by
        have := covered_dropLast_le s kept
        omega
      rw [dropTest, decide_eq_false stays, Bool.and_false, if_neg Bool.false_ne_true, List.isEmpty_iff.1 none,
        List.append_nil]
    · rfl
  rw [appended]
  exact ⟨_, rfl, front, by rwa [covered_append], fun k h => by rw [covered_append]; exact least k h⟩

/-- R129, R131: fans that cover D are kept but for the drop test. -/
theorem hysteresisSelection_covered {s : State} {kept : List Nat} (keeps : s.plan.selection.filter (available s) = kept)
    (enough : s.plan.demand ≤ covered s kept) : hysteresisSelection s = dropTest s kept := by
  have none : ∀ l, appendUntil (effective s) s.plan.demand l (covered s kept) = [] := fun l => by
    cases l
    · rfl
    · exact if_pos enough
  simp only [hysteresisSelection, keeps, none, List.isEmpty_nil, if_true]

theorem dropTest_drops {s : State} {sel : List Nat} (listed : sel ≠ [])
    (enough : s.plan.demand + s.params.M ≤ covered s sel.dropLast) : dropTest s sel = sel.dropLast := by
  simp [dropTest, listed, enough]

theorem dropTest_stands {s : State} {sel : List Nat}
    (h : sel = [] ∨ covered s sel.dropLast < s.plan.demand + s.params.M) : dropTest s sel = sel := by
  refine if_neg fun drops => ?_
  simp only [Bool.and_eq_true, Bool.not_eq_true', List.isEmpty_eq_false_iff, decide_eq_true_eq] at drops
  exact h.elim drops.1 (Nat.not_lt.2 drops.2)

/-! ## Wanted states (R128) -/

theorem wantedOf_none {s : State} (f : Nat) (h : s.live.bind Live.dir = none) : wantedOf s f = .stop := by
  unfold wantedOf
  rcases live : s.live with _ | l
  · rfl
  · rw [live, Option.bind_some] at h
    simp only [h]

theorem wantedOf_some {s : State} {d : Dir} (f : Nat) (h : s.live.bind Live.dir = some d) : wantedOf s f =
    if f ∈ s.plan.selection then .run (driveFor s.tables d f) (fanRec s f).step else .stop := by
  obtain ⟨l, live, dir⟩ := Option.bind_eq_some_iff.1 h
  simp only [wantedOf, live, dir, List.contains_iff_mem]

/-- R128: a fan that is not selected is wanted STOP. -/
theorem selected_of_wanted {s : State} {f : Nat} (h : wantedOf s f ≠ .stop) : f ∈ s.plan.selection := by
  by_contra out
  refine h ?_
  rcases along : s.live.bind Live.dir with _ | d
  · exact wantedOf_none f along
  · rw [wantedOf_some f along, if_neg out]

/-- R128: the fans handed over are those whose wanted state changes. -/
theorem mem_changedFans {s : State} {f : Nat} (below : f < s.tables.fans.count) :
    f ∈ changedFans s ↔ (fanRec s f).wanted ≠ wantedOf s f := by
  simp only [changedFans, List.mem_append, List.mem_filter, List.mem_range, Bool.and_eq_true, decide_eq_true_eq]
  by_cases stop : wantedOf s f = .stop
  · simp [stop, below]
  · simp [stop, below, selected_of_wanted stop]

/-- R128: the fans handed over that are wanted RUN are in selection order. -/
theorem changedFans_running (s : State) : (changedFans s).filter (fun f => decide (wantedOf s f ≠ .stop)) =
    s.plan.selection.filter fun f => decide (f < s.tables.fans.count ∧ wantedOf s f ≠ .stop ∧
      (fanRec s f).wanted ≠ wantedOf s f) := by
  have stopped : ((List.range s.tables.fans.count).filter fun f =>
      decide (wantedOf s f = .stop) && decide ((fanRec s f).wanted ≠ .stop)).filter
        (fun f => decide (wantedOf s f ≠ .stop)) = [] := by
    refine List.filter_eq_nil_iff.2 fun f h => ?_
    simp only [List.mem_filter, Bool.and_eq_true, decide_eq_true_eq] at h
    simp [h.2.1]
  rw [changedFans, List.filter_append, stopped, List.nil_append, List.filter_filter]
  refine List.filter_congr fun f _ => ?_
  simp only [Bool.decide_and]
  cases decide (wantedOf s f ≠ .stop) <;> simp

theorem recordWanted_rec {s : State} {f : Nat} {r : FanRecord} (held : s.fans.recs[f]? = some r) :
    (recordWanted s).fans.recs[f]? =
      some (if f < s.tables.fans.count then { r with wanted := wantedOf s f } else r) := by
  simp [recordWanted, List.getElem?_mapIdx, held]

/-- Settles O37, clause by clause. -/
theorem freshWalkCoversTheDemand : Obligations.FreshWalkCoversTheDemand := by
  intro s t D C visits walked wanted
  have wants : ∀ f, wanted f (fanRec s f) = wantedOf s f := fun f => by
    simp only [wanted]
    split
    · rename_i d along
      exact (wantedOf_some f along).symm
    · rename_i along
      exact (wantedOf_none f along).symm
  have takes : ∀ sel, walked sel (takeSelection sel s) := fun sel => ⟨takeSelection_same, takeSelection_changed⟩
  refine ⟨fun f l d live dir => ?thrust, fun _ => rfl, available_iff s, fun l live => ?visited,
    ⟨freshSelection s, takes _, takeSelection_selection _ s, freshSelection_spec s⟩, ?hysteresis, rfl,
    fun f r held => ?record, ?order⟩
  case thrust =>
    intro base T w
    rw [effective_eq f live dir, baseThrust_driveFor, stepThrust_eq]
    exact if_congr (isHot_iff _ l d _ f) rfl rfl
  case visited =>
    rw [visited, live]
    rfl
  case hysteresis =>
    intro kept others
    have rest : (candidatesOf s).filter (fun f => !kept.contains f) = others :=
      List.filter_congr fun f _ => by simp
    refine ⟨hysteresisSelection s, takes _, takeSelection_selection _ s, hysteresisSelection_short rfl rest,
      fun enough => ?_⟩
    rw [hysteresisSelection_covered rfl enough]
    exact ⟨fun ⟨listed, spare⟩ => dropTest_drops listed spare, dropTest_stands⟩
  case record =>
    have same : wanted f r = wantedOf s f := by rw [← wants, fanRec_of_some held]
    rw [same]
    refine ⟨recordWanted_rec held, fun below => ?_⟩
    rw [mem_changedFans below, fanRec_of_some held]
  case order =>
    simp only [wants]
    exact changedFans_running s

end Sys2Proof.Machine
end

section
/-!
More of what is made of the parts of `FanSteps` alone: the takeover and the leaving of command (R145 to R147), what is
sent again (R151, R165), and the end of a dwell (R159).
-/

namespace Sys2Proof.Machine

open Sys2Proof

namespace FanSteps

variable {R : State → State → Prop} (c : FanSteps R)
include c

theorem foldl {g : State → Nat → State} (h : ∀ s f, R s (g s f)) (fs : List Nat) (s : State) : R s (fs.foldl g s) := by
  induction fs generalizing s with
  | nil => exact c.refl s
  | cons f fs ih => exact c.trans (h s f) (ih _)

theorem recomputeFor (fs : List Nat) (p : State × List Nat) : R p.1 (Machine.recomputeFor fs p).1 := by
  induction fs generalizing p with
  | nil => exact c.refl _
  | cons f fs ih =>
    obtain ⟨s, acc⟩ := p
    exact c.trans (c.recompute s) (ih ((Machine.recompute s).1, acc ++ (Machine.recompute s).2))

/-- R145, R146: the takeover of every fan. -/
theorem takeover (s : State) : R s (Machine.takeover s) := by
  have derived := c.foldl fun u f => c.deriveFan f u
  have joined := c.foldl fun v f => c.joinQueue f v
  unfold Machine.takeover
  refine c.trans (c.fans s { s.fans with inCommand := true } rfl) ?_
  refine c.trans ?_ (c.takeWanteds _ _)
  refine c.trans ?_ (c.trans (c.phased _) (c.startTests _))
  exact c.trans (c.trans (derived _ _) (joined _ _)) (c.recomputeFor _ (_, []))

theorem comeIntoCommand (s : State) : R s (Machine.comeIntoCommand s) := rel_ite (c.takeover s) (c.refl s)

/-- R147: the fans, then the waiting commands. -/
theorem leaveCommand (s : State) : R s (Machine.leaveCommand s) := by
  have cleared : ∀ t, R t (removeFanCommands t) := fun t => c.relayed rfl
  refine rel_ite (c.trans (c.trans (c.fans s _ ?_) (cleared _)) (c.phased _)) (c.refl s)
  refine reported_mapIdx _ fun f r => ?_
  split <;> rfl

theorem resendNow (f : Nat) (s : State) : R s (Machine.resendNow f s) := by
  unfold Machine.resendNow
  split
  · exact c.refl s
  · exact c.trans (c.modFan f s) (c.offerFanCommand f _ _)

theorem silenceResendAll (s : State) : R s (Machine.silenceResendAll s) := by
  have offered : ∀ t f, R t (silenceOffer t f) := fun t f => by
    unfold silenceOffer
    split
    · exact c.refl t
    · exact c.offerFanCommand f _ t
  exact c.trans (c.relayed (t := s.setPort { s.port with silentFor := 0 }) rfl) (c.foldl offered _ _)

theorem dwellEnd (f : Nat) (s : State) : R s (Machine.dwellEnd f s) := c.trans (c.modFan f s) (c.joinQueue f _)

end FanSteps

end Sys2Proof.Machine
end

section
/-!
The demand of the head plan and of the saved plans (R121, R122, R134, R142): the operations of the planning blocks keep
it in its range. It is set clamped, saved on suspension and taken back on restore; nothing else moves it.
-/

namespace Sys2Proof.Machine

open Sys2Proof

/-! ## The range -/

/-- The demand of the plan saved with an incident. -/
def Incident.savedDemand (i : Incident) : Option Nat := i.saved.map SavedPlan.demand

/-- R142: the demand of every saved plan lies in its range. -/
def SavedInRange (l : List Incident) : Prop := ∀ i ∈ l, ∀ d, i.savedDemand = some d → d ≤ 65535

theorem demandInRange_iff (s : State) :
    demandInRange s = true ↔ s.plan.demand ≤ 65535 ∧ SavedInRange s.incidents.list := by
  simp only [demandInRange, Bool.and_eq_true, decide_eq_true_eq, List.all_eq_true]
  refine and_congr_right fun _ => forall₂_congr fun i _ => ?_
  cases saved : i.saved <;> simp [Incident.savedDemand, saved]

theorem savedInRange_nil : SavedInRange [] := fun _ h => absurd h List.not_mem_nil

/-- Incidents that are changed one by one, but for their saved demands. -/
theorem SavedInRange.map {l : List Incident} {f : Incident → Incident} (h : SavedInRange l)
    (same : ∀ i ∈ l, (f i).savedDemand = i.savedDemand) : SavedInRange (l.map f) := by
  intro j hj d saved
  obtain ⟨i, hi, rfl⟩ := List.mem_map.1 hj
  exact h i hi d ((same i hi).symm.trans saved)

/-- From demands in their range the state `t` has them there too. -/
def DemandsKept (s t : State) : Prop := demandInRange s = true → demandInRange t = true

theorem DemandsKept.refl (s : State) : DemandsKept s s := id

theorem DemandsKept.trans {s t u : State} (a : DemandsKept s t) (b : DemandsKept t u) : DemandsKept s u :=
  fun h => b (a h)

/-- The demand of the head plan is the same, and of the list the saved plans stay in range. -/
theorem DemandsKept.of_saved {s t : State} (demand : t.plan.demand = s.plan.demand)
    (saved : SavedInRange s.incidents.list → SavedInRange t.incidents.list) : DemandsKept s t := fun h => by
  obtain ⟨held, list⟩ := (demandInRange_iff s).1 h
  exact (demandInRange_iff t).2 ⟨demand ▸ held, saved list⟩

/-- Neither demand nor list changes. -/
theorem DemandsKept.of_same {s t : State} (demand : t.plan.demand = s.plan.demand)
    (list : t.incidents.list = s.incidents.list) : DemandsKept s t := .of_saved demand fun h => list ▸ h

/-- What follows a change that leaves demand and list. -/
theorem DemandsKept.after {s t u : State} (h : DemandsKept t u) (demand : t.plan.demand = s.plan.demand)
    (list : t.incidents.list = s.incidents.list) : DemandsKept s u := (of_same demand list).trans h

/-- The head plan takes a demand in its range. -/
theorem demandsKept_setPlan {s : State} {x : Plan} (h : x.demand ≤ 65535) : DemandsKept s (s.setPlan x) := fun held =>
  (demandInRange_iff _).2 ⟨h, ((demandInRange_iff s).1 held).2⟩

theorem demandsKept_setLive (s : State) (x : Option Live) : DemandsKept s (s.setLive x) := .of_same rfl rfl
theorem demandsKept_setAuth (s : State) (x : Authority) : DemandsKept s (s.setAuth x) := .of_same rfl rfl
theorem demandsKept_setTrim (x : Option Nat) (s : State) : DemandsKept s (setTrim x s) := .of_same rfl rfl
theorem demandsKept_setPhaseTimer (x : Option Nat) (s : State) : DemandsKept s (setPhaseTimer x s) := .of_same rfl rfl

/-! ## Offers, walks and fans -/

theorem demandsKept_relayed {s t : State} (h : t = { s with port := t.port, chip := t.chip, test := t.test }) :
    DemandsKept s t := by
  rw [h]
  exact .of_same rfl rfl

theorem demandsKept_headNotice (c : Nat) (f : List Byte) (s : State) : DemandsKept s (headNotice c f s) :=
  demandsKept_relayed (relayed_headNotice c f s).rest

theorem demandsKept_setPhase (p : Phase) (s : State) : DemandsKept s (setPhase p s) := by
  refine .of_saved rfl fun h => ?_
  simp only [setPhase, State.setIncidents_incidents]
  split
  · exact savedInRange_nil
  · rename_i i rest listed
    rw [listed] at h
    exact List.forall_mem_cons.2 (List.forall_mem_cons.1 h)

theorem demandsKept_phaseTest (s : State) : DemandsKept s (phaseTest s) := by
  have entered : ∀ p x, DemandsKept s (setTrim x (phaseNotice p (setPhase p s))) := fun p x =>
    ((demandsKept_setPhase p s).trans (demandsKept_headNotice _ _ _)).trans (demandsKept_setTrim x _)
  unfold phaseTest
  split
  · exact entered _ _
  · exact entered _ _
  · exact .refl s

theorem demandsKept_steps : FanSteps DemandsKept where
  refl := .refl
  trans := .trans
  relayed := demandsKept_relayed
  fans _ _ _ := .of_same rfl rfl
  walked _ _ _ := .of_same rfl rfl
  phased := demandsKept_phaseTest

theorem demandsKept_notice (c n : Nat) (f : List Byte) (s : State) : DemandsKept s (notice c n f s) :=
  demandsKept_steps.notice c n f s

/-! ## The demand is set (R121, R134) -/

/-- R121, R134: whatever the exact value, the demand set is clamped. -/
theorem demandsKept_setDemand (x : Int) (s : State) : DemandsKept s (setDemand x s) := by
  have clamped : (clampInt 0 Config.thrustMax x).toNat ≤ 65535 := by
    rw [clampInt_eq x (by decide), Config.thrustMax]
    omega
  exact rel_ite ((demandsKept_setPlan clamped).trans (demandsKept_headNotice _ _ _)) (demandsKept_setPlan clamped)

theorem demandsKept_computeOpenLoop (s : State) : DemandsKept s (computeOpenLoop s) := by
  unfold computeOpenLoop
  split
  · exact .refl s
  · exact demandsKept_setDemand _ s

theorem demandsKept_trimStep (s : State) : DemandsKept s (trimStep s) := by
  have trimmed : ∀ v vt, DemandsKept s (trim v vt s) := fun v vt =>
    rel_ite (.refl s) ((demandsKept_setDemand _ s).trans (rel_ite (.refl _) (demandsKept_steps.hysteresisRevision _)))
  unfold trimStep
  split
  · exact .refl s
  · split
    · exact .refl s
    · split
      · exact .refl s
      · exact .refl s
      · split
        · exact .refl s
        · exact trimmed _ _

/-! ## Fan Sequencer -/

theorem demandsKept_ageUnknown (f : Nat) (s : State) : DemandsKept s (ageUnknown f s).1 := by
  unfold ageUnknown
  simp only []
  split
  all_goals exact .of_same rfl rfl

theorem demandsKept_ackPasses (f : Nat) (s : State) : DemandsKept s (ackPasses f s).1 := by
  unfold ackPasses
  split
  · exact .refl s
  · split
    · exact .of_same rfl rfl
    · split
      · exact .of_same rfl rfl
      · exact (demandsKept_steps.modFan f s).trans (demandsKept_headNotice _ _ _)

theorem demandsKept_takeStatus (f : Nat) (st : FanStatus) (b : Bool) (s : State) :
    DemandsKept s (takeStatus f st b s) :=
  DemandsKept.after (t := takeReport f st b s)
    (demandsKept_steps.fanEvent f _ _ (demandsKept_steps.statusBody f _ _)) rfl rfl

/-! ## Authority Controller -/

theorem demandsKept_offerCommand (q : QFrame) (s : State) : DemandsKept s (offerCommand q s) :=
  demandsKept_relayed (offerCommand_rest q s)

theorem demandsKept_offerHold (x n : Nat) (s : State) : DemandsKept s (offerHold x n s) :=
  (demandsKept_offerCommand ⟨noticeDest s, kindHold, [byte x, byte n], false⟩ s).trans (demandsKept_setAuth _ _)

theorem demandsKept_claimHold (s : State) : DemandsKept s (claimHold s) :=
  (demandsKept_offerHold s.params.holdTime (headNumber s) s).trans (demandsKept_setAuth _ _)

theorem demandsKept_interception (s : State) : DemandsKept s (interception s) :=
  (demandsKept_setAuth s { s.auth with intercepted := satCount 255 s.auth.intercepted }).trans
    (rel_ite (demandsKept_claimHold _) (.refl _))

theorem demandsKept_moveAuth (a : AuthState) (s : State) : DemandsKept s (moveAuth a s) :=
  (demandsKept_setAuth s { s.auth with state := a }).trans (demandsKept_headNotice _ _ _)

theorem demandsKept_authorityTaken (s : State) : DemandsKept s (authorityTaken s) := by
  cases service : s.auth.dryRun
  · rw [authorityTaken_service service]
    exact DemandsKept.trans (.after (demandsKept_claimHold (setAuthState .autonomous s)) rfl rfl) (.of_same rfl rfl)
  · rw [authorityTaken, if_pos service]
    exact .of_same rfl rfl

theorem demandsKept_enterAutonomous (s : State) : DemandsKept s (enterAutonomous s) :=
  ((demandsKept_authorityTaken s).trans (demandsKept_headNotice _ _ _)).trans (demandsKept_steps.comeIntoCommand _)

theorem demandsKept_exitAutonomous (a : AuthState) (s : State) : DemandsKept s (exitAutonomous a s) := by
  have left : DemandsKept s (leaveCommand (setAuthState a s)) :=
    (demandsKept_setAuth s { s.auth with state := a }).trans (demandsKept_steps.leaveCommand _)
  have ended : ∀ t, DemandsKept t (endHold t) := fun t =>
    DemandsKept.trans (t := if 0 < t.auth.holdRemaining then offerHold 0 (headNumber t) t else t)
      (rel_ite (demandsKept_offerHold _ _ t) (.refl t)) (demandsKept_setAuth _ _)
  exact (left.trans (ended _)).trans (demandsKept_headNotice _ _ _)

theorem demandsKept_listNotEmpty (s : State) : DemandsKept s (listNotEmpty s) := by
  unfold listNotEmpty
  split
  · exact demandsKept_enterAutonomous s
  · exact demandsKept_headNotice _ _ s
  · exact .refl s

theorem demandsKept_geometryOpened (s : State) : DemandsKept s (geometryOpened s) := by
  unfold geometryOpened
  split
  · exact demandsKept_moveAuth _ s
  · exact .refl s

theorem demandsKept_geometryClosed (s : State) : DemandsKept s (geometryClosed s) := by
  unfold geometryClosed
  split
  · exact rel_ite (demandsKept_enterAutonomous s) (demandsKept_moveAuth _ s)
  · exact .refl s

theorem demandsKept_leaveStarting (s : State) : DemandsKept s (leaveStarting s) :=
  (demandsKept_moveAuth _ s).trans (rel_ite (demandsKept_offerHold _ _ _) (.refl _))

theorem demandsKept_resumeAuthority (s : State) : DemandsKept s (resumeAuthority s) := by
  unfold resumeAuthority
  split
  · exact demandsKept_enterAutonomous s
  · exact .refl s

/-! ## Scenario Lookup (R107, R109, R113, R114) -/

theorem demandsKept_relookup (s : State) : DemandsKept s (relookup s) := by
  unfold relookup
  split
  · exact .refl s
  · simp only []
    split
    · split
      · exact (demandsKept_setLive s _).trans (rel_ite (.refl _) (demandsKept_steps.freshRevision _))
      · exact demandsKept_setLive s _
    · exact (demandsKept_setLive s _).trans (((demandsKept_headNotice _ _ _).trans (demandsKept_computeOpenLoop _)).trans
        (demandsKept_steps.freshRevision _))

theorem demandsKept_tableChanged (s : State) : DemandsKept s (tableChanged s) :=
  rel_ite (demandsKept_relookup s) (.refl s)

theorem demandsKept_scenarioSetValid (s : State) : DemandsKept s (scenarioSetValid s) :=
  rel_ite (demandsKept_relookup s) (.refl s)

theorem demandsKept_rebuildFallback (s : State) : DemandsKept s (rebuildFallback s) := by
  unfold rebuildFallback
  split
  · exact .refl s
  · split
    · exact rel_ite (.refl s) ((demandsKept_setLive s _).trans (demandsKept_steps.freshRevision _))
    · exact .refl s

theorem demandsKept_chainageChanged (s : State) : DemandsKept s (chainageChanged s) :=
  (DemandsKept.trans (rel_ite (demandsKept_relookup s) (.refl s)) (demandsKept_rebuildFallback _)).trans
    (demandsKept_steps.hysteresisRevision _)

theorem demandsKept_carryOut (s : State) : DemandsKept s (carryOut s) :=
  rel_ite
    (((demandsKept_steps.freshWalk s).trans (demandsKept_steps.handWanted _)).trans (demandsKept_steps.comeIntoCommand _))
    (((demandsKept_steps.leaveCommand s).trans (demandsKept_steps.freshWalk _)).trans (demandsKept_steps.handWanted _))

theorem demandsKept_when_notice (b : Bool) (c n : Nat) (f : List Byte) (s : State) :
    DemandsKept s (when b (notice c n f) s) := rel_ite (demandsKept_notice c n f s) (.refl s)

theorem demandsKept_lateLookup (b : Bool) (x : Option Nat) (s : State) : DemandsKept s (lateLookup b x s) :=
  (demandsKept_setLive s (some ((lookedUp s).withLock b x))).trans
    ((demandsKept_headNotice _ _ _).trans (demandsKept_when_notice _ _ _ _ _))

theorem demandsKept_geometryLookup (s : State) : DemandsKept s (geometryLookup s) := by
  unfold geometryLookup
  split
  · exact .refl s
  · refine rel_ite ?_ (.refl s)
    exact ((((demandsKept_lateLookup _ _ s).trans (demandsKept_computeOpenLoop _)).trans (demandsKept_carryOut _)).trans
      (demandsKept_phaseTest _)).trans (demandsKept_steps.startTests _)

/-- R110: an expiry of the lock timer sets a lock, of the head or of a saved plan. -/
theorem demandsKept_lockExpires (n : Nat) (s : State) : DemandsKept s (lockExpires n s) := by
  unfold lockExpires
  split
  · exact .refl s
  · split
    · exact (demandsKept_setLive s _).trans (demandsKept_when_notice _ _ _ _ _)
    · refine DemandsKept.trans (.of_saved ?_ fun h => h.map fun j _ => ?_) (demandsKept_when_notice _ _ _ _ _)
      · rfl
      · split
        · simp only [Incident.savedDemand, Option.map_map]
          rfl
        · rfl
    · exact .refl s

/-! ## Activation of a head (R87, R115) -/

theorem demandsKept_announcePhase (p : Phase) (s : State) : DemandsKept s (announcePhase p s) := by
  refine DemandsKept.trans ?_ (demandsKept_steps.startTests _)
  refine (demandsKept_headNotice 0x0C [byte (phaseCode p)] s).trans ?_
  cases p
  case staging => exact demandsKept_phaseTest _
  all_goals exact .refl _

theorem demandsKept_freshScenario (s : State) : DemandsKept s (freshScenario s) := by
  unfold freshScenario
  simp only []
  split
  · exact (demandsKept_setLive s _).trans
      ((demandsKept_when_notice _ _ _ _ _).trans (demandsKept_when_notice _ _ _ _ _))
  · exact demandsKept_setLive s _

theorem demandsKept_restoreScenario (p : SavedPlan) (s : State) : DemandsKept s (restoreScenario p s).1 := by
  unfold restoreScenario
  split
  · split
    · exact demandsKept_lateLookup _ _ s
    · exact demandsKept_setLive s _
  · split
    · exact demandsKept_setLive s _
    · simp only []
      split
      · exact demandsKept_setLive s _
      · exact (demandsKept_setLive s _).trans (demandsKept_headNotice _ _ _)

/-- R87: a head starts from a demand of 0, or from the one saved. -/
theorem demandsKept_activate {saved : Option SavedPlan} (h : ∀ p, saved = some p → p.demand ≤ 65535) (s : State) :
    DemandsKept s (activate saved s) := by
  have computed : ∀ (b : Bool) t, DemandsKept t (if b = true then computeOpenLoop t else t) := fun _ t =>
    rel_ite (demandsKept_computeOpenLoop t) (.refl t)
  have entered : ∀ p t, DemandsKept t (announcePhase p (carryOut t)) := fun p t =>
    (demandsKept_carryOut t).trans (demandsKept_announcePhase p _)
  cases saved with
  | none =>
    unfold activate activateFresh
    refine DemandsKept.trans ?_ (entered _ _)
    refine DemandsKept.trans ?_ (demandsKept_setPhaseTimer _ _)
    refine DemandsKept.trans ?_ (demandsKept_setPhase _ _)
    refine DemandsKept.trans ?_ (computed _ _)
    refine DemandsKept.trans ?_ (demandsKept_freshScenario _)
    exact demandsKept_setPlan (Nat.zero_le _)
  | some p =>
    unfold activate activateSaved
    refine DemandsKept.trans ?_ (entered _ _)
    refine DemandsKept.trans ?_ (demandsKept_setPhase _ _)
    refine DemandsKept.trans ?_ (computed _ _)
    refine DemandsKept.trans ?_ (demandsKept_restoreScenario p _)
    exact demandsKept_setPlan (h p rfl)

end Sys2Proof.Machine
end

section
/-!
The demand of the head plan and of the saved plans (R142) across the Incident Manager: a head change saves the demand of
the old head and takes back that of the new one (R86, R87); listings, merges and clears keep the saved plans of the
incidents that stay.
-/

namespace Sys2Proof.Machine

open Sys2Proof

/-! ## Head changes (R86, R87) -/

/-- R86: the first incident has no saved plan, and the old head that of the live plan. -/
theorem savedInRange_headRoles {plan : Option SavedPlan} {l : List Incident} (list : SavedInRange l)
    (live : ∀ p, plan = some p → p.demand ≤ 65535) : SavedInRange (headRoles plan l) := by
  cases l with
  | nil => exact list
  | cons i rest =>
    refine List.forall_mem_cons.2 ⟨fun d saved => (Option.some_ne_none d saved.symm).elim, ?_⟩
    intro j hj d saved
    obtain ⟨k, hk, rfl⟩ := List.mem_map.1 hj
    split at saved
    · obtain ⟨p, held, rfl⟩ := Option.map_eq_some_iff.1 saved
      exact live p held
    · exact list k (List.mem_cons_of_mem i hk) d saved

theorem demand_of_savedPlanOf {s : State} {p : SavedPlan} (h : savedPlanOf s = some p) : p.demand = s.plan.demand := by
  obtain ⟨l, _, rfl⟩ := Option.map_eq_some_iff.1 h
  rfl

/-- R86: the demands change places: the live one is saved, and the new head's is taken back. -/
theorem demandsKept_headChange (old : Nat) (s : State) : DemandsKept s (headChange old s) := by
  unfold headChange
  split
  · exact .refl s
  · rename_i i rest listed
    let t := s.setIncidents { s.incidents with
      list := headRoles (savedPlanOf s) s.incidents.list
      phaseTimer := none }
    intro held
    obtain ⟨demand, list⟩ := (demandInRange_iff s).1 held
    have changed : demandInRange t = true := (demandInRange_iff t).2
      ⟨demand, savedInRange_headRoles list fun p plan => demand_of_savedPlanOf plan ▸ demand⟩
    have restored : ∀ p, i.saved = some p → p.demand ≤ 65535 := fun p saved =>
      list i (listed ▸ List.mem_cons_self) _ (congrArg (Option.map SavedPlan.demand) saved)
    exact ((DemandsKept.after (t := setTrim none t) (demandsKept_notice _ _ _ _) rfl rfl).trans
      (demandsKept_activate restored _)) changed

theorem demandsKept_settleHead (old : Nat) (s : State) : DemandsKept s (settleHead old s) :=
  rel_ite (demandsKept_headChange old s) (.refl s)

/-! ## Candidates removed (R73, R77, R80) -/

theorem demandsKept_discard (n : Nat) (c : DiscardCause) (k : Nat) (s : State) : DemandsKept s (discard n c k s) :=
  DemandsKept.after (t := setCandidate k none s) (demandsKept_relayed (announced_discard n c k s).relayed.rest) rfl rfl

theorem demandsKept_discardWhere (n : Nat) (c : DiscardCause) (p : Candidate → Bool) (ks : List Nat) (s : State) :
    DemandsKept s (discardWhere n c p ks s) := by
  induction ks generalizing s with
  | nil => exact .refl s
  | cons k ks ih =>
    unfold discardWhere
    refine DemandsKept.trans ?_ (ih _)
    split
    · exact .refl s
    · exact rel_ite (demandsKept_discard n c k s) (.refl s)

theorem demandsKept_absorb (n x : Nat) (s : State) : DemandsKept s (absorb n x s) := demandsKept_discardWhere _ _ _ _ s

theorem demandsKept_emptyCandidates (s : State) : DemandsKept s (emptyCandidates s) := demandsKept_discardWhere _ _ _ _ s

/-! ## Listings (R82, R83) -/

/-- R82: an incident without a saved plan is listed. -/
theorem savedInRange_enterList {x : Incident} {l : List Incident} (list : SavedInRange l) (new : x.saved = none) :
    SavedInRange (enterList x l) := by
  intro j hj d saved
  rcases mem_enterList hj with rfl | hj
  · simp [Incident.savedDemand, new] at saved
  · exact list j hj d saved

theorem demandsKept_enterIncident (p : Proposal) (s : State) : DemandsKept s (enterIncident p s) := by
  have told : ∀ (b : Bool) t, DemandsKept t (if b = true then listNotEmpty t else t) := fun b t =>
    rel_ite (demandsKept_listNotEmpty t) (.refl t)
  refine DemandsKept.trans (.of_saved ?_ fun list => savedInRange_enterList list ?_) <|
    (((demandsKept_notice _ _ _ _).trans (demandsKept_settleHead _ _)).trans (told _ _)).trans (demandsKept_absorb _ _ _)
  · rfl
  · rfl

theorem demandsKept_listIncident (p : Proposal) (s : State) : DemandsKept s (listIncident p s) := by
  unfold listIncident
  split
  · exact demandsKept_enterIncident p s
  · split
    · exact .refl s
    · refine rel_ite ?_ (demandsKept_notice _ _ _ s)
      refine DemandsKept.trans (t := s.setIncidents { s.incidents with list := s.incidents.list.dropLast })
        (.of_saved rfl fun list j hj => list j (List.mem_of_mem_dropLast hj)) ?_
      exact (demandsKept_notice _ _ _ _).trans (demandsKept_enterIncident p _)

/-! ## Merges (R71, R75, R79, R85, R88) -/

theorem corroborated_saved (t : TableStore) (e : Detection) (i : Incident) : (corroborated t e i).saved = i.saved := by
  unfold corroborated Incident.moved
  simp only []
  split_ifs <;> rfl

theorem mergedCandidate_saved (t : TableStore) (p : Proposal) (i : Incident) :
    (mergedCandidate t p i).saved = i.saved := by
  unfold mergedCandidate Incident.moved
  simp only []
  split <;> split_ifs <;> rfl

theorem mergedDeclaration_saved (t : TableStore) (d : Declaration) (x : Nat) (i : Incident) :
    (mergedDeclaration t d x i).saved = i.saved := by
  unfold mergedDeclaration Incident.moved
  cases d.chainage <;> cases i.train <;> rfl

theorem demandsKept_handOn (old new : Incident) (s : State) : DemandsKept s (handOn old new s) := by
  have moved : ∀ (q : Prop) [Decidable q], DemandsKept s (if q then s else chainageChanged s) := fun q _ =>
    rel_ite (.refl s) (demandsKept_chainageChanged s)
  exact rel_ite ((moved _).trans (rel_ite (.refl _) (demandsKept_tableChanged _))) (.refl s)

/-- R71, R75, R79: a merge keeps the saved plan of the incident. -/
theorem demandsKept_mergeRecord (cause : MergeCause) {old new : Incident} {s : State} (listed : old ∈ s.incidents.list)
    (same : new.saved = old.saved) : DemandsKept s (mergeRecord cause old new s) := by
  refine DemandsKept.trans (.of_saved ?_ fun list => ?_) <|
    ((demandsKept_notice _ _ _ _).trans (demandsKept_settleHead _ _)).trans (demandsKept_handOn old new _)
  · rfl
  · have mapped : SavedInRange (s.incidents.list.map fun i => if i.number = old.number then new else i) := by
      intro j hj d saved
      obtain ⟨i, hi, rfl⟩ := List.mem_map.1 hj
      split at saved
      · exact list old listed d ((congrArg (Option.map SavedPlan.demand) same.symm).trans saved)
      · exact list i hi d saved
    show SavedInRange (if old.severity < new.severity then resort new.number _ else _)
    split
    · exact fun j hj => mapped j (mem_resort hj)
    · exact mapped

/-! ## Candidates and events (R71 to R75) -/

theorem demandsKept_promote (slot : Nat) (c : Candidate) (s : State) : DemandsKept s (promote slot c s) := by
  refine DemandsKept.after (t := setCandidate slot none s) ?_ rfl rfl
  unfold promote
  simp only []
  split
  · rename_i i near
    exact demandsKept_mergeRecord .candidate (mem_of_incidentAt near) (mergedCandidate_saved _ _ i)
  · exact demandsKept_listIncident _ _

theorem demandsKept_testCandidate (slot : Nat) (s : State) : DemandsKept s (testCandidate slot s) := by
  unfold testCandidate
  split
  · exact .refl s
  · rename_i c _
    split
    · exact rel_ite (demandsKept_promote slot c s) (.refl s)
    · exact .refl s
    · let d : Candidate := { c with confirmedAt := some s.clock }
      have confirmed : DemandsKept s (confirmedNotice slot d (setCandidate slot (some d) s)) :=
        DemandsKept.after (t := setCandidate slot (some d) s) (demandsKept_notice _ _ _ _) rfl rfl
      exact rel_ite (confirmed.trans (demandsKept_promote slot d _)) confirmed

theorem demandsKept_openCandidate (slot : Nat) (e : Detection) (s : State) : DemandsKept s (openCandidate slot e s) :=
  DemandsKept.after (t := setCandidate slot (some (newCandidate s e)) s)
    ((demandsKept_notice _ _ _ _).trans (demandsKept_testCandidate slot _)) rfl rfl

/-- R71 to R75: a detector event. -/
theorem demandsKept_takeEvent (e : Detection) (s : State) : DemandsKept s (takeEvent e s) := by
  unfold takeEvent
  split
  · rename_i i near
    exact rel_ite (.refl s) (demandsKept_mergeRecord .event (mem_of_incidentAt near) (corroborated_saved _ e i))
  · split
    · split
      · exact .refl s
      · exact .after (demandsKept_testCandidate _ _) rfl rfl
    · split
      · exact demandsKept_openCandidate _ e s
      · exact (demandsKept_discard _ _ _ s).trans (demandsKept_openCandidate _ e _)

/-! ## Declarations and clears (R78 to R80, R91 to R93) -/

theorem demandsKept_declare (q : Nat) (d : Declaration) (s : State) : DemandsKept s (declare q d s) := by
  unfold declare
  extract_lets badZone
  refine rel_ite (demandsKept_notice _ _ _ s) ?_
  split
  · exact demandsKept_notice _ _ _ s
  · split
    · rename_i i near
      exact (demandsKept_mergeRecord .declaration (mem_of_incidentAt near) (mergedDeclaration_saved _ d _ i)).trans
        (demandsKept_absorb _ _ _)
    · exact demandsKept_listIncident _ s

/-- R92, R138: with the last incident go the plan and its demand. -/
theorem demandInRange_of_emptied {s t : State} (h : Emptied s t) : demandInRange t = true :=
  (demandInRange_iff t).2 ⟨h.plan ▸ Nat.zero_le _, h.list ▸ savedInRange_nil⟩

theorem demandsKept_clearAll (s : State) : DemandsKept s (clearAll s) := fun _ =>
  demandInRange_of_emptied (listEmptied_leaves _ (by rw [(announced_removeAll _ s rfl).incidents]; rfl))

theorem demandsKept_clearOne (number : Nat) (s : State) : DemandsKept s (clearOne number s) := by
  unfold clearOne
  simp only []
  generalize hl : (s.incidents.list.filter fun i => decide (i.number ≠ number)) = rest
  split
  · rename_i empty
    refine fun _ => demandInRange_of_emptied (listEmptied_leaves _ ?_)
    rw [clearedNotice, (announced_notice _ _ _ _).incidents]
    exact List.isEmpty_iff.1 empty
  · refine DemandsKept.trans (t := s.setIncidents { s.incidents with list := rest })
      (.of_saved rfl fun list j hj => list j (List.mem_of_mem_filter (hl ▸ hj))) ?_
    exact (demandsKept_notice _ _ _ _).trans (demandsKept_settleHead _ _)

theorem demandsKept_clearIncident (n : Nat) (s : State) : DemandsKept s (clearIncident n s) :=
  rel_ite (rel_ite (demandsKept_clearAll s) (demandsKept_notice _ _ _ s))
    (rel_ite (demandsKept_clearOne n s) (demandsKept_notice _ _ _ s))

/-- R93: the list emptied at the end of dry run; without a head the plan stands. -/
theorem demandsKept_emptyIncidents (s : State) : DemandsKept s (emptyIncidents s) := by
  have rest := (announced_emptied s).relayed.rest
  have leaves : emptyIncidents s = if incidentListed s = true
      then listEmptied (headNumber s) (emptyCandidates (removeAll s.incidents.list.length s))
      else emptyCandidates (removeAll s.incidents.list.length s) := rfl
  rw [leaves]
  generalize emptyCandidates (removeAll s.incidents.list.length s) = t at rest
  have list : t.incidents.list = [] := by rw [rest]; rfl
  exact rel_ite (fun _ => demandInRange_of_emptied (listEmptied_leaves _ list))
    (.of_saved (by rw [rest]; rfl) fun _ => list ▸ savedInRange_nil)

end Sys2Proof.Machine
end

section
/-!
The demand of the head plan and of the saved plans (R142) across every command and every step.
-/

namespace Sys2Proof.Machine

open Sys2Proof

/-! ## Ring IN and ring OUT -/

theorem demandsKept_count (s : State) (f : Counters → Counters) : DemandsKept s (s.count f) := by
  unfold State.count
  exact rel_ite (.refl s) (.of_same rfl rfl)

/-- Whatever its mark or kind, a report offered moves no demand. -/
theorem demandsKept_offerReport (q : QFrame) (s : State) : DemandsKept s (offerReport q s) := by
  by_cases room : insertCount s.port < Config.insertCapacity
  · rw [offerReport_of_room q room]
    exact .after (demandsKept_relayed (serve_leaves _)) rfl rfl
  · rw [offerReport_of_full q room]
    exact demandsKept_relayed (dropReport_rest q s)

theorem demandsKept_observe (f : Frame) (s : State) : DemandsKept s (observe f s) := by
  unfold observe
  split
  · exact demandsKept_count s _
  · split
    · exact demandsKept_count s _
    · split
      · split
        · exact demandsKept_count s _
        · exact .of_same rfl rfl
      · exact .refl s

theorem demandsKept_useOrCount (f : Frame) (s : State) : DemandsKept s (useOrCount f s) :=
  rel_ite (.refl s) (rel_ite (demandsKept_count s _) (rel_ite (demandsKept_observe f s) (.refl s)))

theorem demandsKept_dispatchRequest (f : Frame) (l : Lookup) (s : State) : DemandsKept s (dispatchRequest f l s) :=
  rel_ite ((demandsKept_count s _).trans (.of_same rfl rfl)) (.of_same rfl rfl)

theorem demandsKept_dispatchCentre (f : Frame) (s : State) : DemandsKept s (dispatchCentre f s) := by
  unfold dispatchCentre
  split
  · split
    · exact demandsKept_count s _
    · exact .of_same rfl rfl
  · exact demandsKept_count s _

theorem demandsKept_consume (f : Frame) (s : State) : DemandsKept s (consume f s) :=
  rel_ite (.refl s) <| rel_ite (rel_ite (demandsKept_dispatchRequest f _ s) (.refl s)) <|
    rel_ite (demandsKept_dispatchRequest f _ s) <|
      rel_ite (demandsKept_dispatchCentre f s) (demandsKept_useOrCount f s)

theorem demandsKept_route (restored : Bool) (bytes : List Byte) (s : State) :
    DemandsKept s (route restored bytes s) := by
  have noticed : DemandsKept s (restoredNotice restored s) := rel_ite (demandsKept_headNotice _ _ s) (.refl s)
  have forwarded : ∀ t, DemandsKept t (forwardFrame restored bytes t) := fun t =>
    demandsKept_relayed (relayed_forwardFrame restored bytes t).rest
  exact rel_ite noticed <| rel_ite (noticed.trans (demandsKept_consume _ _)) <|
    rel_ite (forwarded s) <| rel_ite (noticed.trans (demandsKept_interception _))
      ((demandsKept_useOrCount _ s).trans (forwarded _))

theorem demandsKept_receive (bytes : List Byte) (s : State) : DemandsKept s (receive bytes s) :=
  rel_ite (demandsKept_count s _) <| (demandsKept_count s _).trans <|
    DemandsKept.after (t := restartSilence (countGood s)) (demandsKept_route _ _ _) rfl rfl

theorem demandsKept_endTransmission (s : State) : DemandsKept s (endTransmission s) := by
  unfold endTransmission
  split
  · exact .refl s
  · exact rel_ite (.of_same rfl rfl) (.after (demandsKept_relayed (serve_leaves _)) rfl rfl)

theorem demandsKept_raiseSilent (s : State) : DemandsKept s (raiseSilent s) :=
  DemandsKept.after (t := s.setPort { s.port with inSilent := true, silentFor := 0 })
    (rel_ite (.refl _) (demandsKept_headNotice _ _ _)) rfl rfl

theorem demandsKept_readTestCounters (source sequence : Nat) (s : State) :
    DemandsKept s (readTestCounters source sequence s) :=
  DemandsKept.after (t := s.testCount LoopTest.cleared) (demandsKept_offerReport _ _) rfl rfl

theorem demandsKept_frameIn (bytes : List Byte) (s : State) : DemandsKept s (frameIn bytes s) := by
  refine rel_ite (.refl s) (rel_ite (rel_ite (.of_same rfl rfl) ?_) (demandsKept_receive bytes s))
  refine DemandsKept.after (t := restartSilence s) ?_ rfl rfl
  exact rel_ite (rel_ite (.of_same rfl rfl) (.of_same rfl rfl)) (rel_ite (demandsKept_readTestCounters _ _ _) (.refl _))

/-! ## Resets and the end of a step -/

theorem demandsKept_offerTestFrame (s : State) : DemandsKept s (offerTestFrame s) :=
  (demandsKept_offerCommand ⟨strappedAddr s.chip.strap, kindTest, testPayload s.test.number, false⟩ s).trans
    (.of_same rfl rfl)

/-- R96, R141: a reset leaves neither plan nor incident. -/
theorem demandInRange_endReset (addr : BitVec 6) (test : Bool) (s : State) :
    demandInRange (endReset addr test s) = true := by
  cases test
  · rfl
  · exact demandsKept_offerTestFrame _ rfl

theorem demandsKept_settle (s : State) : DemandsKept s (settle s) := by
  unfold settle
  by_cases due : s.chip.softResetDue = true
  · rw [if_pos due]
    exact fun _ => demandInRange_endReset _ _ s
  · rw [if_neg due]
    exact .of_same rfl rfl

/-- An outcome answers no state with a demand out of its range. -/
def AnswersDemands (s : State) (o : Host.Outcome State Fault Refusal) : Prop := ∀ t, o = .next t → DemandsKept s t

theorem answersDemands_finish {s t : State} (h : DemandsKept s t) : AnswersDemands s (finish t) := by
  rintro u ⟨⟩
  exact h.trans (demandsKept_settle t)

/-- A timed event that takes effect when it is due. -/
theorem answersDemands_due {s t : State} {c : Prop} [Decidable c] (h : DemandsKept s t) :
    AnswersDemands s (finish (if c then t else s)) := answersDemands_finish (rel_ite h (.refl s))

/-- A command in service, struck from the dispatched frames. -/
theorem answersDemands_taken {s u : State} {p : Prop} [Decidable p] (c : Instr) (h : DemandsKept (took c s) u) :
    AnswersDemands s (finish (if p then u else took c s)) :=
  answersDemands_finish (.after (rel_ite h (.refl _)) rfl rfl)

/-! ## Samples and trains -/

theorem demandsKept_raise (e : Option Detection) (s : State) : DemandsKept s (raise e s) := by
  cases e
  · exact .refl s
  · exact demandsKept_takeEvent _ s

theorem demandsKept_takeTrain (p : TrainReport) (injected : Bool) (s : State) :
    DemandsKept s (takeTrain p injected s) := by
  have taken : ∀ t, DemandsKept t (if reportRaises s p = true
      then takeEvent (fireEvent s.tables s.params.L (trainOf p s.clock injected)) t else t) := fun t =>
    rel_ite (demandsKept_takeEvent _ t) (.refl t)
  exact .after ((taken _).trans (demandsKept_tableChanged _)) rfl rfl

theorem demandsKept_takeDeparture (id : Nat) (s : State) : DemandsKept s (takeDeparture id s) := by
  unfold takeDeparture
  split
  · exact .refl s
  · exact .after (demandsKept_tableChanged _) rfl rfl

theorem demandsKept_takeTrainReport (p : TrainReport) (injected : Bool) (s : State) :
    DemandsKept s (takeTrainReport p injected s) :=
  rel_ite (demandsKept_takeDeparture _ s) (demandsKept_takeTrain p injected s)

theorem demandsKept_removeTrains (drop : Train → Bool) (s : State) : DemandsKept s (removeTrains drop s) :=
  rel_ite (.refl s) (.after (demandsKept_tableChanged _) rfl rfl)

theorem demandsKept_lengthChanged (before : Nat) (s : State) : DemandsKept s (lengthChanged before s) :=
  rel_ite (.refl s) (demandsKept_removeTrains _ s)

/-! ## Tables and stored image -/

theorem demandsKept_updateOwnAddr (s : State) : DemandsKept s (updateOwnAddr s) := rel_ite (.refl s) (.of_same rfl rfl)

theorem demandsKept_setLoaded (found : ImageFound) (s : State) : DemandsKept s (setLoaded found s).1 := by
  cases found <;> exact .of_same rfl rfl

theorem demandsKept_endStartUpLoad (s : State) : DemandsKept s (endStartUpLoad s) := by
  have told : ∀ bads l c v x b u, DemandsKept u (tableNotices bads l (tableNotice c v x b u)) :=
    fun bads l c v x b u =>
      demandsKept_relayed ((announced_tableNotice c v x b u).trans (announced_tableNotices bads l _)).relayed.rest
  exact (demandsKept_setLoaded (imageFound s.eeprom) s).trans <| (demandsKept_lengthChanged s.params.L _).trans <|
    (told _ _ _ _ _ _ _).trans <| (demandsKept_leaveStarting _).trans (demandsKept_updateOwnAddr _)

theorem demandsKept_endStore (failed : Bool) (s : State) : DemandsKept s (endStore failed s) :=
  .after (demandsKept_headNotice _ _ _) rfl rfl

theorem answersDemands_makeWrite {s t : State} (polled : List Transfer) (w : StoreWrite) (h : DemandsKept s t) :
    AnswersDemands s (makeWrite polled w t) := by
  unfold makeWrite
  dsimp only
  split
  · exact answersDemands_finish (h.trans (.of_same rfl rfl))
  · rintro u ⟨⟩

/-! ## Requests -/

theorem demandsKept_respond (r : Request) (c : Nat) (st : Status) (t i : Nat) (d : List Byte) (s : State) :
    DemandsKept s (respond r c st t i d s) := demandsKept_offerReport _ s

theorem demandsKept_answerData (code : Nat) (r : Request) (st : Status) (data : List Byte) (s : State) :
    DemandsKept s (answerData code r st data s) := demandsKept_respond _ _ _ _ _ _ s

theorem demandsKept_answer (code : Nat) (r : Request) (st : Status) (s : State) :
    DemandsKept s (answer code r st s) := demandsKept_answerData code r st [] s

theorem demandsKept_checked {rule : State → State} (code : Nat) (r : Request) (form : Bool)
    (h : ∀ s, DemandsKept s (rule s)) (s : State) : DemandsKept s (checked code r form rule s) :=
  rel_ite (demandsKept_answer _ _ _ s) (rel_ite (demandsKept_answer _ _ _ s) (h s))

theorem demandsKept_checkedTable {rule : TableId → State → State} (code : Nat) (r : Request) (form : Bool)
    (h : ∀ id s, DemandsKept s (rule id s)) (s : State) : DemandsKept s (checkedTable code r form rule s) := by
  unfold checkedTable
  split
  · exact demandsKept_checked code r false (fun s => .refl s) s
  · exact demandsKept_checked code r form (h _) s

theorem answersDemands_request {rule : State → State} (c : Instr) (h : ∀ s, DemandsKept s (rule s)) (s : State) :
    AnswersDemands s (finish (takeRequest c rule s)) := answersDemands_taken c (h _)

theorem demandsKept_handOpen (id : TableId) (s : State) : DemandsKept s (handOpen id s) := by
  have opened : DemandsKept s (if id.isGeometry = true then emptyCandidates (geometryOpened s) else s) :=
    rel_ite ((demandsKept_geometryOpened s).trans (demandsKept_emptyCandidates _)) (.refl s)
  cases id
  case global => exact opened.trans (demandsKept_updateOwnAddr _)
  case stations => exact opened.trans (.of_same rfl rfl)
  case fans => exact opened.trans (.of_same rfl rfl)
  all_goals exact opened

theorem demandsKept_openLoad (r : Request) (id : TableId) (s : State) : DemandsKept s (openLoad r id s) := by
  refine rel_ite (demandsKept_answer _ _ _ s) (rel_ite (demandsKept_answer _ _ _ s) ?_)
  exact DemandsKept.after (t := setTable id (openedTable id) s)
    ((demandsKept_answer 1 r .done _).trans ((demandsKept_headNotice _ _ _).trans (demandsKept_handOpen id _))) rfl rfl

theorem demandsKept_writeRecord (r : Request) (id : TableId) (s : State) : DemandsKept s (writeRecord r id s) :=
  rel_ite (demandsKept_answer _ _ _ s) <| rel_ite (demandsKept_answer _ _ _ s) <|
    rel_ite (demandsKept_answer _ _ _ s) (.after (demandsKept_answer 2 r .done _) rfl rfl)

theorem demandsKept_handClose (id : TableId) (before : Nat) (passed : Bool) (s : State) :
    DemandsKept s (handClose id before passed s) :=
  ((demandsKept_updateOwnAddr s).trans (demandsKept_lengthChanged before _)).trans <|
    rel_ite ((demandsKept_geometryClosed _).trans (demandsKept_geometryLookup _)) <|
      rel_ite (demandsKept_scenarioSetValid _) (.refl _)

theorem demandsKept_closeLoad (r : Request) (id : TableId) (s : State) : DemandsKept s (closeLoad r id s) := by
  refine rel_ite (demandsKept_answer _ _ _ s) ?_
  dsimp only
  split
  all_goals
    refine DemandsKept.after (t := s.setTables (closeTable id (at16 r.fields 0) s.tables).1) ?_ rfl rfl
    exact (demandsKept_respond _ _ _ _ _ _ _).trans <|
      (demandsKept_headNotice _ _ _).trans (demandsKept_handClose _ _ _ _)

theorem demandsKept_readRecord (r : Request) (id : TableId) (s : State) : DemandsKept s (readRecord r id s) :=
  rel_ite (demandsKept_answer _ _ _ s) (demandsKept_answerData _ _ _ _ s)

theorem demandsKept_readState (r : Request) (s : State) : DemandsKept s (readState r s) := by
  unfold readState
  split
  · exact demandsKept_answer _ _ _ s
  · exact demandsKept_answerData _ _ _ _ s

theorem demandsKept_readFan (r : Request) (s : State) : DemandsKept s (readFan r s) :=
  rel_ite (demandsKept_answer _ _ _ s) (demandsKept_answerData _ _ _ _ s)

theorem demandsKept_readCounters (r : Request) (s : State) : DemandsKept s (readCounters r s) :=
  DemandsKept.after (t := clearCounters s) (demandsKept_answerData _ _ _ _ _) rfl rfl

/-- R199: the list goes first, then what injections left behind. -/
theorem demandsKept_endDryRun (s : State) : DemandsKept s (endDryRun s) := by
  have emptied : DemandsKept s (clearInjectedSamples (setDryRun false (emptyIncidents s))) :=
    (demandsKept_emptyIncidents s).trans (.of_same rfl rfl)
  exact (emptied.trans (demandsKept_removeTrains Train.injected _)).trans (.of_same rfl rfl)

theorem demandsKept_setTestMode (r : Request) (s : State) : DemandsKept s (setTestMode r s) := by
  unfold setTestMode
  split
  · exact DemandsKept.trans (rel_ite (demandsKept_endDryRun s) (.refl s)) (demandsKept_answer _ _ _ _)
  · exact rel_ite (demandsKept_answer _ _ _ s) (.after (demandsKept_answer 9 r .done (setDryRun true s)) rfl rfl)
  · exact demandsKept_answer _ _ _ s

theorem demandsKept_takeInjected (c : Instr) (s : State) : DemandsKept s (takeInjected c s) := by
  unfold takeInjected
  split
  · exact .of_same rfl rfl
  · exact .after (demandsKept_raise _ _) rfl rfl
  · exact .after (demandsKept_raise _ _) rfl rfl
  · exact .after (demandsKept_raise _ _) rfl rfl
  · exact .refl s

theorem demandsKept_inject (r : Request) (s : State) : DemandsKept s (inject r s) := by
  have answers : ∀ {t} d, DemandsKept s t → DemandsKept s (answerData 10 r .done d t) := fun d h =>
    h.trans (demandsKept_answerData _ _ _ _ _)
  have sample : ∀ kind c, DemandsKept s (injectSample r kind c s) := fun kind c =>
    rel_ite (demandsKept_answer _ _ _ s) <| rel_ite (demandsKept_answer _ _ _ s) <|
      answers _ (demandsKept_takeInjected c s)
  have train : ∀ p, DemandsKept s (injectTrain r p s) := fun p => by
    refine rel_ite ?_ (answers _ (demandsKept_takeTrain p true s))
    split
    · exact answers _ (demandsKept_takeDeparture p.id s)
    · exact demandsKept_answer _ _ _ s
  have status : ∀ st, DemandsKept s (injectStatus r st s) := fun st =>
    rel_ite (demandsKept_answer _ _ _ s) (answers _ (demandsKept_takeStatus r.index st true s))
  refine rel_ite (demandsKept_answer _ _ _ s) ?_
  dsimp only
  split
  · exact train _
  · exact status _
  · exact sample _ _
  · exact demandsKept_answer _ _ _ s

theorem demandsKept_softReset (r : Request) (s : State) : DemandsKept s (softReset r s) :=
  rel_ite (demandsKept_answer _ _ _ s) (demandsKept_offerReport _ s)

/-! ## Every command -/

theorem answersDemands_storeTables (r : Request) (s : State) : AnswersDemands s (execStoreTables r s) := by
  unfold execStoreTables
  dsimp only
  split
  · exact answersDemands_makeWrite _ _
      (DemandsKept.after (t := took (.storeTables r) s) (demandsKept_answer 8 r .done _) rfl rfl)
  · exact answersDemands_request _ (demandsKept_checked 8 r true fun s => demandsKept_answer _ _ _ s) s

theorem answersDemands_storeWriteReady (s : State) : AnswersDemands s (execStoreWriteReady s) := by
  unfold execStoreWriteReady
  split
  · exact answersDemands_finish (.refl s)
  · dsimp only
    split
    · exact answersDemands_finish (.of_same rfl rfl)
    · split
      · exact answersDemands_makeWrite _ _ (.of_same rfl rfl)
      · exact answersDemands_finish (.after (demandsKept_endStore false _) rfl rfl)

theorem answersDemands_storeWriteTimeout (s : State) : AnswersDemands s (execStoreWriteTimeout s) := by
  unfold execStoreWriteTimeout
  split
  · exact answersDemands_finish (.refl s)
  · exact answersDemands_due (.after (demandsKept_endStore true _) rfl rfl)

/-- R142: every command keeps the demands in their range. -/
theorem exec_answersDemands (c : Instr) (s : State) : AnswersDemands s (exec c s) := by
  have event : ∀ f (body : State → State × Bool), DemandsKept s (body s).1 → DemandsKept s (fanEvent f body s) :=
    fun f body own => demandsKept_steps.fanEvent f body s own
  cases c with
  | powerOnReset loop addr => exact answersDemands_finish fun _ => demandInRange_endReset _ _ s
  | resetN => exact answersDemands_finish fun _ => rfl
  | resetNRelease addr => exact answersDemands_due fun _ => demandInRange_endReset _ _ s
  | frameReceived bytes => exact answersDemands_finish (demandsKept_frameIn bytes s)
  | transmissionEnd => exact answersDemands_finish (demandsKept_endTransmission s)
  | inSilentRaised => exact answersDemands_due (demandsKept_raiseSilent s)
  | stripAddressExpiry => exact answersDemands_due (.of_same rfl rfl)
  | velocitySample i v q => exact answersDemands_taken _ (.of_same rfl rfl)
  | opacitySample i e q => exact answersDemands_taken _ (.after (demandsKept_raise _ _) rfl rfl)
  | temperatureSample i x q => exact answersDemands_taken _ (.after (demandsKept_raise _ _) rfl rfl)
  | heatLineReport i l a => exact answersDemands_taken _ (.after (demandsKept_raise _ _) rfl rfl)
  | trainReport p => exact answersDemands_taken _ (demandsKept_takeTrainReport p false _)
  | fanStatus f st =>
    exact answersDemands_taken _ (rel_ite (rel_ite (.refl _) (.of_same rfl rfl)) (demandsKept_takeStatus f st false _))
  | incidentDeclare q d => exact answersDemands_taken _ (demandsKept_declare q d _)
  | incidentClear n => exact answersDemands_taken _ (demandsKept_clearIncident n _)
  | authorityRelease n =>
    exact answersDemands_taken _ (rel_ite (demandsKept_exitAutonomous _ _) (demandsKept_headNotice _ _ _))
  | authorityResume => exact answersDemands_taken _ (demandsKept_resumeAuthority _)
  | openLoad r => exact answersDemands_request _ (demandsKept_checkedTable 1 r true (demandsKept_openLoad r)) s
  | writeRecord r => exact answersDemands_request _ (demandsKept_checkedTable 2 r true (demandsKept_writeRecord r)) s
  | closeLoad r => exact answersDemands_request _ (demandsKept_checkedTable 3 r _ (demandsKept_closeLoad r)) s
  | readRecord r => exact answersDemands_request _ (demandsKept_checkedTable 4 r true (demandsKept_readRecord r)) s
  | readState r => exact answersDemands_request _ (demandsKept_checked 5 r true (demandsKept_readState r)) s
  | readFan r => exact answersDemands_request _ (demandsKept_checked 6 r true (demandsKept_readFan r)) s
  | readCounters r => exact answersDemands_request _ (demandsKept_checked 7 r true (demandsKept_readCounters r)) s
  | storeTables r => exact answersDemands_storeTables r s
  | setTestMode r => exact answersDemands_request _ (demandsKept_checked 9 r _ (demandsKept_setTestMode r)) s
  | inject r => exact answersDemands_request _ (demandsKept_checked 10 r _ (demandsKept_inject r)) s
  | softReset r => exact answersDemands_request _ (demandsKept_checked 11 r true (demandsKept_softReset r)) s
  | candidateDeadline k => exact answersDemands_due (demandsKept_discard 0 .expired k s)
  | phaseTimerExpiry =>
    exact answersDemands_due <| (demandsKept_setPhaseTimer none s).trans <|
      (demandsKept_setPhase .staging _).trans (demandsKept_announcePhase .staging _)
  | lockTimerExpiry n => exact answersDemands_due (demandsKept_lockExpires n s)
  | trimTimerExpiry => exact answersDemands_due (.after (demandsKept_trimStep _) rfl rfl)
  | statusAgeUnknown f => exact answersDemands_due (event f _ (demandsKept_ageUnknown f s))
  | ackDeadline f => exact answersDemands_due (event f _ (demandsKept_ackPasses f s))
  | resendTime f => exact answersDemands_due (demandsKept_steps.resendNow f s)
  | silenceResend => exact answersDemands_due (demandsKept_steps.silenceResendAll s)
  | startSpacingExpiry => exact answersDemands_due (.after (demandsKept_steps.startTests _) rfl rfl)
  | dwellTimerExpiry f => exact answersDemands_due (event f _ (demandsKept_steps.dwellEnd f s))
  | startTimerExpiry f => exact answersDemands_due (event f _ (demandsKept_steps.failedAttempt f s))
  | holdRefresh => exact answersDemands_due (demandsKept_claimHold s)
  | trainRecordExpiry k => exact answersDemands_due (.after (demandsKept_tableChanged _) rfl rfl)
  | startUpLoadEnd answers => exact answersDemands_due (.after (demandsKept_endStartUpLoad _) rfl rfl)
  | storeWriteReady => exact answersDemands_storeWriteReady s
  | storeWriteTimeout => exact answersDemands_storeWriteTimeout s
  | testFrameOffer => exact answersDemands_due (demandsKept_offerTestFrame s)
  | testFrameDeadline n => exact answersDemands_due (.of_same rfl rfl)
  | testFrameReceived bytes => exact answersDemands_finish (demandsKept_frameIn bytes s)
  | testReadCounters a q => exact answersDemands_due (demandsKept_readTestCounters a q s)

/-! ## Every step -/

/-- R110: of a saved plan a millisecond moves the lock timer alone. -/
theorem demandsKept_tick (s : State) : DemandsKept s (tick s) := by
  refine rel_ite (.refl s) (.of_saved ?_ fun list => list.map fun i _ => ?_)
  · rfl
  · simp only [Incident.tick, Incident.savedDemand, Option.map_map]
    rfl

theorem demandsKept_idle (s : State) : DemandsKept s (idle s) := by
  unfold idle
  split
  · rename_i d rest _
    unfold takeDispatch
    split
    · exact .of_same rfl rfl
    · refine DemandsKept.trans (DemandsKept.after (t := s.setDispatched rest) ?_ rfl rfl) (demandsKept_settle _)
      exact rel_ite (demandsKept_checked _ _ false (fun s => .refl s) _) (.refl _)
  · exact .of_same rfl rfl
  · exact demandsKept_tick s

/-- Settles O8: command by command, and over the step on an empty queue. -/
theorem demandKeepsItsRange : Obligations.DemandKeepsItsRange := by
  intro s t held stepped
  unfold step at stepped
  split at stepped
  · cases stepped
    exact demandsKept_idle s held
  · exact exec_answersDemands _ _ t stepped held

end Sys2Proof.Machine
end

section
/-!
Who may have a FAN COMMAND wait, and how many fans start: the two invariants of R146, R148, R171 and R154 are walked
through the operations once. What a frame offered, a walk and a notice leave of them; and the Fan Sequencer, whose one
send asks for command, and whose one start asks for a free slot.
-/

namespace Sys2Proof.Machine

open Sys2Proof

/-! ## The relations -/

/-- Fans, authority and parameters are as in `s`, and no FAN COMMAND waits that did not wait there. -/
structure FansUntouched (s t : State) : Prop where
  commands : ∀ q ∈ t.port.commands, q.kind = kindFanCommand → q ∈ s.port.commands
  fans : t.fans = s.fans
  state : t.auth.state = s.auth.state
  dryRun : t.auth.dryRun = s.auth.dryRun
  params : t.params = s.params

/-- Beside fans, authority, parameters and FAN COMMANDs, incidents are listed in `t` exactly where they are in `s`. -/
structure Untouched (s t : State) : Prop extends FansUntouched s t where
  listed : t.incidents.list = [] ↔ s.incidents.list = []

/-- The state `t` keeps what `s` keeps of R146, R148 and R171, and of R154 under the S_max of both. -/
structure Governed (s t : State) : Prop where
  authority : commandUnderAuthority s = true → commandUnderAuthority t = true
  slots : startingCount s ≤ s.params.sMax → startingCount t ≤ t.params.sMax
  sMax : t.params.sMax = s.params.sMax

theorem commandUnderAuthority_iff (s : State) : commandUnderAuthority s = true ↔
    (∀ q ∈ s.port.commands, q.kind = kindFanCommand → s.fans.inCommand = true ∧ s.auth.dryRun = false) ∧
      (s.fans.inCommand = true → s.auth.state = .autonomous) ∧
      (s.auth.state = .autonomous ∨ s.auth.state = .released → s.incidents.list ≠ []) := by
  have waits : fanCommandWaits s = true ↔ ∃ q ∈ s.port.commands, q.kind = kindFanCommand := by
    simp [fanCommandWaits]
  simp only [commandUnderAuthority, Bool.and_eq_true, Bool.or_eq_true, Bool.not_eq_true', ← Bool.not_eq_true, waits,
    ← imp_iff_not_or, decide_eq_true_eq, incidentListed, List.isEmpty_iff, and_assoc]
  exact and_congr_left' ⟨fun h q waiting fan => h ⟨q, waiting, fan⟩, fun h ⟨q, waiting, fan⟩ => h q waiting fan⟩

theorem FansUntouched.trans {s t u : State} (a : FansUntouched s t) (b : FansUntouched t u) : FansUntouched s u where
  commands := fun q waits fan => a.commands q (b.commands q waits fan) fan
  fans := b.fans.trans a.fans
  state := b.state.trans a.state
  dryRun := b.dryRun.trans a.dryRun
  params := b.params.trans a.params

theorem Untouched.refl (s : State) : Untouched s s := ⟨⟨fun _ waits _ => waits, rfl, rfl, rfl, rfl⟩, Iff.rfl⟩

theorem Untouched.trans {s t u : State} (a : Untouched s t) (b : Untouched t u) : Untouched s u :=
  ⟨a.toFansUntouched.trans b.toFansUntouched, b.listed.trans a.listed⟩

/-- A change of blocks that the two invariants do not read. -/
theorem untouched {s t : State}
    (commands : ∀ q ∈ t.port.commands, q.kind = kindFanCommand → q ∈ s.port.commands := by exact fun _ waits _ => waits)
    (fans : t.fans = s.fans := by rfl) (state : t.auth.state = s.auth.state := by rfl)
    (dryRun : t.auth.dryRun = s.auth.dryRun := by rfl) (params : t.params = s.params := by rfl)
    (listed : t.incidents.list = [] ↔ s.incidents.list = [] := by rfl) : Untouched s t :=
  ⟨⟨commands, fans, state, dryRun, params⟩, listed⟩

/-- What the Ring Port relays without a new FAN COMMAND. -/
theorem untouched_relayed {s t : State} (rest : t = { s with port := t.port, chip := t.chip, test := t.test })
    (commands : ∀ q ∈ t.port.commands, q.kind = kindFanCommand → q ∈ s.port.commands) : Untouched s t :=
  untouched commands (by rw [rest]) (by rw [rest]) (by rw [rest]) (by rw [rest]; rfl) (by rw [rest])

theorem startingCount_of_fans {s t : State} (fans : t.fans = s.fans) : startingCount t = startingCount s := by
  rw [startingCount, startingCount, fans]

theorem FansUntouched.governed {s t : State} (h : FansUntouched s t)
    (listed : s.incidents.list ≠ [] → t.incidents.list ≠ []) : Governed s t := by
  refine ⟨fun held => ?_, fun held => ?_, by rw [h.params]⟩
  · obtain ⟨waiting, command, authority⟩ := (commandUnderAuthority_iff s).1 held
    refine (commandUnderAuthority_iff t).2 ⟨fun q waits fan => ?_, ?_, fun state => ?_⟩
    · rw [h.fans, h.dryRun]
      exact waiting q (h.commands q waits fan) fan
    · rw [h.fans, h.state]
      exact command
    · rw [h.state] at state
      exact listed (authority state)
  · rw [startingCount_of_fans h.fans, h.params]
    exact held

theorem Untouched.governed {s t : State} (h : Untouched s t) : Governed s t :=
  h.toFansUntouched.governed fun listed => listed ∘ h.listed.1

theorem Governed.refl (s : State) : Governed s s := (Untouched.refl s).governed

theorem Governed.trans {s t u : State} (a : Governed s t) (b : Governed t u) : Governed s u :=
  ⟨b.authority ∘ a.authority, b.slots ∘ a.slots, b.sMax.trans a.sMax⟩

/-- What follows a change of blocks that the two invariants do not read. -/
theorem Governed.after {s t u : State} (b : Governed t u) (a : Untouched s t := by exact untouched) : Governed s u :=
  a.governed.trans b

/-! ## Ring OUT and the insert queue -/

theorem serve_commands {s : State} {q : QFrame} (waits : q ∈ (serve s).port.commands) : q ∈ s.port.commands := by
  unfold serve at waits
  split at waits
  · exact waits
  · split at waits
    · exact waits
    · split at waits <;> exact waits
    · split at waits
      · rename_i queued
        exact queued ▸ List.mem_cons_of_mem _ waits
      · split at waits <;> exact waits

theorem untouched_serve (s : State) : Untouched s (serve s) :=
  untouched_relayed (serve_leaves s) fun _ waits _ => serve_commands waits

theorem untouched_count (s : State) (f : Counters → Counters) : Untouched s (s.count f) := by
  unfold State.count
  exact rel_ite (.refl s) untouched

theorem untouched_dropReport (q : QFrame) (s : State) : Untouched s (dropReport q s) :=
  untouched_relayed (dropReport_rest q s) fun _ waits _ => (dropReport_queues q s).2.1 ▸ waits

theorem untouched_offerReport (q : QFrame) (s : State) : Untouched s (offerReport q s) :=
  rel_ite (.trans untouched (untouched_serve _)) (untouched_dropReport q s)

theorem untouched_notice (c n : Nat) (f : List Byte) (s : State) : Untouched s (notice c n f s) :=
  untouched_offerReport _ s

theorem untouched_headNotice (c : Nat) (f : List Byte) (s : State) : Untouched s (headNotice c f s) :=
  untouched_notice c _ f s

/-- R12: a command offered waits, or is dropped. -/
theorem offerCommand_waits {s : State} {q c : QFrame} (waits : c ∈ (offerCommand q s).port.commands) :
    c = q ∨ c ∈ s.port.commands := by
  have entered : c ∈ s.port.commands ++ [q] → c = q ∨ c ∈ s.port.commands := fun h =>
    (List.mem_append.1 h).symm.imp_left List.mem_singleton.1
  unfold offerCommand at waits
  split at waits
  · exact entered (serve_commands waits)
  · split at waits
    · have waits := serve_commands waits
      rw [(dropReport_queues _ _).2.1] at waits
      exact entered waits
    · unfold State.count at waits
      split at waits <;> exact .inr waits

theorem untouched_offerCommand {q : QFrame} (s : State) (other : q.kind ≠ kindFanCommand) :
    Untouched s (offerCommand q s) :=
  untouched_relayed (offerCommand_rest q s) fun _ waits fan =>
    (offerCommand_waits waits).resolve_left fun same => other (same ▸ fan)

/-! ## Holds, walks and the head phase -/

theorem untouched_offerHold (x n : Nat) (s : State) : Untouched s (offerHold x n s) :=
  let q : QFrame := ⟨noticeDest s, kindHold, [byte x, byte n], false⟩
  (untouched_offerCommand (q := q) s (by simp [q, kindHold, kindFanCommand])).trans
    { commands := fun _ waits _ => waits
      fans := rfl
      state := by rw [offerCommand_rest]; rfl
      dryRun := by rw [offerCommand_rest]; rfl
      params := rfl
      listed := Iff.rfl }

theorem untouched_claimHold (s : State) : Untouched s (claimHold s) := (untouched_offerHold _ _ s).trans untouched

theorem untouched_interception (s : State) : Untouched s (interception s) :=
  let counted : State := s.setAuth { s.auth with intercepted := satCount 255 s.auth.intercepted }
  Untouched.trans (t := counted) untouched (rel_ite (untouched_claimHold _) (.refl _))

theorem untouched_interceptions (n : Nat) (s : State) : Untouched s (interceptions n s) := by
  induction n generalizing s with
  | zero => exact .refl s
  | succ n ih => exact (untouched_interception s).trans (ih _)

theorem untouched_setDemand (x : Int) (s : State) : Untouched s (setDemand x s) :=
  rel_ite (.trans untouched (untouched_headNotice _ _ _)) untouched

theorem untouched_computeOpenLoop (s : State) : Untouched s (computeOpenLoop s) := by
  unfold computeOpenLoop
  split
  · exact .refl s
  · exact untouched_setDemand _ s

theorem untouched_takeSelection (sel : List Nat) (s : State) : Untouched s (takeSelection sel s) :=
  rel_ite untouched (.trans untouched (untouched_headNotice _ _ _))

theorem untouched_setPhase (p : Phase) (s : State) : Untouched s (setPhase p s) := by
  refine untouched (listed := ?_)
  simp only [setPhase, State.setIncidents_incidents]
  split <;> simp [*]

theorem untouched_phaseTest (s : State) : Untouched s (phaseTest s) := by
  have entered : ∀ p x, Untouched s (setTrim x (phaseNotice p (setPhase p s))) := fun p x =>
    ((untouched_setPhase p s).trans (untouched_headNotice _ _ _)).trans untouched
  unfold phaseTest
  split
  · exact entered _ _
  · exact entered _ _
  · exact .refl s

theorem untouched_notifyChange (f : Nat) (old : FanState) (s : State) : Untouched s (notifyChange f old s) :=
  rel_ite (untouched_phaseTest s) (.refl s)

/-! ## Fan records -/

/-- The fans change: the part is in command as before, and no more of them are STARTING. -/
theorem governed_setFans {s : State} {x : Sequencer} (inCommand : x.inCommand = s.fans.inCommand)
    (fewer : startingCount (s.setFans x) ≤ startingCount s) : Governed s (s.setFans x) := by
  refine ⟨fun held => ?_, fewer.trans, rfl⟩
  rw [commandUnderAuthority_iff] at held ⊢
  rwa [State.setFans_fans, inCommand]

/-- Records changed one by one, none of them to STARTING. -/
theorem starting_mapIdx_le (l : List FanRecord) {g : Nat → FanRecord → FanRecord}
    (still : ∀ f r, (g f r).state = .starting → r.state = .starting) :
    (l.mapIdx g).countP (fun r => decide (r.state = .starting)) ≤ l.countP fun r => decide (r.state = .starting) := by
  induction l generalizing g with
  | nil => exact Nat.le_refl _
  | cons r l ih =>
    have rest := ih fun f => still (f + 1)
    have first := still 0 r
    simp only [List.mapIdx_cons, List.countP_cons, decide_eq_true_eq]
    split_ifs with now was
    · omega
    · exact absurd (first now) was
    · omega
    · omega

theorem starting_map_le (l : List FanRecord) {g : FanRecord → FanRecord}
    (still : ∀ r, (g r).state = .starting → r.state = .starting) :
    (l.map g).countP (fun r => decide (r.state = .starting)) ≤ l.countP fun r => decide (r.state = .starting) := by
  rw [List.countP_map]
  exact List.countP_mono_left fun r _ h => decide_eq_true (still r (of_decide_eq_true h))

/-- One record more or less is STARTING once one record has changed. -/
theorem starting_setFan_le_succ (s : State) (f : Nat) (u : FanRecord) :
    startingCount (s.setFan f u) ≤ startingCount s + 1 := by
  show (s.fans.recs.set f u).countP _ ≤ s.fans.recs.countP _ + 1
  by_cases within : f < s.fans.recs.length
  · rw [List.countP_set within]
    split_ifs <;> omega
  · rw [List.set_eq_of_length_le (Nat.not_lt.1 within)]
    omega

/-- A record that was STARTING, or is not STARTING now. -/
theorem starting_setFan_le (s : State) (f : Nat) {u : FanRecord}
    (still : u.state = .starting → (fanRec s f).state = .starting) :
    startingCount (s.setFan f u) ≤ startingCount s := by
  show (s.fans.recs.set f u).countP _ ≤ s.fans.recs.countP _
  rcases held : s.fans.recs[f]? with _ | r
  · rw [List.set_eq_of_length_le (List.getElem?_eq_none_iff.1 held)]
  · obtain ⟨within, here⟩ := List.getElem?_eq_some_iff.1 held
    rw [fanRec_of_some held] at still
    have counted : r.state = .starting → 0 < s.fans.recs.countP fun r => decide (r.state = .starting) := fun h =>
      List.countP_pos_iff.2 ⟨r, here ▸ List.getElem_mem within, decide_eq_true h⟩
    rw [List.countP_set within, here]
    simp only [decide_eq_true_eq]
    split_ifs with was now now
    · have := counted was
      omega
    · omega
    · exact absurd (still now) was
    · omega

theorem governed_setFan (s : State) (f : Nat) {u : FanRecord}
    (still : u.state = .starting → (fanRec s f).state = .starting := by exact id) : Governed s (s.setFan f u) :=
  governed_setFans rfl (starting_setFan_le s f still)

theorem governed_modFan (f : Nat) {g : FanRecord → FanRecord} (s : State)
    (still : ∀ r, (g r).state = .starting → r.state = .starting := by exact fun _ => id) : Governed s (modFan f g s) :=
  governed_setFan s f (still _)

theorem governed_setFanState (f : Nat) {x : FanState} (s : State) (other : x ≠ .starting) :
    Governed s (setFanState f x s) := governed_modFan f s fun _ same => absurd same other

theorem governed_setQueue (q : List Nat) (s : State) : Governed s (setQueue q s) := governed_setFans rfl (Nat.le_refl _)

theorem governed_leaveQueue (f : Nat) (s : State) : Governed s (leaveQueue f s) := governed_setQueue _ s

/-! ## Fan commands -/

theorem offerFanCommand_fans (f : Nat) (c : FanCommand) (s : State) : (offerFanCommand f c s).fans = s.fans := by
  unfold offerFanCommand
  split
  · exact (untouched_headNotice _ _ s).fans
  · split
    · rw [offerCommand_rest]
    · rfl

/-- R148: a FAN COMMAND is offered in command and out of dry run alone. -/
theorem governed_offerFanCommand (f : Nat) (c : FanCommand) (s : State) : Governed s (offerFanCommand f c s) := by
  unfold offerFanCommand
  split
  · exact (untouched_headNotice _ _ s).governed
  · rename_i service
    split
    · rename_i commanded
      generalize (⟨fanAddr s.tables f, kindFanCommand, commandPayload c, false⟩ : QFrame) = q
      have rest := offerCommand_rest q s
      have fans : (offerCommand q s).fans = s.fans := by rw [rest]
      have auth : (offerCommand q s).auth = s.auth := by rw [rest]
      have incidents : (offerCommand q s).incidents = s.incidents := by rw [rest]
      have params : (offerCommand q s).params = s.params := by rw [rest]; rfl
      refine ⟨fun held => ?_, fun held => ?_, by rw [params]⟩
      · obtain ⟨_, command, listed⟩ := (commandUnderAuthority_iff s).1 held
        refine (commandUnderAuthority_iff _).2 ?_
        rw [fans, auth, incidents]
        exact ⟨fun _ _ _ => ⟨(Bool.and_eq_true_iff.1 commanded).1, Bool.not_eq_true _ ▸ service⟩, command, listed⟩
      · rw [startingCount_of_fans fans, params]
        exact held
    · exact .refl s

theorem governed_sendCommand (f : Nat) (a : Action) (d : Drive) (st : SpeedStep) (s : State) :
    Governed s (sendCommand f a d st s) := (governed_setFan s f).trans (governed_offerFanCommand f _ _)

theorem governed_sendStop (f : Nat) (s : State) : Governed s (sendStop f s) := governed_sendCommand f _ _ _ s

theorem governed_stopFan (f : Nat) (s : State) : Governed s (stopFan f s) :=
  (governed_sendStop f s).trans (governed_modFan f _ fun _ => FanState.noConfusion)

theorem governed_joinQueue (f : Nat) (s : State) : Governed s (joinQueue f s) :=
  rel_ite ((governed_setQueue _ s).trans (governed_setFanState f _ FanState.noConfusion)) (.refl s)

/-! ## The start test (R154) -/

theorem starting_sendCommand_le (f : Nat) (a : Action) (d : Drive) (st : SpeedStep) (s : State) :
    startingCount (sendCommand f a d st s) ≤ startingCount s := by
  refine (startingCount_of_fans (offerFanCommand_fans f _ _)).trans_le ?_
  exact starting_setFan_le s f id

/-- R154: a fan is started where a start slot is free. -/
theorem governed_startFan {f : Nat} {s : State} (may : mayStart f s = true) : Governed s (startFan f s) := by
  have free : startingCount s < s.params.sMax := by
    simp only [mayStart, Bool.and_eq_true, decide_eq_true_eq] at may
    exact may.1.1.2
  unfold startFan
  split
  · exact .refl s
  · rename_i d _ _
    have sent := (governed_leaveQueue f s).trans (governed_sendCommand f .run d (fanRec s f).step (leaveQueue f s))
    have count := starting_sendCommand_le f .run d (fanRec s f).step (leaveQueue f s)
    extract_lets t u
    have started : Governed t u := by
      refine ⟨fun held => ?_, fun _ => ?_, rfl⟩
      · rw [commandUnderAuthority_iff] at held ⊢
        exact held
      · calc startingCount u ≤ startingCount t + 1 := starting_setFan_le_succ t f _
          _ ≤ startingCount s + 1 := Nat.add_le_add_right count 1
          _ ≤ s.params.sMax := free
          _ = u.params.sMax := sent.sMax.symm
    have spaced : Governed u (u.setFans { u.fans with spacing := secondsTimer s.params.startSpacing }) :=
      governed_setFans rfl (Nat.le_refl _)
    exact ((sent.trans started).trans spaced).trans (untouched_notifyChange f _ _).governed

theorem governed_startLoop (n : Nat) (s : State) : Governed s (startLoop n s) := by
  induction n generalizing s with
  | zero => exact .refl s
  | succ n ih =>
    unfold startLoop
    split
    · exact .refl s
    · split
      · rename_i may
        exact (governed_startFan may).trans (ih _)
      · exact .refl s

theorem governed_startTests (s : State) : Governed s (startTests s) := governed_startLoop _ s

/-! ## Wanted states, walks and recomputes (R128, R155, R168) -/

theorem governed_applyWanted (f : Nat) (s : State) : Governed s (applyWanted f s) := by
  unfold applyWanted
  simp only []
  split
  · exact governed_joinQueue f s
  · exact rel_ite (.refl s) ((governed_leaveQueue f s).trans (governed_setFanState f _ FanState.noConfusion))
  · split
    · exact rel_ite (.refl s) (governed_stopFan f s)
    · exact governed_stopFan f s
  · exact rel_ite (.refl s) (governed_stopFan f s)
  · exact rel_ite (.refl s) (governed_stopFan f s)
  · exact .refl s

theorem governed_foldl {g : State → Nat → State} (h : ∀ s f, Governed s (g s f)) (fs : List Nat) (s : State) :
    Governed s (fs.foldl g s) := by
  induction fs generalizing s with
  | nil => exact .refl s
  | cons f fs ih => exact (h s f).trans (ih _)

theorem governed_takeWanted (s : State) (f : Nat) : Governed s (takeWanted s f) :=
  ((governed_applyWanted f s).trans (untouched_notifyChange f _ _).governed).trans (governed_startTests _)

theorem governed_takeWanteds (fs : List Nat) (s : State) : Governed s (takeWanteds fs s) :=
  governed_foldl governed_takeWanted fs s

theorem governed_recordWanted (s : State) : Governed s (recordWanted s) := by
  refine governed_setFans rfl (starting_mapIdx_le _ fun f r => ?_)
  split <;> exact id

theorem governed_handWanted (s : State) : Governed s (handWanted s) :=
  (governed_recordWanted s).trans (governed_takeWanteds _ _)

theorem governed_freshWalk (s : State) : Governed s (freshWalk s) := (untouched_takeSelection _ s).governed
theorem governed_hysteresisWalk (s : State) : Governed s (hysteresisWalk s) := (untouched_takeSelection _ s).governed
theorem governed_phaseTest (s : State) : Governed s (phaseTest s) := (untouched_phaseTest s).governed

theorem governed_rebuilt (s : State) : Governed s (rebuilt s) :=
  ((governed_handWanted s).trans (governed_phaseTest _)).trans (governed_startTests _)

theorem governed_freshRevision (s : State) : Governed s (freshRevision s) :=
  (governed_freshWalk s).trans (governed_rebuilt _)

theorem governed_hysteresisRevision (s : State) : Governed s (hysteresisRevision s) :=
  (governed_hysteresisWalk s).trans (governed_rebuilt _)

theorem governed_recompute (s : State) : Governed s (recompute s).1 := by
  unfold recompute
  split
  · exact ((governed_hysteresisWalk s).trans (governed_recordWanted _)).trans (governed_phaseTest _)
  · exact .refl s

theorem governed_recomputeFor (fs : List Nat) (p : State × List Nat) : Governed p.1 (recomputeFor fs p).1 := by
  induction fs generalizing p with
  | nil => exact .refl _
  | cons f fs ih =>
    obtain ⟨s, acc⟩ := p
    exact (governed_recompute s).trans (ih ((recompute s).1, acc ++ (recompute s).2))

/-! ## Derivation, takeover and the leaving of command (R145 to R147) -/

theorem governed_deriveFan (f : Nat) (s : State) : Governed s (deriveFan f s) := by
  have state : ∀ x t, x ≠ FanState.starting → Governed t (setFanState f x t) := fun x t => governed_setFanState f t
  have stops : ∀ t, Governed t (stopFan f t) := governed_stopFan f
  unfold deriveFan
  refine Governed.trans (t := stopTimers f s) (governed_modFan f s) ?_
  generalize stopTimers f s = t
  dsimp only
  split
  · refine (state .failed t FanState.noConfusion).trans ?_
    split
    case h_5 => exact .refl _
    all_goals exact governed_sendStop f _
  · split
    · exact state _ t FanState.noConfusion
    · split
      · exact state _ t FanState.noConfusion
      · exact state _ t FanState.noConfusion
      · exact rel_ite (state _ t FanState.noConfusion) (stops t)
      · exact rel_ite (governed_modFan f t fun _ => FanState.noConfusion) (stops t)
      · exact stops t
      · exact stops t
      · exact rel_ite (governed_modFan f t fun _ => FanState.noConfusion) (state _ t FanState.noConfusion)

theorem governed_deriveOne (f : Nat) (s : State) : Governed s (deriveOne f s) :=
  (governed_deriveFan f s).trans (governed_joinQueue f _)

/-- R146: command is taken in AUTONOMOUS alone. -/
theorem governed_comeIntoCommand (s : State) : Governed s (comeIntoCommand s) := by
  unfold comeIntoCommand
  split
  · rename_i ready
    have autonomous : s.auth.state = .autonomous := by
      simp only [Bool.and_eq_true, decide_eq_true_eq] at ready
      exact ready.1.2
    have commanded : Governed s (s.setFans { s.fans with inCommand := true }) := by
      refine ⟨fun held => ?_, id, rfl⟩
      obtain ⟨waiting, _, listed⟩ := (commandUnderAuthority_iff s).1 held
      exact (commandUnderAuthority_iff _).2
        ⟨fun q waits fan => ⟨rfl, (waiting q waits fan).2⟩, fun _ => autonomous, listed⟩
    have derived := governed_foldl fun u f => governed_deriveFan f u
    have joined := governed_foldl fun v f => governed_joinQueue f v
    unfold takeover
    exact (((commanded.trans (derived _ _)).trans (joined _ _)).trans (governed_recomputeFor _ (_, []))).trans
      (((governed_phaseTest _).trans (governed_startTests _)).trans (governed_takeWanteds _ _))
  · exact .refl s

/-- R147: what the leaving of command leaves. -/
structure CommandLeft (s t : State) : Prop where
  out : t.fans.inCommand = false
  commands : ∀ q ∈ t.port.commands, q.kind = kindFanCommand → s.fans.inCommand = false ∧ q ∈ s.port.commands
  state : t.auth.state = s.auth.state
  dryRun : t.auth.dryRun = s.auth.dryRun
  params : t.params = s.params
  listed : t.incidents.list = [] ↔ s.incidents.list = []
  starting : startingCount t ≤ startingCount s

theorem leaveCommand_leaves (s : State) : CommandLeft s (leaveCommand s) := by
  unfold leaveCommand
  split
  · generalize left : removeFanCommands _ = t
    have tested := untouched_phaseTest t
    subst left
    exact
      { out := by rw [tested.fans]; rfl
        commands := fun q waits fan => by
          have kept := tested.commands q waits fan
          simp [removeFanCommands, fan] at kept
        state := tested.state
        dryRun := tested.dryRun
        params := tested.params
        listed := tested.listed
        starting := by
          rw [startingCount_of_fans tested.fans]
          refine starting_mapIdx_le _ fun f r => ?_
          split
          · exact FanState.noConfusion
          · exact id }
  · rename_i out
    have out : s.fans.inCommand = false := Bool.not_eq_true _ ▸ out
    exact ⟨out, fun q waits _ => ⟨out, waits⟩, rfl, rfl, rfl, Iff.rfl, Nat.le_refl _⟩

/-- R147, R179: command is left under the authority state `a`. -/
theorem governed_left {a : AuthState} {s : State}
    (listed : commandUnderAuthority s = true → a = .autonomous ∨ a = .released → s.incidents.list ≠ []) :
    Governed s (leaveCommand (setAuthState a s)) := by
  have left := leaveCommand_leaves (setAuthState a s)
  refine ⟨fun held => ?_, fun slots => left.starting.trans (left.params ▸ slots), by rw [left.params]; rfl⟩
  obtain ⟨waiting, _, _⟩ := (commandUnderAuthority_iff s).1 held
  refine (commandUnderAuthority_iff _).2 ⟨fun q waits fan => ?_, fun commanded => ?_, fun state => ?_⟩
  · obtain ⟨idle, before⟩ := left.commands q waits fan
    exact absurd (idle.symm.trans (waiting q before fan).1) Bool.false_ne_true
  · exact absurd (left.out.symm.trans commanded) Bool.false_ne_true
  · rw [left.state] at state
    exact listed held state ∘ left.listed.1

theorem governed_leaveCommand (s : State) : Governed s (leaveCommand s) :=
  governed_left (a := s.auth.state) fun held => ((commandUnderAuthority_iff s).1 held).2.2

end Sys2Proof.Machine
end

section
/-!
FAN COMMANDs under authority and the start slots (R146, R148, R154, R171) through the events of a fan, the Authority
Controller, Scenario Lookup and the Incident Manager: authority is taken and given up with the incident list.
-/

namespace Sys2Proof.Machine

open Sys2Proof

/-! ## The events of a fan (R144 to R163, R168) -/

theorem governed_fanEvent (f : Nat) (body : State → State × Bool) (s : State) (own : Governed s (body s).1) :
    Governed s (fanEvent f body s) := by
  have asked : Governed s (if (body s).2 = true then recompute (body s).1 else ((body s).1, [])).1 := by
    split
    · exact own.trans (governed_recompute _)
    · exact own
  exact ((asked.trans (untouched_notifyChange f _ _).governed).trans (governed_startTests _)).trans
    (governed_takeWanteds _ _)

theorem governed_told {s t : State} (h : Governed s t) (c : Nat) (f : List Byte) : Governed s (headNotice c f t) :=
  h.trans (untouched_headNotice c f t).governed

theorem governed_failedAttempt (f : Nat) (s : State) : Governed s (failedAttempt f s).1 := by
  have stopped := governed_stopFan f s
  unfold failedAttempt
  simp only []
  split
  · split
    · exact governed_told (stopped.trans (governed_setFan _ f)) _ _
    · exact stopped.trans (governed_setFan _ f)
  · split
    · exact governed_told (stopped.trans (governed_setFan _ f FanState.noConfusion)) _ _
    · exact stopped.trans (governed_setFan _ f)

theorem governed_becomeUnavailable (f : Nat) (s : State) : Governed s (becomeUnavailable f s).1 :=
  (governed_leaveQueue f s).trans
    (governed_modFan f _ (g := fun r =>
      { r with state := .unavailable, exchange := .closed, dwell := none, start := none })
      fun _ => FanState.noConfusion)

theorem governed_becomeLost (f n : Nat) (s : State) : Governed s (becomeLost f n s).1 :=
  governed_told (governed_modFan f s fun _ => FanState.noConfusion) _ _

theorem governed_recoverFan (f : Nat) (s : State) : Governed s (recoverFan f s).1 := by
  have unmarked : Governed s (modFan f (fun r => { r with lost := false }) s) := governed_modFan f s
  exact governed_told (unmarked.trans (rel_ite (governed_deriveOne f _) (.refl _))) _ _

theorem governed_dwellEnd (f : Nat) (s : State) : Governed s (dwellEnd f s) :=
  (governed_modFan f s fun _ => FanState.noConfusion).trans (governed_joinQueue f _)

theorem governed_enterDwell (f ms : Nat) (s : State) : Governed s (enterDwell f ms s) :=
  rel_ite (governed_dwellEnd f s) (governed_modFan f s fun _ => FanState.noConfusion)

theorem governed_statusStarting (f : Nat) (s : State) : Governed s (statusStarting f s).1 := by
  have stays := Governed.refl s
  have fails := governed_failedAttempt f s
  have runs : Governed s (modFan f (fun r => { r with state := .running, start := none }) s) :=
    governed_modFan f s fun _ => FanState.noConfusion
  unfold statusStarting
  simp only []
  split
  · split
    · split <;> assumption
    · split <;> assumption
    all_goals assumption
  · split <;> assumption

theorem governed_statusRunning (f : Nat) (s : State) : Governed s (statusRunning f s).1 := by
  unfold statusRunning
  simp only []
  split
  · split
    · exact .refl s
    · exact governed_deriveOne f s
  · exact governed_failedAttempt f s
  · exact governed_deriveOne f s

theorem governed_statusStopping (f : Nat) (s : State) : Governed s (statusStopping f s).1 := by
  have stays := Governed.refl s
  have again := governed_sendStop f s
  unfold statusStopping
  simp only []
  split
  · split
    · exact governed_enterDwell f _ s
    all_goals assumption
  · exact stays

theorem governed_statusStanding (f : Nat) (b : Bool) (s : State) : Governed s (statusStanding f b s).1 := by
  unfold statusStanding
  simp only []
  split
  · split
    · exact governed_deriveOne f s
    · exact .refl s
  · exact .refl s
  · exact (governed_leaveQueue f s).trans (governed_deriveOne f _)

theorem governed_statusFailed (f : Nat) (s : State) : Governed s (statusFailed f s).1 := by
  unfold statusFailed
  simp only []
  split
  · exact governed_sendStop f s
  · exact .refl s

theorem governed_statusBody (f : Nat) (b : Bool) (s : State) : Governed s (statusBody f b s).1 := by
  have stays := Governed.refl s
  unfold statusBody
  simp only []
  split
  · exact governed_recoverFan f s
  · split
    · split
      · exact stays
      · exact governed_becomeUnavailable f s
    · split
      · exact stays
      · exact governed_statusStarting f s
      · exact governed_statusStarting f s
      · exact governed_statusRunning f s
      · exact governed_statusStopping f s
      · exact governed_statusStanding f b s
      · exact governed_statusStanding f b s
      · exact governed_statusStanding f b s
      · exact governed_statusFailed f s
      · exact stays
      · exact governed_deriveOne f s

theorem governed_takeStatus (f : Nat) (st : FanStatus) (b : Bool) (s : State) : Governed s (takeStatus f st b s) :=
  Governed.trans (t := takeReport f st b s) (governed_modFan f s) (governed_fanEvent f _ _ (governed_statusBody f _ _))

theorem governed_dryReport (f : Nat) (st : FanStatus) (s : State) : Governed s (dryReport f st s) :=
  rel_ite (.refl s) (governed_modFan f s)

theorem governed_ageUnknown (f : Nat) (s : State) : Governed s (ageUnknown f s).1 := by
  have aged : Governed s (modFan f (fun r => { r with reported := { r.reported with drive := .unknown } }) s) :=
    governed_modFan f s
  unfold ageUnknown
  simp only []
  split
  · exact (aged.trans (governed_leaveQueue f _)).trans (governed_setFanState f _ FanState.noConfusion)
  · exact aged

theorem governed_ackPasses (f : Nat) (s : State) : Governed s (ackPasses f s).1 := by
  unfold ackPasses
  split
  · exact .refl s
  · split
    · have offered : ∀ e, Governed s (modFan f (fun r => { r with exchange := e }) s) := fun e => governed_modFan f s
      exact (offered _).trans (untouched (t := (modFan f _ s).setDraws (s.draws + 1))).governed
    · split
      · dsimp only [closeExchange]
        exact governed_modFan f s
      · exact governed_becomeLost f _ s

theorem governed_resendNow (f : Nat) (s : State) : Governed s (resendNow f s) := by
  unfold resendNow
  split
  · exact .refl s
  · exact (governed_modFan f s).trans (governed_offerFanCommand f _ _)

theorem governed_silenceResendAll (s : State) : Governed s (silenceResendAll s) := by
  have offered : ∀ t f, Governed t (silenceOffer t f) := fun t f => by
    unfold silenceOffer
    split
    · exact .refl t
    · exact governed_offerFanCommand f _ t
  exact Governed.after (t := s.setPort { s.port with silentFor := 0 }) (governed_foldl offered _ _)

/-! ## Authority Controller -/

/-- R171: authority other than AUTONOMOUS and RELEASED is entered out of AUTONOMOUS, where nothing commands. -/
theorem governed_moveAuth {a : AuthState} {s : State} (left : s.auth.state ≠ .autonomous)
    (enters : a ≠ .autonomous ∧ a ≠ .released) : Governed s (moveAuth a s) := by
  refine Governed.trans (t := setAuthState a s) ⟨fun held => ?_, id, rfl⟩ (untouched_headNotice _ _ _).governed
  obtain ⟨waiting, command, _⟩ := (commandUnderAuthority_iff s).1 held
  exact (commandUnderAuthority_iff _).2
    ⟨waiting, fun commanded => absurd (command commanded) left, fun state => (state.elim enters.1 enters.2).elim⟩

theorem untouched_purgeForward (s : State) : Untouched s (purgeForward s) :=
  Untouched.trans untouched (untouched_interceptions _ _)

/-- R174, R175: AUTONOMOUS is entered with an incident listed. -/
theorem governed_enterAutonomous {s : State} (listed : commandUnderAuthority s = true → s.incidents.list ≠ []) :
    Governed s (enterAutonomous s) := by
  have moved : Governed s (setAuthState .autonomous s) := by
    refine ⟨fun held => ?_, id, rfl⟩
    obtain ⟨waiting, _, _⟩ := (commandUnderAuthority_iff s).1 held
    exact (commandUnderAuthority_iff _).2 ⟨waiting, fun _ => rfl, fun _ => listed held⟩
  have taken : Untouched (setAuthState .autonomous s) (authorityTaken s) :=
    rel_ite (.refl _) ((untouched_claimHold _).trans (untouched_purgeForward _))
  exact ((moved.trans taken.governed).trans (untouched_headNotice _ _ _).governed).trans (governed_comeIntoCommand _)

theorem untouched_endHold (s : State) : Untouched s (endHold s) :=
  Untouched.trans (t := if 0 < s.auth.holdRemaining then offerHold 0 (headNumber s) s else s)
    (rel_ite (untouched_offerHold _ _ s) (.refl s)) untouched

/-- R179: AUTONOMOUS is left, for RELEASED while an incident is listed. -/
theorem governed_exitAutonomous {a : AuthState} {s : State}
    (listed : commandUnderAuthority s = true → a = .autonomous ∨ a = .released → s.incidents.list ≠ []) :
    Governed s (exitAutonomous a s) :=
  ((governed_left listed).trans (untouched_endHold _).governed).trans (untouched_headNotice _ _ _).governed

theorem governed_listNotEmpty {s : State} (listed : s.incidents.list ≠ []) : Governed s (listNotEmpty s) := by
  unfold listNotEmpty
  split
  · exact governed_enterAutonomous fun _ => listed
  · exact (untouched_headNotice _ _ s).governed
  · exact .refl s

theorem governed_geometryOpened (s : State) : Governed s (geometryOpened s) := by
  unfold geometryOpened
  split
  · rename_i monitor
    exact governed_moveAuth (by simp [monitor]) (by simp)
  · exact .refl s

theorem governed_geometryClosed (s : State) : Governed s (geometryClosed s) := by
  unfold geometryClosed
  split
  · rename_i unconfigured _
    split
    · rename_i listed
      exact governed_enterAutonomous fun _ => by simpa [incidentListed] using listed
    · exact governed_moveAuth (by simp [unconfigured]) (by simp)
  · exact .refl s

theorem governed_leaveStarting {s : State} (starting : s.auth.state = .starting) : Governed s (leaveStarting s) := by
  refine (governed_moveAuth (by simp [starting]) ?_).trans
    (rel_ite (untouched_offerHold _ _ _) (.refl _) : Untouched _ _).governed
  split <;> simp

theorem governed_releaseAuthority (n : Nat) (s : State) : Governed s (releaseAuthority n s) := by
  unfold releaseAuthority
  split
  · rename_i releases
    exact governed_exitAutonomous fun held _ => ((commandUnderAuthority_iff s).1 held).2.2 (.inl releases.1)
  · exact (untouched_headNotice _ _ s).governed

theorem governed_resumeAuthority (s : State) : Governed s (resumeAuthority s) := by
  by_cases released : s.auth.state = .released
  · rw [resumeAuthority_released released]
    exact governed_enterAutonomous fun held => ((commandUnderAuthority_iff s).1 held).2.2 (.inr released)
  · rw [resumeAuthority_stands released]
    exact .refl s

end Sys2Proof.Machine
end

section
/-!
FAN COMMANDs under authority and the start slots (R146, R148, R154, R171) through Scenario Lookup and the Incident
Manager: an incident is listed when authority is taken, and authority is given up with the last of them.
-/

namespace Sys2Proof.Machine

open Sys2Proof

/-! ## Scenario Lookup (R94 to R115) -/

theorem untouched_setLive (x : Option Live) (s : State) : Untouched s (s.setLive x) := untouched

theorem untouched_setPhaseTimer (x : Option Nat) (s : State) : Untouched s (setPhaseTimer x s) := untouched

theorem governed_setLive (x : Option Live) (s : State) : Governed s (s.setLive x) := (untouched_setLive x s).governed

theorem governed_computeOpenLoop (s : State) : Governed s (computeOpenLoop s) := (untouched_computeOpenLoop s).governed

theorem governed_relookup (s : State) : Governed s (relookup s) := by
  unfold relookup
  split
  · exact .refl s
  · simp only []
    split
    · split
      · exact (governed_setLive _ s).trans (rel_ite (.refl _) (governed_freshRevision _))
      · exact governed_setLive _ s
    · exact (governed_told (governed_setLive _ s) _ _).trans
        ((governed_computeOpenLoop _).trans (governed_freshRevision _))

theorem governed_tableChanged (s : State) : Governed s (tableChanged s) := rel_ite (governed_relookup s) (.refl s)

theorem governed_scenarioSetValid (s : State) : Governed s (scenarioSetValid s) :=
  rel_ite (governed_relookup s) (.refl s)

theorem governed_rebuildFallback (s : State) : Governed s (rebuildFallback s) := by
  unfold rebuildFallback
  split
  · exact .refl s
  · split
    · exact rel_ite (.refl s) ((governed_setLive _ s).trans (governed_freshRevision _))
    · exact .refl s

theorem governed_chainageChanged (s : State) : Governed s (chainageChanged s) :=
  (Governed.trans (rel_ite (governed_relookup s) (.refl s)) (governed_rebuildFallback _)).trans
    (governed_hysteresisRevision _)

theorem governed_carryOut (s : State) : Governed s (carryOut s) :=
  rel_ite (((governed_freshWalk s).trans (governed_handWanted _)).trans (governed_comeIntoCommand _))
    (((governed_leaveCommand s).trans (governed_freshWalk _)).trans (governed_handWanted _))

theorem untouched_when_notice (b : Bool) (c n : Nat) (f : List Byte) (s : State) :
    Untouched s (when b (notice c n f) s) := rel_ite (untouched_notice c n f s) (.refl s)

theorem untouched_lateLookup (b : Bool) (x : Option Nat) (s : State) : Untouched s (lateLookup b x s) :=
  (untouched_setLive (some ((lookedUp s).withLock b x)) s).trans
    ((untouched_headNotice _ _ _).trans (untouched_when_notice _ _ _ _ _))

theorem governed_geometryLookup (s : State) : Governed s (geometryLookup s) := by
  unfold geometryLookup
  split
  · exact .refl s
  · refine rel_ite ?_ (.refl s)
    exact ((((untouched_lateLookup _ _ s).governed.trans (governed_computeOpenLoop _)).trans
      (governed_carryOut _)).trans (governed_phaseTest _)).trans (governed_startTests _)

theorem untouched_lockExpires (n : Nat) (s : State) : Untouched s (lockExpires n s) := by
  unfold lockExpires
  split
  · exact .refl s
  · split
    · exact (untouched_setLive _ s).trans (untouched_when_notice _ _ _ _ _)
    · exact Untouched.trans (untouched (listed := List.map_eq_nil_iff)) (untouched_when_notice _ _ _ _ _)
    · exact .refl s

theorem governed_announcePhase (p : Phase) (s : State) : Governed s (announcePhase p s) := by
  refine Governed.trans ?_ (governed_startTests _)
  refine (untouched_headNotice 0x0C [byte (phaseCode p)] s).governed.trans ?_
  cases p
  case staging => exact governed_phaseTest _
  all_goals exact .refl _

theorem untouched_freshScenario (s : State) : Untouched s (freshScenario s) := by
  unfold freshScenario
  simp only []
  split
  · exact (untouched_setLive _ s).trans ((untouched_when_notice _ _ _ _ _).trans (untouched_when_notice _ _ _ _ _))
  · exact untouched_setLive _ s

theorem untouched_restoreScenario (p : SavedPlan) (s : State) : Untouched s (restoreScenario p s).1 := by
  unfold restoreScenario
  split
  · split
    · exact untouched_lateLookup _ _ s
    · exact untouched_setLive _ s
  · split
    · exact untouched_setLive _ s
    · simp only []
      split
      · exact untouched_setLive _ s
      · exact (untouched_setLive _ s).trans (untouched_headNotice _ _ _)

theorem governed_activate (saved : Option SavedPlan) (s : State) : Governed s (activate saved s) := by
  have computed : ∀ (b : Bool) t, Untouched t (if b = true then computeOpenLoop t else t) := fun _ t =>
    rel_ite (untouched_computeOpenLoop t) (.refl t)
  have entered : ∀ p t, Governed t (announcePhase p (carryOut t)) := fun p t =>
    (governed_carryOut t).trans (governed_announcePhase p _)
  have planned : ∀ p, Untouched s (s.setPlan p) := fun _ => untouched
  cases saved with
  | none =>
    unfold activate activateFresh
    refine Governed.trans ?_ (entered _ _)
    exact ((((planned _).trans (untouched_freshScenario _)).trans (computed _ _)).trans
      ((untouched_setPhase _ _).trans (untouched_setPhaseTimer _ _))).governed
  | some p =>
    unfold activate activateSaved
    refine Governed.trans ?_ (entered _ _)
    exact ((((planned _).trans (untouched_restoreScenario p _)).trans (computed _ _)).trans
      (untouched_setPhase _ _)).governed

theorem governed_trimStep (s : State) : Governed s (trimStep s) := by
  have trimmed : ∀ v vt, Governed s (trim v vt s) := fun v vt =>
    rel_ite (.refl s) ((untouched_setDemand _ s).governed.trans (rel_ite (.refl _) (governed_hysteresisRevision _)))
  unfold trimStep
  split
  · exact .refl s
  · split
    · exact .refl s
    · split
      · exact .refl s
      · exact .refl s
      · split
        · exact .refl s
        · exact trimmed _ _

/-! ## Head changes and candidates (R73, R77, R80, R86, R87) -/

theorem governed_headChange (old : Nat) (s : State) : Governed s (headChange old s) := by
  unfold headChange
  split
  · exact .refl s
  · rename_i i rest listed
    let t := s.setIncidents { s.incidents with
      list := headRoles (savedPlanOf s) s.incidents.list
      phaseTimer := none }
    have changed : Untouched s (setTrim none t) := untouched (listed := by
      show headRoles (savedPlanOf s) s.incidents.list = [] ↔ s.incidents.list = []
      rw [listed]
      exact iff_of_false (List.cons_ne_nil _ _) (List.cons_ne_nil _ _))
    exact (changed.trans (untouched_notice _ _ _ _)).governed.trans (governed_activate _ _)

theorem governed_settleHead (old : Nat) (s : State) : Governed s (settleHead old s) :=
  rel_ite (governed_headChange old s) (.refl s)

theorem leader_eq_none {s : State} : leader s = none ↔ s.incidents.list = [] := by simp [leader]

theorem list_settleHead (old : Nat) (s : State) : (settleHead old s).incidents.list = [] ↔ s.incidents.list = [] := by
  rw [← leader_eq_none, ← leader_eq_none, settleHead]
  split
  · rw [leader_headChange]
  · rfl

theorem untouched_discard (n : Nat) (c : DiscardCause) (k : Nat) (s : State) : Untouched s (discard n c k s) := by
  unfold discard
  split
  · exact .refl s
  · exact Untouched.trans untouched (untouched_notice _ _ _ (setCandidate k none s))

theorem untouched_discardWhere (n : Nat) (c : DiscardCause) (p : Candidate → Bool) (ks : List Nat) (s : State) :
    Untouched s (discardWhere n c p ks s) := by
  induction ks generalizing s with
  | nil => exact .refl s
  | cons k ks ih =>
    unfold discardWhere
    refine Untouched.trans ?_ (ih _)
    split
    · exact .refl s
    · exact rel_ite (untouched_discard n c k s) (.refl s)

theorem untouched_absorb (n x : Nat) (s : State) : Untouched s (absorb n x s) := untouched_discardWhere _ _ _ _ s

theorem untouched_emptyCandidates (s : State) : Untouched s (emptyCandidates s) := untouched_discardWhere _ _ _ _ s

/-! ## Listings and merges (R71, R75, R79, R82, R83) -/

theorem enterList_ne_nil (x : Incident) (l : List Incident) : enterList x l ≠ [] := by
  cases l with
  | nil => exact List.cons_ne_nil _ _
  | cons i rest =>
    unfold enterList
    split <;> exact List.cons_ne_nil _ _

/-- R82, R174: the incident is listed before authority is told. -/
theorem governed_enterIncident (p : Proposal) (s : State) : Governed s (enterIncident p s) := by
  have told : ∀ (b : Bool) t, t.incidents.list ≠ [] → Governed t (if b = true then listNotEmpty t else t) :=
    fun b t listed => rel_ite (governed_listNotEmpty listed) (.refl t)
  unfold enterIncident
  extract_lets first number i old _ t u
  have listed : t.incidents.list ≠ [] := enterList_ne_nil i _
  have started : Governed s t := FansUntouched.governed ⟨fun _ waits _ => waits, rfl, rfl, rfl, rfl⟩ fun _ => listed
  have noticed : Untouched t (listedNotice i t) := untouched_notice _ _ _ t
  have settled : Governed s u := (started.trans noticed.governed).trans (governed_settleHead old _)
  have stays : u.incidents.list ≠ [] := fun empty => listed (noticed.listed.1 ((list_settleHead _ _).1 empty))
  exact (settled.trans (told first u stays)).trans (untouched_absorb _ _ _).governed

theorem governed_listIncident (p : Proposal) (s : State) : Governed s (listIncident p s) := by
  unfold listIncident
  split
  · exact governed_enterIncident p s
  · rename_i full
    split
    · exact .refl s
    · refine rel_ite ?_ (untouched_notice _ _ _ s).governed
      refine Governed.trans (t := s.setIncidents { s.incidents with list := s.incidents.list.dropLast }) ?_
        ((untouched_notice _ _ _ _).governed.trans (governed_enterIncident p _))
      refine (untouched (listed := ?_)).governed
      rw [State.setIncidents_incidents, ← List.length_eq_zero_iff, ← List.length_eq_zero_iff, List.length_dropLast]
      simp only [Config.listCapacity] at full
      omega

theorem governed_handOn (old new : Incident) (s : State) : Governed s (handOn old new s) := by
  have moved : ∀ (q : Prop) [Decidable q], Governed s (if q then s else chainageChanged s) := fun q _ =>
    rel_ite (.refl s) (governed_chainageChanged s)
  exact rel_ite ((moved _).trans (rel_ite (.refl _) (governed_tableChanged _))) (.refl s)

theorem resort_eq_nil (n : Nat) (l : List Incident) : resort n l = [] ↔ l = [] := by
  unfold resort
  split
  · rfl
  · rename_i x found
    refine iff_of_false ?_ (List.ne_nil_of_mem (List.mem_of_find?_eq_some found))
    cases l.filter _ with
    | nil => exact List.cons_ne_nil _ _
    | cons i rest =>
      unfold placeIncident
      split <;> exact List.cons_ne_nil _ _

theorem governed_mergeRecord (cause : MergeCause) (old new : Incident) (s : State) :
    Governed s (mergeRecord cause old new s) := by
  refine Governed.trans (untouched (listed := ?_)).governed <|
    ((untouched_notice _ _ _ _).governed.trans (governed_settleHead _ _)).trans (governed_handOn old new _)
  rw [State.setIncidents_incidents]
  dsimp only
  split
  · exact (resort_eq_nil _ _).trans List.map_eq_nil_iff
  · exact List.map_eq_nil_iff

/-! ## Candidates, events and declarations (R71 to R75, R78 to R80) -/

theorem governed_setCandidate (k : Nat) (c : Option Candidate) (s : State) : Governed s (setCandidate k c s) :=
  (untouched (t := setCandidate k c s)).governed

theorem governed_promote (slot : Nat) (c : Candidate) (s : State) : Governed s (promote slot c s) := by
  refine Governed.trans (governed_setCandidate slot none s) ?_
  unfold promote
  simp only []
  split
  · exact governed_mergeRecord .candidate _ _ _
  · exact governed_listIncident _ _

theorem governed_testCandidate (slot : Nat) (s : State) : Governed s (testCandidate slot s) := by
  unfold testCandidate
  split
  · exact .refl s
  · rename_i c _
    split
    · exact rel_ite (governed_promote slot c s) (.refl s)
    · exact .refl s
    · let d : Candidate := { c with confirmedAt := some s.clock }
      have confirmed : Governed s (confirmedNotice slot d (setCandidate slot (some d) s)) :=
        (governed_setCandidate slot (some d) s).trans (untouched_notice _ _ _ _).governed
      exact rel_ite (confirmed.trans (governed_promote slot d _)) confirmed

theorem governed_openCandidate (slot : Nat) (e : Detection) (s : State) : Governed s (openCandidate slot e s) :=
  (governed_setCandidate slot (some (newCandidate s e)) s).trans
    ((untouched_notice _ _ _ _).governed.trans (governed_testCandidate slot _))

theorem governed_takeEvent (e : Detection) (s : State) : Governed s (takeEvent e s) := by
  unfold takeEvent
  split
  · exact rel_ite (.refl s) (governed_mergeRecord .event _ _ s)
  · split
    · split
      · exact .refl s
      · exact (governed_setCandidate _ _ s).trans (governed_testCandidate _ _)
    · split
      · exact governed_openCandidate _ e s
      · exact (untouched_discard _ _ _ s).governed.trans (governed_openCandidate _ e _)

theorem governed_declare (q : Nat) (d : Declaration) (s : State) : Governed s (declare q d s) := by
  unfold declare
  extract_lets badZone
  refine rel_ite (untouched_notice _ _ _ s).governed ?_
  split
  · exact (untouched_notice _ _ _ s).governed
  · split
    · exact (governed_mergeRecord .declaration _ _ s).trans (untouched_absorb _ _ _).governed
    · exact governed_listIncident _ s

/-! ## Clears (R91 to R93) -/

/-- R92, R147: once the last incident has gone nothing is in command and no FAN COMMAND waits. -/
theorem governed_marksCleared {a : AuthState} {s t : State} (same : FansUntouched s t)
    (leaves : a ≠ .autonomous ∧ a ≠ .released) :
    Governed s (setAuthState a (clearMarks (leaveCommand (dropPlan t)))) := by
  have left := leaveCommand_leaves (dropPlan t)
  refine ⟨fun held => ?_, fun slots => ?_, ?_⟩
  · obtain ⟨waiting, _, _⟩ := (commandUnderAuthority_iff s).1 held
    refine (commandUnderAuthority_iff _).2 ⟨fun q waits fan => ?_, fun commanded => ?_, fun state => ?_⟩
    · obtain ⟨idle, before⟩ := left.commands q waits fan
      have commanded := (waiting q (same.commands q before fan) fan).1
      rw [← same.fans] at commanded
      exact absurd (idle.symm.trans commanded) Bool.false_ne_true
    · exact absurd (left.out.symm.trans commanded) Bool.false_ne_true
    · exact (state.elim leaves.1 leaves.2).elim
  · have marks : startingCount (clearMarks (leaveCommand (dropPlan t))) ≤ startingCount (leaveCommand (dropPlan t)) :=
      starting_map_le _ fun r => id
    have wanted : startingCount (dropPlan t) ≤ startingCount t := starting_map_le _ fun r => id
    calc startingCount (clearMarks (leaveCommand (dropPlan t)))
      _ ≤ startingCount t := (marks.trans left.starting).trans wanted
      _ = startingCount s := startingCount_of_fans same.fans
      _ ≤ s.params.sMax := slots
      _ = (leaveCommand (dropPlan t)).params.sMax := by rw [left.params]; exact congrArg _ same.params.symm
  · exact congrArg Params.sMax (left.params.trans same.params)

/-- R92, R179: with the last incident authority is given up. -/
theorem governed_listEmptied (last : Nat) {s t : State} (same : FansUntouched s t) :
    Governed s (listEmptied last t) := by
  have noticed : Untouched t (headChangedNotice 0 last (setPhaseTimer none t)) :=
    (untouched_setPhaseTimer none t).trans (untouched_notice _ _ _ _)
  have cleared := fun {a} => governed_marksCleared (a := a) (same.trans noticed.toFansUntouched)
  unfold listEmptied listEmpty
  extract_lets u
  split
  · exact ((cleared (a := .monitor) (by simp)).trans (governed_leaveCommand _)).trans
      ((untouched_endHold _).trans (untouched_headNotice _ _ _)).governed
  · exact (cleared (a := .monitor) (by simp)).trans (untouched_headNotice _ _ _).governed
  · rename_i autonomous released
    exact cleared (a := (clearMarks (leaveCommand (dropPlan u))).auth.state) ⟨autonomous, released⟩

theorem fansUntouched_removeAll (n : Nat) (s : State) : FansUntouched s (removeAll n s) := by
  induction n generalizing s with
  | zero => exact (Untouched.refl s).toFansUntouched
  | succ n ih =>
    unfold removeAll
    split
    · exact (Untouched.refl s).toFansUntouched
    · rename_i rest _
      let t := s.setIncidents { s.incidents with list := rest }
      have removed : FansUntouched s t := ⟨fun _ waits _ => waits, rfl, rfl, rfl, rfl⟩
      exact (removed.trans (untouched_notice _ _ _ t).toFansUntouched).trans (ih _)

theorem governed_clearAll (s : State) : Governed s (clearAll s) :=
  governed_listEmptied _ (fansUntouched_removeAll _ s)

theorem governed_clearOne (number : Nat) (s : State) : Governed s (clearOne number s) := by
  unfold clearOne
  extract_lets old rest _ t
  let u := s.setIncidents { s.incidents with list := rest }
  have removed : FansUntouched s u := ⟨fun _ waits _ => waits, rfl, rfl, rfl, rfl⟩
  have noticed : Untouched u t := untouched_notice _ _ _ u
  split
  · exact governed_listEmptied old (removed.trans noticed.toFansUntouched)
  · rename_i stays
    have left : Governed s u := removed.governed fun _ empty => stays (List.isEmpty_iff.2 empty)
    exact (left.trans noticed.governed).trans (governed_settleHead _ _)

theorem governed_clearIncident (n : Nat) (s : State) : Governed s (clearIncident n s) :=
  rel_ite (rel_ite (governed_clearAll s) (untouched_notice _ _ _ s).governed)
    (rel_ite (governed_clearOne n s) (untouched_notice _ _ _ s).governed)

end Sys2Proof.Machine
end

section
/-!
FAN COMMANDs under authority (R146, R148, R171) and the start slots (R154) across every command and every step.
-/

namespace Sys2Proof.Machine

open Sys2Proof

/-! ## Ring IN and ring OUT -/

theorem untouched_observe (f : Frame) (s : State) : Untouched s (observe f s) := by
  unfold observe
  split
  · exact untouched_count s _
  · split
    · exact untouched_count s _
    · split
      · split
        · exact untouched_count s _
        · exact untouched
      · exact .refl s

theorem untouched_useOrCount (f : Frame) (s : State) : Untouched s (useOrCount f s) :=
  rel_ite (.refl s) (rel_ite (untouched_count s _) (rel_ite (untouched_observe f s) (.refl s)))

theorem untouched_dispatchRequest (f : Frame) (l : Lookup) (s : State) : Untouched s (dispatchRequest f l s) :=
  rel_ite ((untouched_count s _).trans untouched) untouched

theorem untouched_dispatchCentre (f : Frame) (s : State) : Untouched s (dispatchCentre f s) := by
  unfold dispatchCentre
  split
  · split
    · exact untouched_count s _
    · exact untouched
  · exact untouched_count s _

theorem untouched_consume (f : Frame) (s : State) : Untouched s (consume f s) :=
  rel_ite (.refl s) <| rel_ite (rel_ite (untouched_dispatchRequest f _ s) (.refl s)) <|
    rel_ite (untouched_dispatchRequest f _ s) <|
      rel_ite (untouched_dispatchCentre f s) (untouched_useOrCount f s)

theorem untouched_enterForward (bs : List Byte) (s : State) : Untouched s (enterForward bs s) :=
  rel_ite untouched (untouched_count s _)

theorem untouched_enterReport (q : QFrame) (s : State) : Untouched s (enterReport q s) :=
  rel_ite untouched (untouched_dropReport q s)

theorem untouched_forwardFrame (restored : Bool) (bs : List Byte) (s : State) :
    Untouched s (forwardFrame restored bs s) :=
  rel_ite (((untouched_enterReport _ s).trans (untouched_enterForward bs _)).trans (untouched_serve _))
    (rel_ite (.trans untouched (untouched_serve _)) (untouched_count s _))

theorem untouched_route (restored : Bool) (bytes : List Byte) (s : State) : Untouched s (route restored bytes s) := by
  have noticed : Untouched s (restoredNotice restored s) := rel_ite (untouched_headNotice _ _ s) (.refl s)
  have forwarded : ∀ t, Untouched t (forwardFrame restored bytes t) := untouched_forwardFrame restored bytes
  exact rel_ite noticed <| rel_ite (noticed.trans (untouched_consume _ _)) <|
    rel_ite (forwarded s) <| rel_ite (noticed.trans (untouched_interception _))
      ((untouched_useOrCount _ s).trans (forwarded _))

theorem untouched_receive (bytes : List Byte) (s : State) : Untouched s (receive bytes s) :=
  rel_ite (untouched_count s _) <| (untouched_count s _).trans <|
    Untouched.trans (t := restartSilence (countGood s)) untouched (untouched_route _ _ _)

theorem untouched_endTransmission (s : State) : Untouched s (endTransmission s) := by
  unfold endTransmission
  split
  · exact .refl s
  · exact rel_ite untouched (.trans untouched (untouched_serve _))

theorem untouched_raiseSilent (s : State) : Untouched s (raiseSilent s) :=
  Untouched.trans (t := s.setPort { s.port with inSilent := true, silentFor := 0 }) untouched
    (rel_ite (.refl _) (untouched_headNotice _ _ _))

theorem untouched_readTestCounters (source sequence : Nat) (s : State) :
    Untouched s (readTestCounters source sequence s) :=
  Untouched.trans (t := s.testCount LoopTest.cleared) untouched (untouched_offerReport _ _)

theorem untouched_frameIn (bytes : List Byte) (s : State) : Untouched s (frameIn bytes s) := by
  refine rel_ite (.refl s) (rel_ite (rel_ite untouched ?_) (untouched_receive bytes s))
  refine Untouched.trans (t := restartSilence s) untouched ?_
  exact rel_ite (rel_ite untouched untouched) (rel_ite (untouched_readTestCounters _ _ _) (.refl _))

/-! ## The outcome of a step -/

/-- The state `t` keeps R146, R148 and R171, and R154 under the S_max of `t`. -/
structure Ruled (s t : State) : Prop where
  authority : commandUnderAuthority s = true → commandUnderAuthority t = true
  slots : startingCount s ≤ t.params.sMax → startingCount t ≤ t.params.sMax

theorem Governed.ruled {s t : State} (h : Governed s t) : Ruled s t :=
  ⟨h.authority, fun slots => h.slots (h.sMax ▸ slots)⟩

/-- A table changes, and with it the parameters, before the rest of a step. -/
theorem Governed.ruled_setTables {s t : State} {x : TableStore} (h : Governed (s.setTables x) t) : Ruled s t :=
  ⟨h.authority, fun slots => h.slots (h.sMax ▸ slots)⟩

theorem untouched_offerTestFrame (s : State) : Untouched s (offerTestFrame s) :=
  (untouched_offerCommand (q := ⟨strappedAddr s.chip.strap, kindTest, testPayload s.test.number, false⟩) s
    (by simp [kindTest, kindFanCommand])).trans untouched

/-- R147, R171: a reset leaves no FAN COMMAND, no authority and no fan STARTING. -/
theorem ruled_endReset (addr : BitVec 6) (test : Bool) (r s : State) : Ruled r (endReset addr test s) := by
  have fresh : ∀ u : State, commandUnderAuthority u = true → startingCount u = 0 → Untouched u (endReset addr test s) →
      Ruled r (endReset addr test s) := fun u command none same =>
    ⟨fun _ => same.governed.authority command, fun _ => by
      rw [startingCount_of_fans same.fans, none]
      exact Nat.zero_le _⟩
  cases test
  · exact fresh _ rfl rfl (.refl _)
  · exact fresh _ rfl rfl (untouched_offerTestFrame _)

theorem ruled_settle {s t : State} (h : Ruled s t) : Ruled s (settle t) := by
  unfold settle softResetNow
  by_cases due : t.chip.softResetDue = true
  · rw [if_pos due]
    have fresh := ruled_endReset t.chip.pinAddr t.chip.testMode s t
    exact ⟨fresh.authority, fresh.slots⟩
  · rw [if_neg due]
    exact ⟨h.authority, h.slots⟩

/-- An outcome answers states alone that keep the rules of the fans. -/
def AnswersRuled (s : State) (o : Host.Outcome State Fault Refusal) : Prop := ∀ t, o = .next t → Ruled s t

theorem answersRuled_finish {s t : State} (h : Ruled s t) : AnswersRuled s (finish t) := by
  rintro u ⟨⟩
  exact ruled_settle h

/-- A timed event that takes effect when it is due. -/
theorem answersRuled_due {s t : State} {c : Prop} [Decidable c] (h : Governed s t) :
    AnswersRuled s (finish (if c then t else s)) := answersRuled_finish (rel_ite h.ruled (Governed.refl s).ruled)

/-- A command in service, struck from the dispatched frames. -/
theorem answersRuled_taken {s u : State} {p : Prop} [Decidable p] (c : Instr) (h : Ruled (took c s) u) :
    AnswersRuled s (finish (if p then u else took c s)) :=
  answersRuled_finish (rel_ite ⟨h.authority, h.slots⟩ (untouched (t := took c s)).governed.ruled)

theorem answersRuled_takes {s u : State} {p : Prop} [Decidable p] (c : Instr) (h : Governed (took c s) u) :
    AnswersRuled s (finish (if p then u else took c s)) := answersRuled_taken c h.ruled

/-! ## Samples and trains -/

theorem governed_raise (e : Option Detection) (s : State) : Governed s (raise e s) := by
  cases e
  · exact .refl s
  · exact governed_takeEvent _ s

theorem governed_takeTrain (p : TrainReport) (injected : Bool) (s : State) : Governed s (takeTrain p injected s) := by
  have taken : ∀ t, Governed t (if reportRaises s p = true
      then takeEvent (fireEvent s.tables s.params.L (trainOf p s.clock injected)) t else t) := fun t =>
    rel_ite (governed_takeEvent _ t) (.refl t)
  exact .after ((taken _).trans (governed_tableChanged _))

theorem governed_takeDeparture (id : Nat) (s : State) : Governed s (takeDeparture id s) := by
  unfold takeDeparture
  split
  · exact .refl s
  · exact .after (governed_tableChanged _)

theorem governed_takeTrainReport (p : TrainReport) (injected : Bool) (s : State) :
    Governed s (takeTrainReport p injected s) :=
  rel_ite (governed_takeDeparture _ s) (governed_takeTrain p injected s)

theorem governed_removeTrains (drop : Train → Bool) (s : State) : Governed s (removeTrains drop s) :=
  rel_ite (.refl s) (.after (governed_tableChanged _))

theorem governed_lengthChanged (before : Nat) (s : State) : Governed s (lengthChanged before s) :=
  rel_ite (.refl s) (governed_removeTrains _ s)

/-! ## Tables and stored image -/

/-- Fans and plan move under an authority state that stands. -/
theorem authStands_steps : FanSteps fun s t => t.auth.state = s.auth.state where
  refl _ := rfl
  trans a b := b.trans a
  relayed rest := by rw [rest]
  fans _ _ _ := rfl
  walked _ _ _ := rfl
  phased s := (untouched_phaseTest s).state

theorem authState_relookup (s : State) : (relookup s).auth.state = s.auth.state := by
  unfold relookup
  split
  · rfl
  · simp only []
    split
    · split
      · split
        · rfl
        · exact authStands_steps.freshRevision _
      · rfl
    · refine (authStands_steps.freshRevision _).trans ?_
      exact ((untouched_headNotice _ _ _).trans (untouched_computeOpenLoop _)).state

theorem authState_lengthChanged (before : Nat) (s : State) : (lengthChanged before s).auth.state = s.auth.state := by
  rw [lengthChanged_eq]
  split
  · rfl
  · unfold tableChanged
    split
    · exact authState_relookup _
    · rfl

theorem untouched_tableNotices (bads : List (TableId × Nat)) (l : List TableId) (s : State) :
    Untouched s (tableNotices bads l s) := by
  induction l generalizing s with
  | nil => exact .refl s
  | cons id l ih =>
    unfold tableNotices
    refine Untouched.trans ?_ (ih _)
    exact untouched_notice _ _ _ s

theorem untouched_updateOwnAddr (s : State) : Untouched s (updateOwnAddr s) := rel_ite (.refl s) untouched

theorem ruled_endStartUpLoad {s : State} (starting : s.auth.state = .starting) : Ruled s (endStartUpLoad s) := by
  have loaded : (setLoaded (imageFound s.eeprom) s).1 = s.setTables (tablesLoaded s) := setLoaded_tables _ _
  unfold endStartUpLoad
  extract_lets found p t
  have noticed : Untouched (lengthChanged s.params.L p.1) (tableNotices p.2 tableOrder t) :=
    (untouched_notice _ _ _ _).trans (untouched_tableNotices _ _ _)
  have still : (tableNotices p.2 tableOrder t).auth.state = .starting := by
    rw [noticed.state, authState_lengthChanged]
    exact (congrArg (fun u : State => u.auth.state) loaded).trans starting
  refine Governed.ruled_setTables (x := tablesLoaded s) ?_
  rw [← loaded]
  exact ((governed_lengthChanged _ _).trans noticed.governed).trans
    ((governed_leaveStarting still).trans (untouched_updateOwnAddr _).governed)

theorem untouched_endStore (failed : Bool) (s : State) : Untouched s (endStore failed s) :=
  .trans untouched (untouched_headNotice _ _ _)

theorem answersRuled_makeWrite {s t : State} (polled : List Transfer) (w : StoreWrite) (h : Ruled s t) :
    AnswersRuled s (makeWrite polled w t) := by
  unfold makeWrite
  dsimp only
  split
  · exact answersRuled_finish ⟨h.authority, h.slots⟩
  · rintro u ⟨⟩

/-! ## Requests -/

theorem untouched_respond (r : Request) (c : Nat) (st : Status) (t i : Nat) (d : List Byte) (s : State) :
    Untouched s (respond r c st t i d s) := untouched_offerReport _ s

theorem untouched_answerData (code : Nat) (r : Request) (st : Status) (data : List Byte) (s : State) :
    Untouched s (answerData code r st data s) := untouched_respond _ _ _ _ _ _ s

theorem governed_answerData (code : Nat) (r : Request) (st : Status) (data : List Byte) (s : State) :
    Governed s (answerData code r st data s) := (untouched_answerData _ _ _ _ s).governed

theorem governed_answer (code : Nat) (r : Request) (st : Status) (s : State) : Governed s (answer code r st s) :=
  governed_answerData code r st [] s

theorem ruled_answer (code : Nat) (r : Request) (st : Status) (s : State) : Ruled s (answer code r st s) :=
  (governed_answer code r st s).ruled

theorem ruled_checked {rule : State → State} (code : Nat) (r : Request) (form : Bool)
    (h : ∀ s, Ruled s (rule s)) (s : State) : Ruled s (checked code r form rule s) :=
  rel_ite (ruled_answer _ _ _ s) (rel_ite (ruled_answer _ _ _ s) (h s))

theorem ruled_checkedTable {rule : TableId → State → State} (code : Nat) (r : Request) (form : Bool)
    (h : ∀ id s, Ruled s (rule id s)) (s : State) : Ruled s (checkedTable code r form rule s) := by
  unfold checkedTable
  split
  · exact ruled_checked code r false (fun s => (Governed.refl s).ruled) s
  · exact ruled_checked code r form (h _) s

theorem answersRuled_request {rule : State → State} (c : Instr) (h : ∀ s, Ruled s (rule s)) (s : State) :
    AnswersRuled s (finish (takeRequest c rule s)) := answersRuled_taken c (h _)

theorem governed_handOpen (id : TableId) (s : State) : Governed s (handOpen id s) := by
  have opened : Governed s (if id.isGeometry = true then emptyCandidates (geometryOpened s) else s) :=
    rel_ite ((governed_geometryOpened s).trans (untouched_emptyCandidates _).governed) (.refl s)
  cases id
  case global => exact opened.trans (untouched_updateOwnAddr _).governed
  case stations => exact opened.trans (untouched (t := clearSamples _)).governed
  case fans => exact opened.trans (governed_setFans rfl (starting_map_le _ fun r => id))
  all_goals exact opened

theorem ruled_openLoad (r : Request) (id : TableId) (s : State) : Ruled s (openLoad r id s) := by
  refine rel_ite (ruled_answer _ _ _ s) (rel_ite (ruled_answer _ _ _ s) ?_)
  exact Governed.ruled_setTables <| (governed_answer 1 r .done _).trans <|
    (untouched_headNotice _ _ _).governed.trans (governed_handOpen id _)

theorem ruled_writeRecord (r : Request) (id : TableId) (s : State) : Ruled s (writeRecord r id s) :=
  rel_ite (ruled_answer _ _ _ s) <| rel_ite (ruled_answer _ _ _ s) <|
    rel_ite (ruled_answer _ _ _ s) (Governed.ruled_setTables (governed_answer 2 r .done _))

theorem governed_handClose (id : TableId) (before : Nat) (passed : Bool) (s : State) :
    Governed s (handClose id before passed s) :=
  ((untouched_updateOwnAddr s).governed.trans (governed_lengthChanged before _)).trans <|
    rel_ite ((governed_geometryClosed _).trans (governed_geometryLookup _)) <|
      rel_ite (governed_scenarioSetValid _) (.refl _)

theorem ruled_closeLoad (r : Request) (id : TableId) (s : State) : Ruled s (closeLoad r id s) := by
  refine rel_ite (ruled_answer _ _ _ s) ?_
  dsimp only
  split
  all_goals
    refine Governed.ruled_setTables (x := (closeTable id (at16 r.fields 0) s.tables).1) ?_
    exact ((untouched_respond _ _ _ _ _ _ _).trans (untouched_headNotice _ _ _)).governed.trans
      (governed_handClose _ _ _ _)

theorem ruled_readRecord (r : Request) (id : TableId) (s : State) : Ruled s (readRecord r id s) :=
  rel_ite (ruled_answer _ _ _ s) (governed_answerData _ _ _ _ s).ruled

theorem ruled_readState (r : Request) (s : State) : Ruled s (readState r s) := by
  unfold readState
  split
  · exact ruled_answer _ _ _ s
  · exact (governed_answerData _ _ _ _ s).ruled

theorem ruled_readFan (r : Request) (s : State) : Ruled s (readFan r s) :=
  rel_ite (ruled_answer _ _ _ s) (governed_answerData _ _ _ _ s).ruled

theorem ruled_readCounters (r : Request) (s : State) : Ruled s (readCounters r s) :=
  (Governed.after (t := clearCounters s) (governed_answerData _ _ _ _ _)).ruled

/-! ## Test mode and injections (R93, R184, R199, R200) -/

theorem governed_emptyIncidents (s : State) : Governed s (emptyIncidents s) := by
  have removed : FansUntouched s (emptyCandidates (removeAll s.incidents.list.length s)) :=
    (fansUntouched_removeAll _ s).trans (untouched_emptyCandidates _).toFansUntouched
  unfold emptyIncidents
  extract_lets last t
  split
  · exact governed_listEmptied last removed
  · rename_i empty
    exact removed.governed fun listed => absurd (by simpa [incidentListed] using listed) empty

/-- R171: without an incident nothing is in command, and no FAN COMMAND waits on the dry-run flag. -/
theorem governed_setDryRun {b : Bool} {s : State} (empty : s.incidents.list = []) : Governed s (setDryRun b s) := by
  refine ⟨fun held => ?_, id, rfl⟩
  obtain ⟨waiting, command, listed⟩ := (commandUnderAuthority_iff s).1 held
  have idle : s.fans.inCommand ≠ true := fun commanded => listed (.inl (command commanded)) empty
  exact (commandUnderAuthority_iff _).2
    ⟨fun q waits fan => absurd (waiting q waits fan).1 idle, command, listed⟩

/-- R199: the list goes first, then what injections left behind. -/
theorem governed_endDryRun (s : State) : Governed s (endDryRun s) := by
  have left : Governed s (setDryRun false (emptyIncidents s)) :=
    (governed_emptyIncidents s).trans (governed_setDryRun (emptyIncidents_leaves s).1)
  have samples : Governed s (clearInjectedSamples (setDryRun false (emptyIncidents s))) :=
    left.trans (Untouched.governed untouched)
  refine (samples.trans (governed_removeTrains Train.injected _)).trans (governed_setFans rfl ?_)
  exact starting_map_le _ fun r => by split <;> exact id

theorem ruled_setTestMode (r : Request) (s : State) : Ruled s (setTestMode r s) := by
  unfold setTestMode
  split
  · exact (Governed.trans (rel_ite (governed_endDryRun s) (.refl s)) (governed_answer _ _ _ _)).ruled
  · split
    · exact ruled_answer _ _ _ s
    · rename_i empty
      have none : s.incidents.list = [] := by simpa [incidentListed] using empty
      exact ((governed_setDryRun none).trans (governed_answer 9 r .done _)).ruled
  · exact ruled_answer _ _ _ s

theorem governed_takeInjected (c : Instr) (s : State) : Governed s (takeInjected c s) := by
  unfold takeInjected
  split
  · exact Untouched.governed untouched
  · exact .after (governed_raise _ _)
  · exact .after (governed_raise _ _)
  · exact .after (governed_raise _ _)
  · exact .refl s

theorem governed_inject (r : Request) (s : State) : Governed s (inject r s) := by
  have answers : ∀ {t} d, Governed s t → Governed s (answerData 10 r .done d t) := fun d h =>
    h.trans (governed_answerData _ _ _ _ _)
  have refused : ∀ st, Governed s (answer 10 r st s) := fun _ => governed_answer _ _ _ s
  have sample : ∀ kind c, Governed s (injectSample r kind c s) := fun kind c =>
    rel_ite (refused _) <| rel_ite (refused _) <| answers _ (governed_takeInjected c s)
  have train : ∀ p, Governed s (injectTrain r p s) := fun p => by
    refine rel_ite ?_ (answers _ (governed_takeTrain p true s))
    split
    · exact answers _ (governed_takeDeparture p.id s)
    · exact refused _
  have status : ∀ st, Governed s (injectStatus r st s) := fun st =>
    rel_ite (refused _) (answers _ (governed_takeStatus r.index st true s))
  refine rel_ite (refused _) ?_
  dsimp only
  split
  · exact train _
  · exact status _
  · exact sample _ _
  · exact refused _

theorem ruled_softReset (r : Request) (s : State) : Ruled s (softReset r s) :=
  rel_ite (ruled_answer _ _ _ s) (untouched_offerReport _ s).governed.ruled

/-! ## Every command -/

theorem answersRuled_storeTables (r : Request) (s : State) : AnswersRuled s (execStoreTables r s) := by
  unfold execStoreTables
  dsimp only
  split
  · exact answersRuled_makeWrite _ _ (Governed.after (t := took (.storeTables r) s) (governed_answer 8 r .done _)).ruled
  · exact answersRuled_request _ (ruled_checked 8 r true fun s => ruled_answer _ _ _ s) s

theorem answersRuled_storeWriteReady (s : State) : AnswersRuled s (execStoreWriteReady s) := by
  have stands := (Governed.refl s).ruled
  unfold execStoreWriteReady
  split
  · exact answersRuled_finish stands
  · dsimp only
    split
    · exact answersRuled_finish ⟨stands.authority, stands.slots⟩
    · split
      · exact answersRuled_makeWrite _ _ ⟨stands.authority, stands.slots⟩
      · exact answersRuled_finish (Governed.after (untouched_endStore false _).governed).ruled

theorem answersRuled_storeWriteTimeout (s : State) : AnswersRuled s (execStoreWriteTimeout s) := by
  unfold execStoreWriteTimeout
  split
  · exact answersRuled_finish (Governed.refl s).ruled
  · exact answersRuled_due (.after (untouched_endStore true _).governed)

theorem answersRuled_startUpLoadEnd (answers : Bool) (s : State) : AnswersRuled s (execStartUpLoadEnd answers s) := by
  unfold execStartUpLoadEnd
  split
  · rename_i load
    have starting : s.auth.state = .starting := by
      simp only [loading, Bool.and_eq_true, decide_eq_true_eq] at load
      exact load.2
    have ended := ruled_endStartUpLoad (s := s.setEeprom { s.eeprom with answers := answers }) starting
    exact answersRuled_finish ⟨ended.authority, ended.slots⟩
  · exact answersRuled_finish (Governed.refl s).ruled

/-- R146, R148, R154, R171: every command keeps the rules of the fans. -/
theorem exec_answersRuled (c : Instr) (s : State) : AnswersRuled s (exec c s) := by
  have dues : ∀ {t} (p : Prop) [Decidable p], Untouched s t → AnswersRuled s (finish (if p then t else s)) :=
    fun _ _ h => answersRuled_due h.governed
  have event : ∀ f (body : State → State × Bool), Governed s (body s).1 → Governed s (fanEvent f body s) :=
    fun f body own => governed_fanEvent f body s own
  have offered : ∀ (t : State), Untouched s t → AnswersRuled s (finish t) := fun t h =>
    answersRuled_finish h.governed.ruled
  cases c with
  | powerOnReset loop addr => exact answersRuled_finish (ruled_endReset _ _ s _)
  | resetN => exact answersRuled_finish ⟨fun _ => rfl, fun _ => Nat.zero_le _⟩
  | resetNRelease addr => exact answersRuled_finish (rel_ite (ruled_endReset _ _ s _) (Governed.refl s).ruled)
  | frameReceived bytes => exact offered _ (untouched_frameIn bytes s)
  | transmissionEnd => exact offered _ (untouched_endTransmission s)
  | inSilentRaised => exact dues _ (untouched_raiseSilent s)
  | stripAddressExpiry => exact dues _ untouched
  | velocitySample i v q => exact answersRuled_takes _ (Untouched.governed untouched)
  | opacitySample i e q => exact answersRuled_takes _ (.after (governed_raise _ _))
  | temperatureSample i x q => exact answersRuled_takes _ (.after (governed_raise _ _))
  | heatLineReport i l a => exact answersRuled_takes _ (.after (governed_raise _ _))
  | trainReport p => exact answersRuled_takes _ (governed_takeTrainReport p false _)
  | fanStatus f st =>
    exact answersRuled_takes _ (rel_ite (governed_dryReport f st _) (governed_takeStatus f st false _))
  | incidentDeclare q d => exact answersRuled_takes _ (governed_declare q d _)
  | incidentClear n => exact answersRuled_takes _ (governed_clearIncident n _)
  | authorityRelease n => exact answersRuled_takes _ (governed_releaseAuthority n _)
  | authorityResume => exact answersRuled_takes _ (governed_resumeAuthority _)
  | openLoad r => exact answersRuled_request _ (ruled_checkedTable 1 r true (ruled_openLoad r)) s
  | writeRecord r => exact answersRuled_request _ (ruled_checkedTable 2 r true (ruled_writeRecord r)) s
  | closeLoad r => exact answersRuled_request _ (ruled_checkedTable 3 r _ (ruled_closeLoad r)) s
  | readRecord r => exact answersRuled_request _ (ruled_checkedTable 4 r true (ruled_readRecord r)) s
  | readState r => exact answersRuled_request _ (ruled_checked 5 r true (ruled_readState r)) s
  | readFan r => exact answersRuled_request _ (ruled_checked 6 r true (ruled_readFan r)) s
  | readCounters r => exact answersRuled_request _ (ruled_checked 7 r true (ruled_readCounters r)) s
  | storeTables r => exact answersRuled_storeTables r s
  | setTestMode r => exact answersRuled_request _ (ruled_checked 9 r _ (ruled_setTestMode r)) s
  | inject r => exact answersRuled_request _ (ruled_checked 10 r _ fun u => (governed_inject r u).ruled) s
  | softReset r => exact answersRuled_request _ (ruled_checked 11 r true (ruled_softReset r)) s
  | candidateDeadline k => exact dues _ (untouched_discard 0 .expired k s)
  | phaseTimerExpiry =>
    exact answersRuled_due <| ((untouched_setPhaseTimer none s).trans (untouched_setPhase .staging _)).governed.trans
      (governed_announcePhase .staging _)
  | lockTimerExpiry n => exact dues _ (untouched_lockExpires n s)
  | trimTimerExpiry => exact answersRuled_due (.after (governed_trimStep _))
  | statusAgeUnknown f => exact answersRuled_due (event f _ (governed_ageUnknown f s))
  | ackDeadline f => exact answersRuled_due (event f _ (governed_ackPasses f s))
  | resendTime f => exact answersRuled_due (governed_resendNow f s)
  | silenceResend => exact answersRuled_due (governed_silenceResendAll s)
  | startSpacingExpiry =>
    exact answersRuled_due <|
      (governed_setFans (x := { s.fans with spacing := none }) rfl (Nat.le_refl _)).trans (governed_startTests _)
  | dwellTimerExpiry f => exact answersRuled_due (event f _ (governed_dwellEnd f s))
  | startTimerExpiry f => exact answersRuled_due (event f _ (governed_failedAttempt f s))
  | holdRefresh => exact dues _ (untouched_claimHold s)
  | trainRecordExpiry k => exact answersRuled_due (.after (governed_tableChanged _))
  | startUpLoadEnd answers => exact answersRuled_startUpLoadEnd answers s
  | storeWriteReady => exact answersRuled_storeWriteReady s
  | storeWriteTimeout => exact answersRuled_storeWriteTimeout s
  | testFrameOffer => exact dues _ (untouched_offerTestFrame s)
  | testFrameDeadline n => exact dues _ untouched
  | testFrameReceived bytes => exact offered _ (untouched_frameIn bytes s)
  | testReadCounters a q => exact dues _ (untouched_readTestCounters a q s)

/-! ## Every step -/

/-- A millisecond moves the timers of the fans, not their states. -/
theorem governed_tick (s : State) : Governed s (tick s) := by
  refine rel_ite (.refl s) ⟨fun held => ?_, fun slots => ?_, rfl⟩
  · rw [commandUnderAuthority_iff] at held ⊢
    obtain ⟨waiting, command, listed⟩ := held
    exact ⟨waiting, command, fun state empty => listed state (List.map_eq_nil_iff.1 empty)⟩
  · exact (starting_map_le (g := FanRecord.tick s.port.inSilent) s.fans.recs fun r => id).trans slots

theorem ruled_idle (s : State) : Ruled s (idle s) := by
  unfold idle
  split
  · rename_i d rest _
    unfold takeDispatch
    split
    · exact (Untouched.governed untouched).ruled
    · refine ruled_settle (Governed.trans (t := s.setDispatched rest) (Untouched.governed untouched) ?_).ruled
      refine rel_ite ?_ (.refl _)
      exact rel_ite (governed_answer _ _ _ _) (rel_ite (governed_answer _ _ _ _) (.refl _))
  · exact (Untouched.governed untouched).ruled
  · exact (governed_tick s).ruled

theorem step_ruled {s t : State} (stepped : step s = .next t) : Ruled s t := by
  unfold step at stepped
  split at stepped
  · cases stepped
    exact ruled_idle s
  · have answered := exec_answersRuled _ _ t stepped
    exact ⟨answered.authority, answered.slots⟩

/-- Settles O7: command by command, and over the step on an empty queue. -/
theorem fanCommandsWaitOnlyUnderAuthority : Obligations.FanCommandsWaitOnlyUnderAuthority :=
  fun _ _ held stepped => (step_ruled stepped).authority held

/-- Settles O9: a start asks for a free slot under the S_max that stands. -/
theorem startSlotsKeepTheirBound : Obligations.StartSlotsKeepTheirBound :=
  fun _ _ slots stepped same => (step_ruled stepped).slots (same ▸ slots)

end Sys2Proof.Machine
end

section
/-!
What the events of one fan leave of the other records: a start test and a wanted state taken touch the record of the fan
they are about, so a fan out of the start queue keeps its record, but for its wanted state (R128, R154, R155, R168).
-/

namespace Sys2Proof.Machine

open Sys2Proof

/-! ## The fans after a send, a start and a notice -/

theorem sendCommand_fans (f : Nat) (a : Action) (d : Drive) (st : SpeedStep) (s : State) :
    ∃ u : FanRecord, (sendCommand f a d st s).fans = { s.fans with recs := s.fans.recs.set f u } :=
  ⟨_, offerFanCommand_fans f _ _⟩

theorem stopFan_fans (f : Nat) (s : State) :
    ∃ u : FanRecord, (stopFan f s).fans = { s.fans with recs := s.fans.recs.set f u } := by
  obtain ⟨v, sent⟩ := sendCommand_fans f .stop .fwd .full s
  let u : FanRecord := { fanRec (sendStop f s) f with state := .stopping, start := none }
  have stopped : (stopFan f s).fans = { (sendStop f s).fans with recs := (sendStop f s).fans.recs.set f u } := rfl
  refine ⟨u, stopped.trans ?_⟩
  rw [sendStop, sent, List.set_set]

/-- R149, R154: the record of a fan that is started in a direction. -/
def startedRecord (s : State) (d : Drive) (r : FanRecord) : FanRecord := { r with
  state := .starting
  start := some (s.params.startLimit * 1000)
  lastIssued := nextCommandNumber r
  exchange := .opened ⟨.run, d, r.step, nextCommandNumber r⟩ 0 (.ack Config.ackTimeout)
  lastRun := some (d, r.step) }

/-- R154: a fan that is started leaves the queue, and the spacing runs again. -/
theorem startFan_fans {f : Nat} {r : FanRecord} {d : Drive} {st : SpeedStep} {s : State}
    (held : s.fans.recs[f]? = some r) (wanted : r.wanted = .run d st) :
    (startFan f s).fans = { s.fans with
      recs := s.fans.recs.set f (startedRecord s d r)
      queue := s.fans.queue.filter fun g => g != f
      spacing := secondsTimer s.params.startSpacing } := by
  have still : (leaveQueue f s).fans.recs[f]? = some r := held
  unfold startFan
  simp only [fanRec_of_some held, wanted]
  rw [(untouched_notifyChange _ _ _).fans, State.setFans_fans, sendCommand_eq _ _ _ still,
    modFan_eq _ (recs_set_self _ held)]
  simp only [State.setFans_fans, List.set_set]
  rfl

/-- A fan wanted STOP, or beyond the records, is not started. -/
theorem startFan_stop {f : Nat} {s : State} (wanted : (fanRec s f).wanted = .stop) : startFan f s = s := by
  unfold startFan
  rw [wanted]

/-! ## A fan that stands aside -/

/-- From `s` to `t` a fan out of the start queue keeps its record and stays out. -/
def Aside (f : Nat) (s t : State) : Prop :=
  f ∉ s.fans.queue → t.fans.recs[f]? = s.fans.recs[f]? ∧ f ∉ t.fans.queue

theorem Aside.refl (f : Nat) (s : State) : Aside f s s := fun out => ⟨rfl, out⟩

theorem Aside.trans {f : Nat} {s t u : State} (a : Aside f s t) (b : Aside f t u) : Aside f s u := fun out => by
  obtain ⟨record, still⟩ := a out
  obtain ⟨record', still'⟩ := b still
  exact ⟨record'.trans record, still'⟩

theorem Untouched.aside {s t : State} (f : Nat) (h : Untouched s t) : Aside f s t := fun out => by
  rw [h.fans]
  exact ⟨rfl, out⟩

section
variable {f g : Nat} {s t : State}

/-- The record of another fan is changed, and no fan but that one enters the queue. -/
theorem aside_of_set (other : g ≠ f) {u : FanRecord} (recs : t.fans.recs = s.fans.recs.set g u)
    (queue : f ∈ t.fans.queue → f ∈ s.fans.queue) : Aside f s t := fun out => by
  rw [recs, List.getElem?_set_ne other]
  exact ⟨rfl, out ∘ queue⟩

theorem aside_modFan (other : g ≠ f) (x : FanRecord → FanRecord) : Aside f s (modFan g x s) := aside_of_set other rfl id

theorem aside_leaveQueue : Aside f s (leaveQueue g s) := fun out => ⟨rfl, fun still => out (List.mem_filter.1 still).1⟩

theorem aside_stopFan (other : g ≠ f) : Aside f s (stopFan g s) := by
  obtain ⟨u, fans⟩ := stopFan_fans g s
  exact aside_of_set other (by rw [fans]) (by rw [fans]; exact id)

theorem aside_joinQueue (other : g ≠ f) : Aside f s (joinQueue g s) := by
  refine rel_ite (R := Aside f) (aside_of_set other rfl fun still => ?_) (.refl f s)
  exact (List.mem_append.1 still).resolve_right fun h => other (List.mem_singleton.1 h).symm

theorem aside_startFan (other : g ≠ f) : Aside f s (startFan g s) := by
  rcases wanted : (fanRec s g).wanted with _ | ⟨d, st⟩
  · rw [startFan_stop wanted]
    exact .refl f s
  · have held : s.fans.recs[g]? = some (fanRec s g) := by
      rcases here : s.fans.recs[g]? with _ | r
      · rw [fanRec, List.getD, here] at wanted
        cases wanted
      · rw [fanRec_of_some here]
    have fans := startFan_fans held wanted
    exact aside_of_set other (by rw [fans]) fun still => by
      rw [fans] at still
      exact (List.mem_filter.1 still).1

theorem aside_startLoop (n : Nat) : Aside f s (startLoop n s) := by
  induction n generalizing s with
  | zero => exact .refl f s
  | succ n ih =>
    unfold startLoop
    split
    · exact .refl f s
    · rename_i g rest queued
      split
      · intro out
        have other : g ≠ f := fun same => out (queued ▸ same ▸ List.mem_cons_self)
        exact ((aside_startFan other).trans ih) out
      · exact .refl f s

/-- R154: the start test starts queued fans alone. -/
theorem aside_startTests : Aside f s (startTests s) := aside_startLoop _

theorem aside_applyWanted (other : g ≠ f) : Aside f s (applyWanted g s) := by
  have stays := Aside.refl f s
  have stops : Aside f s (stopFan g s) := aside_stopFan other
  have leaves : Aside f s (setFanState g .stopped (leaveQueue g s)) := aside_leaveQueue.trans (aside_modFan other _)
  unfold applyWanted
  simp only []
  split
  · exact aside_joinQueue other
  · split <;> assumption
  · split
    · split <;> assumption
    · exact stops
  · split <;> assumption
  · split <;> assumption
  · exact stays

theorem aside_takeWanted (still : g = f → applyWanted f s = s) : Aside f s (takeWanted s g) := by
  have applied : Aside f s (applyWanted g s) := by
    by_cases same : g = f
    · rw [same, still same]
      exact .refl f s
    · exact aside_applyWanted same
  exact (applied.trans ((untouched_notifyChange _ _ _).aside f)).trans aside_startTests

end

/-! ## A fan that no wanted state moves (R155) -/

/-- R155: the sequencer states in which a wanted state is recorded alone. -/
def recordsAlone : FanState → Bool
  | .handsOff | .stopping | .dwell | .failed | .lost | .unavailable => true
  | _ => false

theorem applyWanted_stands {f : Nat} {s : State} (alone : recordsAlone (fanRec s f).state = true) :
    applyWanted f s = s := by
  unfold applyWanted
  simp only []
  split
  case h_6 => rfl
  all_goals
    rename_i state
    rw [state] at alone
    cases alone

theorem takeWanteds_aside {f : Nat} {r : FanRecord} (alone : recordsAlone r.state = true) (fs : List Nat) {s : State}
    (held : s.fans.recs[f]? = some r) : Aside f s (takeWanteds fs s) := by
  induction fs generalizing s with
  | nil => exact .refl f s
  | cons g fs ih =>
    intro out
    have first : Aside f s (takeWanted s g) :=
      aside_takeWanted fun _ => applyWanted_stands (by rw [fanRec_of_some held]; exact alone)
    obtain ⟨record, still⟩ := first out
    exact (first.trans (ih (record.trans held))) out

/-- R128, R168: a recompute records wanted states, and leaves the queue. -/
theorem recompute_record {f : Nat} {r : FanRecord} {s : State} (held : s.fans.recs[f]? = some r) :
    (recompute s).1.fans.queue = s.fans.queue ∧ ∃ w, (recompute s).1.fans.recs[f]? = some { r with wanted := w } := by
  unfold recompute
  split
  · have walked : (hysteresisWalk s).fans = s.fans := (untouched_takeSelection _ s).fans
    dsimp only
    rw [(untouched_phaseTest _).fans]
    refine ⟨(congrArg Sequencer.queue walked :), ?_⟩
    simp only [recordWanted, State.setFans_fans, List.getElem?_mapIdx, walked, held, Option.map_some]
    split
    · exact ⟨_, rfl⟩
    · exact ⟨r.wanted, rfl⟩
  · exact ⟨rfl, r.wanted, held⟩

/-! ## The event of one fan (R168) -/

section
variable {f : Nat} {body : State → State × Bool} {s : State} {r : FanRecord}

theorem fanEvent_of_no_recompute (unasked : (body s).2 = false) :
    fanEvent f body s = startTests (notifyChange f (fanRec s f).state (body s).1) := by
  simp only [fanEvent, unasked]
  rfl

/-- R168: an event that asks for no recompute leaves the fan as its own effect does. -/
theorem fanEvent_record (unasked : (body s).2 = false) (held : (body s).1.fans.recs[f]? = some r)
    (out : f ∉ (body s).1.fans.queue) :
    (fanEvent f body s).fans.recs[f]? = some r ∧ f ∉ (fanEvent f body s).fans.queue := by
  rw [fanEvent_of_no_recompute unasked]
  obtain ⟨record, still⟩ := (((untouched_notifyChange f _ _).aside f).trans aside_startTests) out
  exact ⟨record.trans held, still⟩

/-- R155, R168: a recompute that the event asks for brings a new wanted state at most. -/
theorem fanEvent_recordsAlone (alone : recordsAlone r.state = true) (held : (body s).1.fans.recs[f]? = some r)
    (out : f ∉ (body s).1.fans.queue) :
    (∃ w, (fanEvent f body s).fans.recs[f]? = some { r with wanted := w }) ∧ f ∉ (fanEvent f body s).fans.queue := by
  unfold fanEvent
  extract_lets p q
  obtain ⟨w, record, still⟩ : ∃ w, q.1.fans.recs[f]? = some { r with wanted := w } ∧ f ∉ q.1.fans.queue := by
    by_cases asked : p.2 = true
    · obtain ⟨queue, w, record⟩ := recompute_record held
      simp only [q, if_pos asked]
      exact ⟨w, record, queue ▸ out⟩
    · simp only [q, if_neg asked]
      exact ⟨r.wanted, held, out⟩
  obtain ⟨record', still'⟩ := (((untouched_notifyChange f (fanRec s f).state q.1).aside f).trans aside_startTests) still
  obtain ⟨record'', still''⟩ :=
    takeWanteds_aside (r := { r with wanted := w }) alone q.2 (record'.trans record) still'
  exact ⟨⟨w, record''.trans (record'.trans record)⟩, still''⟩

end

end Sys2Proof.Machine
end

section
/-!
A new command takes a new number (R149); the start timer counts a failed attempt (R160, R163); a passed deadline backs
off or loses the fan (R151, R152); an old status becomes UNKNOWN (R144).
-/

namespace Sys2Proof.Machine

open Sys2Proof

/-! ## New commands (R148, R149) -/

theorem succNumber_in_range (n : Nat) : 1 ≤ succNumber n ∧ succNumber n ≤ 255 := by
  unfold succNumber
  split <;> omega

theorem succNumber_ne {n : Nat} (h : n ≤ 255) : succNumber n ≠ n := by
  unfold succNumber
  split <;> omega

theorem nextCommandNumber_in_range (r : FanRecord) : 1 ≤ nextCommandNumber r ∧ nextCommandNumber r ≤ 255 := by
  unfold nextCommandNumber
  dsimp only
  split <;> exact succNumber_in_range _

/-- R149: a number that the drive reports with origin CHIP is passed over. -/
theorem nextCommandNumber_ne {r : FanRecord} (chip : r.reported.origin = .chip) :
    nextCommandNumber r ≠ r.reported.number := by
  unfold nextCommandNumber
  dsimp only
  split
  · rename_i taken
    rw [← taken.1]
    exact succNumber_ne (succNumber_in_range _).2
  · rename_i free
    exact fun same => free ⟨same, chip⟩

theorem offerFanCommand_dry {f : Nat} {c : FanCommand} {s : State} (dry : s.auth.dryRun = true) :
    offerFanCommand f c s = offerReport (report (noticeDest s) 0x49 [0x19, byte (headNumber s), byte f,
      byte (actionCode c.action), byte (driveCode c.dir), byte (stepCode c.step), byte c.number]) s := if_pos dry

theorem offerFanCommand_commanded {f : Nat} {c : FanCommand} {s : State} (service : s.auth.dryRun = false)
    (commanded : s.fans.inCommand = true ∧ s.auth.state = .autonomous) :
    offerFanCommand f c s = offerCommand (report (fanAddr s.tables f) 0x30 [byte (actionCode c.action),
      byte (driveCode c.dir), byte (stepCode c.step), byte c.number, 0x00]) s := by
  unfold offerFanCommand
  rw [if_neg (by simp [service]), if_pos (by simp [commanded])]
  rfl

theorem offerFanCommand_idle {f : Nat} {c : FanCommand} {s : State} (service : s.auth.dryRun = false)
    (idle : ¬ (s.fans.inCommand = true ∧ s.auth.state = .autonomous)) : offerFanCommand f c s = s := by
  unfold offerFanCommand
  rw [if_neg (by simp [service]), if_neg (by simpa using idle)]

/-- Settles O46, by the number the command takes and by where it is offered. -/
theorem newCommandTakesANewNumber : Obligations.NewCommandTakesANewNumber := by
  intro f a d st r s held after first number u
  have issued : nextCommandNumber r = number := rfl
  have sent : sendCommand f a d st s = offerFanCommand f ⟨a, d, st, number⟩ u := by
    unfold sendCommand
    simp only [fanRec_of_some held, issued]
    cases a <;> rfl
  obtain ⟨low, high⟩ := nextCommandNumber_in_range r
  refine ⟨low, high, nextCommandNumber_ne, fun service inCommand autonomous => ?_, fun dry => ?_,
    fun service idle => ?_⟩
  · exact sent.trans (offerFanCommand_commanded (s := u) service ⟨inCommand, autonomous⟩)
  · exact sent.trans (offerFanCommand_dry (s := u) dry)
  · refine sent.trans (offerFanCommand_idle (s := u) service ?_)
    rintro ⟨inCommand, autonomous⟩
    exact idle.elim (fun out => Bool.false_ne_true (out.symm.trans inCommand)) fun other => other autonomous

/-! ## STOPs and failed attempts (R155, R163) -/

section
variable {s : State} {f : Nat} {r : FanRecord}

/-- R149: a record with the exchange of a STOP opened, under the number that `r` gives. -/
def stopSent (r u : FanRecord) : FanRecord := { u with
  lastIssued := nextCommandNumber r
  exchange := .opened ⟨.stop, .fwd, .full, nextCommandNumber r⟩ 0 (.ack Config.ackTimeout) }

/-- R155: the record of a fan that becomes STOPPING. -/
def stoppingRecord (r : FanRecord) : FanRecord := { r with state := .stopping, start := none }

theorem stopDerived_fans (u : FanRecord) :
    (stopDerived f r u s).fans = { s.fans with recs := s.fans.recs.set f (stopSent r u) } := rfl

theorem stopDerived_record (u : FanRecord) (held : s.fans.recs[f]? = some r) :
    (stopDerived f r u s).fans.recs[f]? = some (stopSent r u) := recs_set_self _ held

theorem setFan_stopDerived (u v : FanRecord) :
    (stopDerived f r u s).setFan f (stopSent r v) = stopDerived f r v s := by
  simp only [stopDerived, State.setFan, State.setFans, List.set_set]
  rfl

theorem stopFan_stopDerived (held : s.fans.recs[f]? = some r) : stopFan f s = stopDerived f r (stoppingRecord r) s := by
  rw [stopFan_eq held, stopDerived, sendCommand_eq _ _ _ held]
  rfl

theorem sendStop_stopDerived (held : s.fans.recs[f]? = some r) : sendStop f s = stopDerived f r r s := by
  rw [sendStop, stopDerived, sendCommand_eq _ _ _ held]
  rfl

theorem fanRec_stopDerived (u : FanRecord) (held : s.fans.recs[f]? = some r) :
    fanRec (stopDerived f r u s) f = stopSent r u := fanRec_of_some (stopDerived_record u held)

/-- R163: a failed attempt at FULL. -/
theorem failedAttempt_full (held : s.fans.recs[f]? = some r) (step : r.step = .full) : failedAttempt f s =
    if s.params.fFull ≤ r.fullFails + 1 then (headNotice 0x11 [byte f]
      (stopDerived f r { stoppingRecord r with fullFails := r.fullFails + 1, step := .half } s), true)
    else (stopDerived f r { stoppingRecord r with fullFails := r.fullFails + 1 } s, false) := by
  have counted := fun u => setFan_stopDerived (s := s) (f := f) (r := r) (stoppingRecord r) u
  simp only [failedAttempt, stopFan_stopDerived held, fanRec_stopDerived _ held]
  split
  · rw [← counted { stoppingRecord r with fullFails := r.fullFails + 1, step := .half },
      ← counted { stoppingRecord r with fullFails := r.fullFails + 1 }]
    rfl
  · rename_i half
    exact SpeedStep.noConfusion (step.symm.trans half)

/-- R163: a failed attempt at HALF. -/
theorem failedAttempt_half (held : s.fans.recs[f]? = some r) (step : r.step = .half) : failedAttempt f s =
    if s.params.fHalf ≤ r.halfFails + 1 then (headNotice 0x12 [byte f, byte (tripCode r.reported.trip)] (stopDerived f r
      { stoppingRecord r with halfFails := r.halfFails + 1, failed := true, state := .failed } s), true)
    else (stopDerived f r { stoppingRecord r with halfFails := r.halfFails + 1 } s, false) := by
  have counted := fun u => setFan_stopDerived (s := s) (f := f) (r := r) (stoppingRecord r) u
  simp only [failedAttempt, stopFan_stopDerived held, fanRec_stopDerived _ held]
  split
  · rename_i full
    exact SpeedStep.noConfusion (step.symm.trans full)
  · rw [← counted { stoppingRecord r with halfFails := r.halfFails + 1, failed := true, state := .failed },
      ← counted { stoppingRecord r with halfFails := r.halfFails + 1 }]
    rfl

end

/-! ## What an event of a fan answers -/

theorem RecordsKept.record {f : Nat} {r : FanRecord} {s t : State} (kept : RecordsKept s t)
    (held : s.fans.recs[f]? = some r) : ∃ u, t.fans.recs[f]? = some u ∧ u.reported = r.reported := by
  have same : (t.fans.recs.map FanRecord.reported)[f]? = (s.fans.recs.map FanRecord.reported)[f]? :=
    congrArg (·[f]?) kept.reported
  simpa [held] using same

section
variable {f : Nat} {body : State → State × Bool} {s t : State} {r u : FanRecord}

/-- R168: an event of a fan ends, and planning alone is touched. -/
theorem event_ends (still : quiet s = true) (kept : Kept s (body s).1) :
    finish (fanEvent f body s) = .next (ended (fanEvent f body s)) ∧ planningOnly s (ended (fanEvent f body s)) :=
  have whole := kept_fanEvent f body s kept
  ⟨finish_ended_of_kept whole still, (whole.ended_planning still).2⟩

/-- The effect of an event on a fan that no wanted state moves, and that is out of the queue. -/
theorem event_recordsAlone {flag : Bool} (own : body s = (t, flag))
    (fans : t.fans = { s.fans with recs := s.fans.recs.set f u }) (held : s.fans.recs[f]? = some r)
    (out : f ∉ s.fans.queue) (alone : recordsAlone u.state = true) :
    (∃ w, (fanEvent f body s).fans.recs[f]? = some { u with wanted := w }) ∧ f ∉ (fanEvent f body s).fans.queue := by
  refine fanEvent_recordsAlone (r := u) alone ?_ ?_
  · rw [own, fans]
    exact recs_set_self u held
  · rw [own, fans]
    exact out

/-- The effect of an event that asks for no recompute, on a fan out of the queue. -/
theorem event_record (own : body s = (t, false)) (fans : t.fans = { s.fans with recs := s.fans.recs.set f u })
    (held : s.fans.recs[f]? = some r) (out : f ∉ s.fans.queue) :
    (fanEvent f body s).fans.recs[f]? = some u ∧ f ∉ (fanEvent f body s).fans.queue := by
  refine fanEvent_record (r := u) (by rw [own]) ?_ ?_
  · rw [own, fans]
    exact recs_set_self u held
  · rw [own, fans]
    exact out

end

/-! ## Start timers (R160, R163) -/

/-- Settles O45, by the step of the fan and the count that its failed attempt reaches. -/
theorem startTimerCountsAFailedAttempt : Obligations.StartTimerCountsAFailedAttempt := by
  intro f r s still sounding held expired out number stopped
  have due : startDue f s = true := by simp [startDue, sounding, fanRec_of_some held, expired]
  have run : exec (.startTimerExpiry f) s = finish (fanEvent f (failedAttempt f) s) := congrArg finish (if_pos due)
  obtain ⟨ends, planning⟩ := event_ends (f := f) still (kept_failedAttempt f s)
  obtain ⟨u, record, _⟩ := (recordsKept_steps.fanEvent f _ s (recordsKept_steps.failedAttempt f s)).record held
  have becomes : ∀ {v}, (fanEvent f (failedAttempt f) s).fans.recs[f]? = some v → u = v := fun h =>
    Option.some.inj (record.symm.trans h)
  refine ⟨_, u, run.trans ends, record, fun step below => ?_, fun step reached => ?_, fun step below => ?_,
    fun step reached => ?_, planning⟩
  · have own := (failedAttempt_full held step).trans (if_neg (Nat.not_le.2 below))
    exact becomes (event_record own (stopDerived_fans _) held out).1
  · have own := (failedAttempt_full held step).trans (if_pos reached)
    obtain ⟨⟨w, lowered⟩, _⟩ :=
      event_recordsAlone own ((untouched_headNotice _ _ _).fans.trans (stopDerived_fans _)) held out rfl
    rw [becomes lowered]
    rfl
  · have own := (failedAttempt_half held step).trans (if_neg (Nat.not_le.2 below))
    exact becomes (event_record own (stopDerived_fans _) held out).1
  · have own := (failedAttempt_half held step).trans (if_pos reached)
    obtain ⟨⟨w, failed⟩, _⟩ :=
      event_recordsAlone own ((untouched_headNotice _ _ _).fans.trans (stopDerived_fans _)) held out rfl
    rw [becomes failed]
    rfl

/-! ## Old statuses (R144, R153) -/

/-- R144: the record of a fan whose status is too old. -/
def agedRecord (r : FanRecord) : FanRecord := { r with reported := { r.reported with drive := .unknown } }

theorem ageUnknown_eq {f : Nat} {r : FanRecord} {s : State} (held : s.fans.recs[f]? = some r) : ageUnknown f s =
    if r.state = .queued then (leaveQueue f (s.setFan f { agedRecord r with state := .stopped }), false)
    else (s.setFan f (agedRecord r), false) := by
  have aged : modFan f (fun r => { r with reported := { r.reported with drive := .unknown } }) s =
      s.setFan f (agedRecord r) := modFan_eq _ held
  unfold ageUnknown
  rw [aged]
  simp only [fanRec_setFan _ held]
  refine if_congr Iff.rfl ?_ rfl
  have waits : (leaveQueue f (s.setFan f (agedRecord r))).fans.recs[f]? = some (agedRecord r) := recs_set_self _ held
  refine congrArg (·, false) ((modFan_eq _ waits).trans ?_)
  simp only [leaveQueue, setQueue, State.setFan, State.setFans, List.set_set]

/-- Settles O40: the reported part stands behind the effect, and a QUEUED fan has left the queue. -/
theorem statusAgesToUnknown : Obligations.StatusAgesToUnknown := by
  intro f r h s still held known at_ old
  have within : f < s.fans.recs.length := (List.getElem?_eq_some_iff.1 held).1
  have due : statusAgeDue f s = true := by
    simp [statusAgeDue, fanRec_of_some held, within, known, at_, old, Config.statusLimit]
  have run : exec (.statusAgeUnknown f) s = finish (fanEvent f (ageUnknown f) s) := congrArg finish (if_pos due)
  obtain ⟨ends, planning⟩ := event_ends (f := f) still (kept_ageUnknown f s)
  have own := ageUnknown_eq held
  by_cases queued : r.state = .queued
  · rw [if_pos queued] at own
    have left : f ∉ (ageUnknown f s).1.fans.queue := by
      rw [own]
      exact fun stays => by simpa using (List.mem_filter.1 stays).2
    obtain ⟨record, out⟩ := fanEvent_record (r := { agedRecord r with state := .stopped }) (by rw [own])
      (by rw [own]; exact recs_set_self _ held) left
    exact ⟨_, _, run.trans ends, record, rfl, fun _ => ⟨rfl, out⟩, fun other => absurd queued other, planning⟩
  · rw [if_neg queued] at own
    have kept : RecordsKept (ageUnknown f s).1 (fanEvent f (ageUnknown f) s) := by
      rw [fanEvent_of_no_recompute (by rw [own])]
      exact (recordsKept_steps.notifyChange f _ _).trans (recordsKept_steps.startTests _)
    obtain ⟨u, record, reported⟩ := kept.record (r := agedRecord r) (by rw [own]; exact recs_set_self _ held)
    refine ⟨_, u, run.trans ends, record, reported, fun is => absurd is queued, fun _ out => ?_, planning⟩
    have stands := (event_record own rfl held out).1
    rw [Option.some.inj (record.symm.trans stands)]
    rfl

/-! ## Acknowledgement deadlines (R151, R152) -/

/-- R152: the record of a fan that is LOST. -/
def lostRecord (r : FanRecord) : FanRecord :=
  { r with state := .lost, lost := true, exchange := .closed, dwell := none, start := none }

/-- R168, R186: FAULT is asserted while a fan below the fan count has its lost mark set. -/
theorem faultCondition_of_lost {f : Nat} {u : FanRecord} {t : State} (held : t.fans.recs[f]? = some u)
    (lost : u.lost = true) (below : f < t.tables.fans.count) : faultCondition t = !t.chip.inReset := by
  have fault : fanFault t = true := by
    obtain ⟨within, here⟩ := List.getElem?_eq_some_iff.1 held
    refine List.any_eq_true.2 ⟨u, List.mem_iff_getElem?.2 ⟨f, ?_⟩, by simp [lost]⟩
    rw [List.getElem?_take_of_lt below, held]
  simp [faultCondition, fault]

/-- Settles O41, by the retries used and the state of the fan. -/
theorem ackDeadlineBacksOffOrLoses : Obligations.AckDeadlineBacksOffOrLoses := by
  intro f n x r s still sounding held opened out unqueued
  have here := fanRec_of_some held
  have due : ackDue f s = true := by simp [ackDue, sounding, here, opened]
  have run : exec (.ackDeadline f) s = finish (fanEvent f (ackPasses f) s) := congrArg finish (if_pos due)
  have kept := kept_ackPasses f s
  obtain ⟨ends, planning⟩ := event_ends (f := f) still kept
  have passes : ackPasses f s =
      if n < Config.retryLimit then ((s.setFan f { r with
        exchange := .opened x n (.resend (Config.backoffDraw s.draws % 2 ^ s.params.k * Config.backoffSlot)) }).setDraws
          (s.draws + 1), false)
      else if r.state = .failed then (s.setFan f { r with exchange := .closed }, false)
      else (headNotice 0x13 [byte f, byte x.number] (s.setFan f (lostRecord r)), true) := by
    simp only [ackPasses, closeExchange, becomeLost, modFan, here, opened]
    rfl
  refine ⟨fun few => ?backs, fun all failed => ?closes, fun all other => ?loses⟩
  case backs =>
    have own := passes.trans (if_pos few)
    exact ⟨_, _, run.trans ends, Nat.mod_lt _ (Nat.two_pow_pos _), (event_record own rfl held out).1, planning⟩
  case closes =>
    have own := (passes.trans (if_neg (Nat.not_lt.2 all))).trans (if_pos failed)
    exact ⟨_, run.trans ends, (event_record own rfl held out).1, planning⟩
  case loses =>
    have own := (passes.trans (if_neg (Nat.not_lt.2 all))).trans (if_neg other)
    obtain ⟨⟨w, record⟩, _⟩ := event_recordsAlone own (untouched_headNotice _ _ _).fans held out rfl
    refine ⟨_, _, run.trans ends, record, rfl, ?_, planning⟩
    have whole := kept_fanEvent f (ackPasses f) s kept
    have pins : (fanEvent f (ackPasses f) s).chip.inReset = s.chip.inReset := by rw [whole.chip still]
    show faultCondition (fanEvent f (ackPasses f) s) = (_ && (_ || faultCondition (fanEvent f (ackPasses f) s)))
    by_cases below : f < s.tables.fans.count
    · rw [faultCondition_of_lost record rfl (by rw [whole.tables]; exact below), pins]
      simp [below]
    · simp [below, faultCondition, pins]

end Sys2Proof.Machine
end

section
/-!
An outstanding command is offered again (R151, R165, R207); and the start queue under the start spacing
(R154).
-/

namespace Sys2Proof.Machine

open Sys2Proof

/-! ## Commands offered again (R151, R165) -/

/-- R148, R166: what is offered, and where, in a state that differs from `s` in what Ring OUT relays. -/
theorem offerFanCommand_of_relayed {f : Nat} {x : FanCommand} {s u : State}
    (rest : u = { s with port := u.port, chip := u.chip, test := u.test }) : offerFanCommand f x u =
    if s.auth.dryRun = true then
      offerReport (report (noticeDest s) 0x49 [0x19, byte (headNumber s), byte f, byte (actionCode x.action),
        byte (driveCode x.dir), byte (stepCode x.step), byte x.number]) u
    else if s.fans.inCommand = true ∧ s.auth.state = .autonomous then
      offerCommand (report (fanAddr s.tables f) 0x30 [byte (actionCode x.action), byte (driveCode x.dir),
        byte (stepCode x.step), byte x.number, 0x00]) u
    else u := by
  have auth : u.auth = s.auth := by rw [rest]
  have fans : u.fans = s.fans := by rw [rest]
  have tables : u.tables = s.tables := by rw [rest]
  have dest : noticeDest u = noticeDest s := by rw [rest]; rfl
  have head : headNumber u = headNumber s := by rw [rest]; rfl
  split
  · rename_i dry
    rw [offerFanCommand_dry (by rw [auth]; exact dry), dest, head]
  · rename_i service
    have service : u.auth.dryRun = false := by rw [auth]; exact Bool.not_eq_true _ ▸ service
    split
    · rename_i commanded
      rw [offerFanCommand_commanded service (by rw [auth, fans]; exact commanded), tables]
    · rename_i idle
      exact offerFanCommand_idle service (by rw [auth, fans]; exact idle)

theorem relayed_offerFanCommand (f : Nat) (x : FanCommand) (s : State) : Relayed s (offerFanCommand f x s) := by
  unfold offerFanCommand
  split
  · exact relayed_headNotice _ _ s
  · split
    · exact relayed_offerCommand _ s rfl (by simp [kindFanCommand, kindTest])
    · exact .refl s

theorem relayed_silenceOffer (s : State) (f : Nat) : Relayed s (silenceOffer s f) := by
  unfold silenceOffer
  split
  · exact .refl s
  · exact relayed_offerFanCommand _ _ s

theorem relayed_silenceResendAll (s : State) :
    Relayed (s.setPort { s.port with silentFor := 0 }) (silenceResendAll s) := by
  have round : ∀ (l : List Nat) u, Relayed u (l.foldl silenceOffer u) := fun l => by
    induction l with
    | nil => exact .refl
    | cons f l ih => exact fun u => (relayed_silenceOffer u f).trans (ih _)
  exact round _ _

/-- Two walks over the fans that agree on every state the first one reaches. -/
theorem foldl_agrees {F G : State → Nat → State} {s : State} (told : ∀ u g, Relayed u (F u g))
    (agree : ∀ u g, Relayed s u → F u g = G u g) (l : List Nat) {u : State} (start : Relayed s u) :
    l.foldl F u = l.foldl G u := by
  induction l generalizing u with
  | nil => rfl
  | cons g l ih => exact (ih (start.trans (told u g))).trans (congrArg (l.foldl G) (agree u g start))

/-- Settles O42: the re-send time of one fan, and the silence round over the fans in index order. -/
theorem outstandingCommandIsOfferedAgain : Obligations.OutstandingCommandIsOfferedAgain := by
  unfold Obligations.OutstandingCommandIsOfferedAgain
  intro again f n x w r s still held opened
  refine ⟨fun due sounding => ?resend, fun silent late => ?silence⟩
  case resend =>
    have now : resendDue f s = true := by simp [resendDue, sounding, fanRec_of_some held, opened, due]
    have run : exec (.resendTime f) s = finish (resendNow f s) := congrArg finish (if_pos now)
    have offers : resendNow f s =
        offerFanCommand f x (s.setFan f { r with exchange := .opened x (n + 1) (.ack 250) }) := by
      simp only [resendNow, modFan, fanRec_of_some held, opened]
      rfl
    rw [run, finish_ended_of_kept (kept_resendNow f s) still, offers]
    exact congrArg (fun u => Host.Outcome.next (ended u)) (offerFanCommand_of_relayed (s := s.setFan f _) rfl)
  case silence =>
    have now : silenceResendDue s = true := by simp [silenceResendDue, silent, late, Config.silenceResend]
    have run : exec .silenceResend s = finish (silenceResendAll s) := congrArg finish (if_pos now)
    have ends := run.trans (finish_ended_of_kept (kept_silenceResendAll s) still)
    have port := (relayed_silenceResendAll s).eq_setPort still
    refine ⟨⟨_, ends, congrArg (fun u : State => u.setOuts (outputsOf (silenceResendAll s))) port⟩,
      ends.trans (congrArg (fun u => Host.Outcome.next (ended u)) ?_)⟩
    refine foldl_agrees relayed_silenceOffer (fun u g told => ?_) _ (.refl _)
    have fans : u.fans = s.fans := by rw [told.rest]; rfl
    have offers : ∀ y, offerFanCommand g y u = again g y s u := fun y => offerFanCommand_of_relayed told.rest
    unfold silenceOffer
    rcases here : s.fans.recs[g]? with _ | q
    · have reset : fanRec u g = .reset := by simp [fanRec, fans, List.getD, here]
      rw [reset]
      rfl
    · rw [fanRec_of_some (by rw [fans]; exact here), Option.map_some]
      cases q.exchange with
      | closed => rfl
      | opened y k z => exact offers y

/-! ## The start queue (R153, R154) -/

theorem startLoop_stands (n : Nat) {s : State} (waits : ∀ f rest, s.fans.queue = f :: rest → mayStart f s = false) :
    startLoop n s = s := by
  cases n with
  | zero => rfl
  | succ n =>
    unfold startLoop
    split
    · rfl
    · rename_i f rest queued
      rw [waits f rest queued]
      rfl

theorem startTests_stands {s : State} (waits : ∀ f rest, s.fans.queue = f :: rest → mayStart f s = false) :
    startTests s = s := startLoop_stands _ waits

/-- R154: where no fan may start after the first, the start test starts that one. -/
theorem startTests_one {f : Nat} {rest : List Nat} {s : State} (queued : s.fans.queue = f :: rest)
    (may : mayStart f s = true)
    (waits : ∀ g more, (startFan f s).fans.queue = g :: more → mayStart g (startFan f s) = false) :
    startTests s = startFan f s := by
  have once : startTests s = startLoop rest.length (startFan f s) := by
    rw [startTests, queued, List.length_cons, startLoop, queued]
    exact if_pos may
  rw [once, startLoop_stands _ waits]

theorem wantsRun_iff (r : FanRecord) : wantsRun r = true ↔ r.wanted ≠ .stop := by
  unfold wantsRun
  cases r.wanted <;> simp

theorem mayStart_iff (f : Nat) (s : State) : mayStart f s = true ↔ s.fans.inCommand = true ∧
    headPhase s ≠ some .delay ∧ startingCount s < s.params.sMax ∧ (∀ ms, s.fans.spacing = some ms → ms = 0) ∧
      (fanRec s f).wanted ≠ .stop := by
  have elapsed : spacingElapsed s = true ↔ ∀ ms, s.fans.spacing = some ms → ms = 0 := by
    unfold spacingElapsed
    cases s.fans.spacing <;> simp
  simp only [mayStart, Bool.and_eq_true, decide_eq_true_eq, elapsed, wantsRun_iff, and_assoc]

theorem fanRec_of_wanted {f : Nat} {s : State} (wanted : (fanRec s f).wanted ≠ .stop) :
    s.fans.recs[f]? = some (fanRec s f) := by
  rcases here : s.fans.recs[f]? with _ | r
  · exact absurd (by rw [fanRec, List.getD, here]; rfl) wanted
  · rw [fanRec_of_some here]

/-- R154: the spacing that a start sets keeps the next fan waiting. -/
theorem mayStart_startFan {f : Nat} {s : State} (may : mayStart f s = true) (spaced : 0 < s.params.startSpacing)
    (g : Nat) : mayStart g (startFan f s) = false := by
  obtain ⟨_, _, _, _, wanted⟩ := (mayStart_iff f s).1 may
  rcases runs : (fanRec s f).wanted with _ | ⟨d, st⟩
  · exact absurd runs wanted
  · refine Bool.eq_false_iff.2 fun next => ?_
    obtain ⟨_, _, _, elapsed, _⟩ := (mayStart_iff g _).1 next
    have spacing : (startFan f s).fans.spacing = some (s.params.startSpacing * 1000) := by
      rw [startFan_fans (fanRec_of_wanted wanted) runs, secondsTimer, if_neg (Nat.ne_of_gt spaced)]
    have none := elapsed _ spacing
    omega

/-- Settles O43: the fan at the head of the queue is started, or the queue stands. -/
theorem startSpacingLetsTheNextFanStart : Obligations.StartSpacingLetsTheNextFanStart := by
  intro s still elapsed
  let u : State := s.setFans { s.fans with spacing := none }
  have run : exec .startSpacingExpiry s = finish (startTests u) :=
    congrArg finish (if_pos (by simp [spacingDue, elapsed]))
  have kept : Kept s (startTests u) := (kept_setFans s _).trans (kept_startTests u)
  have ends := run.trans (finish_ended_of_kept kept still)
  refine ⟨fun f rest r d st queued held wanted commanded phase free spaced => ?starts, fun waits => ?waits⟩
  case starts =>
    have may : mayStart f u = true := (mayStart_iff f u).2
      ⟨commanded, phase, free, by simp [u], by rw [fanRec_of_some (s := u) held, wanted]; exact Wanted.noConfusion⟩
    have one : startTests u = startFan f u :=
      startTests_one (s := u) queued may fun g _ _ => mayStart_startFan (s := u) may spaced g
    have fans : (startTests u).fans = _ := (congrArg State.fans one).trans (startFan_fans (s := u) held wanted)
    refine ⟨_, ends, ?_, ?_, ?_, fun g other => ?_, (kept.ended_planning still).2⟩
    · exact (congrArg (fun x : Sequencer => x.recs[f]?) fans).trans (recs_set_self _ held)
    · refine (congrArg Sequencer.queue fans).trans ?_
      simp [u, queued]
    · refine (congrArg Sequencer.spacing fans).trans ?_
      exact if_neg (Nat.ne_of_gt spaced)
    · exact (congrArg (fun x : Sequencer => x.recs[g]?) fans).trans (List.getElem?_set_ne (Ne.symm other))
  case waits =>
    have stands : startTests u = u := startTests_stands fun f rest queued => Bool.eq_false_iff.2 fun may => by
      obtain ⟨commanded, phase, free, _, wanted⟩ := (mayStart_iff f u).1 may
      rcases waits with empty | out | delay | full | ⟨g, more, first, stop⟩
      · exact List.cons_ne_nil f rest (queued.symm.trans empty)
      · exact Bool.false_ne_true (out.symm.trans commanded)
      · exact phase delay
      · exact absurd free (Nat.not_lt.2 full)
      · obtain ⟨rfl, rfl⟩ := List.cons.inj (queued.symm.trans first)
        exact wanted stop
    rw [ends, stands]
    rfl

end Sys2Proof.Machine
end

section
/-!
The end of a dwell (R153, R159) and a new wanted state in each sequencer state (R155).
-/

namespace Sys2Proof.Machine

open Sys2Proof

/-! ## The start queue (R153) -/

section
variable {s : State} {f : Nat} {r : FanRecord}

/-- R153: a fan waits in the start queue behind the fans that wait there. -/
def queuedAs (f : Nat) (u : FanRecord) (s : State) : State :=
  s.setFans { s.fans with recs := s.fans.recs.set f u, queue := s.fans.queue ++ [f] }

/-- R153: a STOPPED fan that may join the start queue. -/
def mayJoin (s : State) (r : FanRecord) : Prop :=
  s.fans.inCommand = true ∧ r.state = .stopped ∧ r.wanted ≠ .stop ∧ r.reported.drive = .stopped

theorem joinQueue_joins (held : s.fans.recs[f]? = some r) (may : mayJoin s r) :
    joinQueue f s = queuedAs f { r with state := .queued } s := by
  obtain ⟨commanded, stopped, wanted, drive⟩ := may
  have joins : joinQueue f s = setFanState f .queued (setQueue (s.fans.queue ++ [f]) s) :=
    if_pos (by simp [fanRec_of_some held, commanded, stopped, (wantsRun_iff r).2 wanted, drive])
  exact joins.trans (modFan_eq (s := setQueue (s.fans.queue ++ [f]) s) _ held)

theorem joinQueue_stands (held : s.fans.recs[f]? = some r) (mayNot : ¬ mayJoin s r) : joinQueue f s = s := by
  refine if_neg fun joins => mayNot ?_
  rw [fanRec_of_some held] at joins
  simpa only [mayJoin, Bool.and_eq_true, decide_eq_true_eq, wantsRun_iff, and_assoc] using joins

/-- R159: the record of a fan whose dwell has ended. -/
def dwellEnded (r : FanRecord) : FanRecord := { r with state := .stopped, dwell := none }

theorem dwellEnd_eq (held : s.fans.recs[f]? = some r) : dwellEnd f s = joinQueue f (s.setFan f (dwellEnded r)) :=
  congrArg (joinQueue f) (modFan_eq _ held)

theorem dwellEnd_joins (held : s.fans.recs[f]? = some r) (wanted : r.wanted ≠ .stop)
    (drive : r.reported.drive = .stopped) (commanded : s.fans.inCommand = true) :
    dwellEnd f s = queuedAs f { r with state := .queued, dwell := none } s := by
  rw [dwellEnd_eq held, joinQueue_joins (s := s.setFan f (dwellEnded r)) (r := dwellEnded r) (recs_set_self _ held)
    ⟨commanded, rfl, wanted, drive⟩]
  simp only [queuedAs, State.setFan, State.setFans, List.set_set]
  rfl

theorem dwellEnd_stands (held : s.fans.recs[f]? = some r)
    (stays : r.wanted = .stop ∨ r.reported.drive ≠ .stopped ∨ s.fans.inCommand = false) :
    dwellEnd f s = s.setFan f (dwellEnded r) := by
  rw [dwellEnd_eq held, joinQueue_stands (s := s.setFan f (dwellEnded r)) (r := dwellEnded r) (recs_set_self _ held)]
  rintro ⟨commanded, _, wanted, drive⟩
  rcases stays with stop | other | out
  · exact wanted stop
  · exact other drive
  · exact Bool.false_ne_true (out.symm.trans commanded)

end

/-! ## The head phase under the phase test (R90) -/

theorem notifyChange_delay {f : Nat} {x : FanState} {s : State} (delay : headPhase s = some .delay) :
    notifyChange f x s = s := by
  have same : phaseTest s = s := by
    rcases phaseTest_cases s with ⟨staging, _⟩ | ⟨regulating, _⟩ | same
    · exact absurd (delay.symm.trans staging) (by simp)
    · exact absurd (delay.symm.trans regulating) (by simp)
    · exact same
  unfold notifyChange
  split
  · exact same
  · rfl

theorem headPhase_notifyChange {f : Nat} {x : FanState} {s : State} (left : headPhase s ≠ some .delay) :
    headPhase (notifyChange f x s) ≠ some .delay := by
  have tested : headPhase (phaseTest s) ≠ some .delay := by
    rcases phaseTest_cases s with ⟨_, regulating, _⟩ | ⟨_, staging, _⟩ | same
    · simp [regulating]
    · simp [staging]
    · rwa [same]
  unfold notifyChange
  split
  · exact tested
  · exact left

/-! ## A new wanted state (R155) -/

section
variable {s : State} {f : Nat} {r : FanRecord}

theorem applyWanted_queued (held : s.fans.recs[f]? = some r) (state : r.state = .queued) : applyWanted f s =
    if wantsRun r = true then s else (leaveQueue f s).setFan f { r with state := .stopped } := by
  simp only [applyWanted, fanRec_of_some held, state]
  exact congrArg (ite (wantsRun r = true) s) (modFan_eq (s := leaveQueue f s) _ held)

theorem applyWanted_runs (held : s.fans.recs[f]? = some r) (state : r.state = .settling ∨ r.state = .running) :
    applyWanted f s = if reportedAsWanted r = true then s else stopDerived f r (stoppingRecord r) s := by
  rw [← stopFan_stopDerived held]
  rcases state with state | state <;> simp only [applyWanted, fanRec_of_some held, state]

theorem applyWanted_starting (held : s.fans.recs[f]? = some r) (state : r.state = .starting) :
    ((∃ d st, r.wanted = .run d st ∧ r.lastRun = some (d, st)) → applyWanted f s = s) ∧
    ((∀ d st, r.wanted = .run d st → r.lastRun ≠ some (d, st)) →
      applyWanted f s = stopDerived f r (stoppingRecord r) s) := by
  rw [← stopFan_stopDerived held]
  simp only [applyWanted, fanRec_of_some held, state]
  constructor
  · rintro ⟨d, st, wanted, last⟩
    simp [wanted, last]
  · intro other
    split
    · rename_i d st d' st' wanted last
      refine if_neg fun same => other d st wanted ?_
      rw [last, same.1, same.2]
    · rfl

end

/-! ## The end of a dwell (R154, R159) -/

section
variable {s : State} {f : Nat} {r u : FanRecord}

/-- A fan that was not STARTING, and is not STARTING in the queue, holds no start slot. -/
theorem startingCount_queuedAs (held : s.fans.recs[f]? = some r) (before : r.state ≠ .starting)
    (after : u.state ≠ .starting) : startingCount (queuedAs f u s) = startingCount s := by
  obtain ⟨within, here⟩ := List.getElem?_eq_some_iff.1 held
  show (s.fans.recs.set f u).countP _ = s.fans.recs.countP _
  rw [List.countP_set within, here]
  simp [before, after]

/-- R154, R159: what a dwell that ends hands on. -/
theorem dwellTimerExpiry_ends (still : quiet s = true) (held : s.fans.recs[f]? = some r) (expired : r.dwell = some 0) :
    exec (.dwellTimerExpiry f) s = .next (ended (startTests (notifyChange f r.state (dwellEnd f s)))) ∧
      planningOnly s (ended (startTests (notifyChange f r.state (dwellEnd f s)))) := by
  have due : dwellDue f s = true := by simp [dwellDue, fanRec_of_some held, expired]
  have event := fanEvent_of_no_recompute (f := f) (s := s) (body := fun t => (dwellEnd f t, false)) rfl
  rw [fanRec_of_some held] at event
  rw [← event]
  obtain ⟨ends, planning⟩ := event_ends (f := f) (body := fun t => (dwellEnd f t, false)) still (kept_dwellEnd f s)
  exact ⟨(congrArg finish (if_pos due)).trans ends, planning⟩

/-- R154: in DELAY the start queue stands. -/
theorem startTests_delay (delay : headPhase s = some .delay) : startTests s = s :=
  startTests_stands fun f _ _ => Bool.eq_false_iff.2 fun may => ((mayStart_iff f s).1 may).2.1 delay

/-- R154: while no start slot is free, or the start spacing runs, the start queue stands. -/
theorem startTests_full (full : s.params.sMax ≤ startingCount s ∨ ∃ ms, s.fans.spacing = some ms ∧ ms ≠ 0) :
    startTests s = s :=
  startTests_stands fun f _ _ => Bool.eq_false_iff.2 fun may => by
    obtain ⟨_, _, free, elapsed, _⟩ := (mayStart_iff f s).1 may
    rcases full with none | ⟨ms, runs, left⟩
    · exact absurd free (Nat.not_lt.2 none)
    · exact left (elapsed ms runs)

/-- R154: a fan that waits alone and may start is started. -/
theorem startTests_alone (alone : s.fans.queue = [f]) (may : mayStart f s = true) : startTests s = startFan f s := by
  obtain ⟨_, _, _, _, wanted⟩ := (mayStart_iff f s).1 may
  refine startTests_one alone may fun g more queued => ?_
  rcases runs : (fanRec s f).wanted with _ | ⟨d, st⟩
  · exact absurd runs wanted
  · rw [startFan_fans (fanRec_of_wanted wanted) runs, alone] at queued
    simp at queued

/-- R159: the record of a fan that joins the start queue at the end of its dwell. -/
def dwellQueued (r : FanRecord) : FanRecord := { r with state := .queued, dwell := none }

/-- R154: the fan that has joined the queue waits there. -/
theorem dwellEnd_waits (held : s.fans.recs[f]? = some r) (dwell : r.state = .dwell)
    (full : s.params.sMax ≤ startingCount s ∨ ∃ ms, s.fans.spacing = some ms ∧ ms ≠ 0) :
    (startTests (notifyChange f r.state (queuedAs f (dwellQueued r) s))).fans =
      (queuedAs f (dwellQueued r) s).fans := by
  have kept := untouched_notifyChange f r.state (queuedAs f (dwellQueued r) s)
  rw [startTests_full, kept.fans]
  rw [startingCount_of_fans kept.fans, startingCount_queuedAs held (dwell ▸ FanState.noConfusion) FanState.noConfusion,
    kept.params, kept.fans]
  exact full

/-- R154: the fan that has joined an empty queue is started where nothing keeps it. -/
theorem dwellEnd_starts {d : Drive} {st : SpeedStep} (held : s.fans.recs[f]? = some r) (dwell : r.state = .dwell)
    (wanted : r.wanted = .run d st) (commanded : s.fans.inCommand = true) (left : headPhase s ≠ some .delay)
    (empty : s.fans.queue = []) (free : startingCount s < s.params.sMax)
    (elapsed : ∀ ms, s.fans.spacing = some ms → ms = 0) :
    let t := startTests (notifyChange f r.state (queuedAs f (dwellQueued r) s))
    t.fans.recs[f]? = some (startedRecord s d (dwellQueued r)) ∧ t.fans.queue = [] ∧
      t.fans.spacing = secondsTimer s.params.startSpacing ∧ ∀ g, g ≠ f → t.fans.recs[g]? = s.fans.recs[g]? := by
  let joined := queuedAs f (dwellQueued r) s
  intro t
  have kept := untouched_notifyChange f r.state joined
  have waits : (notifyChange f r.state joined).fans.recs[f]? = some (dwellQueued r) := by
    rw [kept.fans]
    exact recs_set_self _ held
  have alone : (notifyChange f r.state joined).fans.queue = [f] := by
    rw [kept.fans]
    exact congrArg (· ++ [f]) empty
  have may : mayStart f (notifyChange f r.state joined) = true := by
    rw [mayStart_iff, fanRec_of_some waits, startingCount_of_fans kept.fans, kept.params, kept.fans,
      startingCount_queuedAs held (dwell ▸ FanState.noConfusion) FanState.noConfusion]
    exact ⟨commanded, headPhase_notifyChange (s := joined) left, free, elapsed, wanted ▸ Wanted.noConfusion⟩
  have fans : t.fans = _ := (congrArg State.fans (startTests_alone alone may)).trans (startFan_fans waits wanted)
  have record : startedRecord (notifyChange f r.state joined) d (dwellQueued r) =
      startedRecord s d (dwellQueued r) := by
    rw [startedRecord, startedRecord, kept.params]
    rfl
  rw [record, alone, kept.params, kept.fans] at fans
  rw [fans]
  refine ⟨recs_set_self _ (recs_set_self _ held), by simp, rfl, fun g other => ?_⟩
  exact (List.getElem?_set_ne (Ne.symm other)).trans (List.getElem?_set_ne (Ne.symm other))

end

/-- Settles O44: the dwell's end by what keeps the fan waiting, and R155 by the sequencer state. -/
theorem dwellEndsInStoppedOrQueued : Obligations.DwellEndsInStoppedOrQueued := by
  intro f r s held hold
  refine ⟨fun still expired out => ?dwell, ?wanted⟩
  case dwell =>
    obtain ⟨ends, planning⟩ := dwellTimerExpiry_ends still held expired
    refine ⟨fun stays => ?stopped, fun d st wanted drive commanded => ?queued⟩
    case stopped =>
      rw [dwellEnd_stands held stays] at ends planning
      have set : Aside f (s.setFan f (dwellEnded r)) _ :=
        ((untouched_notifyChange f r.state _).aside f).trans aside_startTests
      exact ⟨_, ends, (set out).1.trans (recs_set_self _ held), planning⟩
    case queued =>
      intro joined
      rw [dwellEnd_joins held (wanted ▸ Wanted.noConfusion) drive commanded] at ends planning
      refine ⟨fun delay => ?_, fun left dwell => ⟨fun full => ?_, fun empty free elapsed => ?_⟩⟩
      · have stands : startTests (notifyChange f r.state joined) = joined := by
          rw [notifyChange_delay (s := joined) delay, startTests_delay (s := joined) delay]
        exact ends.trans (congrArg (fun u => Host.Outcome.next (ended u)) stands)
      · exact ⟨_, ends, dwellEnd_waits held dwell full, planning⟩
      · obtain ⟨record, queue, spacing, others⟩ := dwellEnd_starts held dwell wanted commanded left empty free elapsed
        exact ⟨_, ends, record, queue, spacing, others, planning⟩
  case wanted =>
    intro v sent n stops
    have joins : r.state = .stopped → v = joinQueue f s := fun state => by
      simp only [v, applyWanted, fanRec_of_some held, state]
    refine ⟨fun alone => ?_, fun state => ⟨fun stays => ?_, fun wanted drive commanded => ?_⟩,
      fun state => ⟨fun stop => ?_, fun wanted => ?_⟩, applyWanted_starting held,
      fun state => ⟨fun same => ?_, fun other => ?_⟩⟩
    · refine applyWanted_stands ?_
      rw [fanRec_of_some held]
      simp only [List.mem_cons, List.not_mem_nil, or_false] at alone
      rcases alone with state | state | state | state | state | state <;> rw [state] <;> rfl
    · refine (joins state).trans (joinQueue_stands held fun ⟨commanded, _, wanted, drive⟩ => ?_)
      rcases stays with stop | other | out
      · exact wanted stop
      · exact other drive
      · exact Bool.false_ne_true (out.symm.trans commanded)
    · exact (joins state).trans (joinQueue_joins held ⟨commanded, state, wanted, drive⟩)
    · refine (applyWanted_queued held state).trans ((if_neg (by simp [wantsRun, stop])).trans ?_)
      have same : (s.fans.queue.filter fun g => g != f) = s.fans.queue.filter fun g => decide (g ≠ f) :=
        List.filter_congr fun g _ => by simp [bne, Bool.beq_eq_decide_eq]
      rw [leaveQueue, same]
      rfl
    · exact (applyWanted_queued held state).trans (if_pos ((wantsRun_iff r).2 wanted))
    · exact (applyWanted_runs held state).trans (if_pos (decide_eq_true same))
    · exact (applyWanted_runs held state).trans (if_neg (by simpa [reportedAsWanted] using other))

end Sys2Proof.Machine
end

section
/-!
A release gives up the fans: command is left under RELEASED, the hold ends, and every other release is answered alone
(R147, R176, R179, R180).
-/

namespace Sys2Proof.Machine

open Sys2Proof

/-! ## Command is left (R147) -/

/-- R147: every fan is HANDS_OFF, and none waits to start. -/
theorem leaveCommand_fans {s : State} (commanded : s.fans.inCommand = true) : (leaveCommand s).fans =
    { s.fans with
      recs := s.fans.recs.mapIdx fun f r => if f < s.tables.fans.count then handsOff r else r
      queue := []
      inCommand := false } := by
  unfold leaveCommand
  rw [if_pos commanded, (untouched_phaseTest _).fans]
  rfl

theorem leaveCommand_record {f : Nat} {r : FanRecord} {s : State} (commanded : s.fans.inCommand = true)
    (held : s.fans.recs[f]? = some r) (below : f < s.tables.fans.count) :
    (leaveCommand s).fans.recs[f]? = some (handsOff r) := by
  rw [leaveCommand_fans commanded]
  simp [held, below]

/-! ## The hold ends (R179) -/

theorem endHold_auth (s : State) : (endHold s).auth.holdRemaining = 0 ∧
    (endHold s).auth.lastHold = if 0 < s.auth.holdRemaining then some s.clock else s.auth.lastHold := by
  refine ⟨rfl, ?_⟩
  unfold endHold
  split <;> rfl

theorem auth_leaveCommand (s : State) : (leaveCommand s).auth = s.auth := by
  unfold leaveCommand
  split
  · exact (carried_phaseTest _).auth
  · rfl

/-- R147, R179: what the exit from AUTONOMOUS leaves. -/
theorem exitAutonomous_leaves (a : AuthState) (s : State) :
    let v := leaveCommand (setAuthState a s)
    let t := exitAutonomous a s
    Untouched v t ∧ t.auth.state = a ∧ t.auth.holdRemaining = 0 ∧
      t.auth.lastHold = if 0 < s.auth.holdRemaining then some s.clock else s.auth.lastHold := by
  intro v t
  have held := untouched_endHold v
  have noticed : Untouched (endHold v) t := untouched_headNotice _ _ _
  have auth : t.auth = (endHold v).auth := (carried_headNotice _ _ _).auth
  have before : v.auth = { s.auth with state := a } := auth_leaveCommand _
  have clock : v.clock = s.clock := (kept_leaveCommand _).clock
  obtain ⟨none, last⟩ := endHold_auth v
  refine ⟨held.trans noticed, ?_, ?_, ?_⟩
  · rw [noticed.state, held.state, before]
  · rw [auth, none]
  · rw [auth, last, before, clock]

/-! ## The release -/

/-- Settles O47: the release that is taken, by what the leaving of command leaves; and the one that is answered. -/
theorem releaseGivesUpTheFans : Obligations.ReleaseGivesUpTheFans := by
  intro n s serves c
  obtain ⟨⟨running, service, started⟩, still⟩ := (serving_iff s).1 serves
  have inServ : inService s = true := by simp [inService, running, service, started]
  have run : exec c s = finish (releaseAuthority n (taken c s)) := exec_authorityRelease n inServ
  refine ⟨fun autonomous names => ?released, fun other => ?answered⟩
  case released =>
    have releases : releaseAuthority n (taken c s) = exitAutonomous .released (taken c s) := if_pos ⟨autonomous, names⟩
    have kept : Kept (taken c s) (exitAutonomous .released (taken c s)) := kept_exitAutonomous _ _
    obtain ⟨same, state, none, last⟩ := exitAutonomous_leaves .released (taken c s)
    have left := leaveCommand_leaves (setAuthState .released (taken c s))
    rw [run, releases]
    refine ⟨_, finish_ended_of_kept kept still, state, none, ?_, fun held => ?_, ?_, fun commanded => ⟨?_, ?_, ?_⟩,
      (kept.ended_planning still).2⟩
    · show authCondition (exitAutonomous .released (taken c s)) = false
      simp [authCondition, state]
    · exact last.trans (if_pos (Nat.pos_of_ne_zero held))
    · exact (congrArg Sequencer.inCommand same.fans).trans left.out
    · have fans := leaveCommand_fans (s := setAuthState .released (taken c s)) commanded
      exact (congrArg Sequencer.queue same.fans).trans (congrArg Sequencer.queue fans)
    · intro q waits fan
      obtain ⟨idle, _⟩ := left.commands q (same.commands q waits fan) fan
      exact Bool.false_ne_true (idle.symm.trans commanded)
    · intro f r below held
      refine (congrArg (fun x : Sequencer => x.recs[f]?) same.fans).trans ?_
      exact leaveCommand_record (s := setAuthState .released (taken c s)) commanded held below
  case answered =>
    have answers : releaseAuthority n (taken c s) = authorityNotice s.auth.state s.auth.state (taken c s) :=
      if_neg fun ⟨autonomous, names⟩ => other.elim (fun h => h autonomous) fun ⟨h, h'⟩ => names.elim h h'
    rw [run, answers]
    exact finish_ended_of_kept (s := taken c s) (kept_authorityNotice _ _ _) still

end Sys2Proof.Machine
end

section
/-!
The lost marks (R152) through what a status hands on: the operations that start, stop and derive fans leave them.
-/

namespace Sys2Proof.Machine

open Sys2Proof

/-- The lost marks of the fans are as in `s`. -/
def LostMarksKept (s t : State) : Prop := t.fans.recs.map FanRecord.lost = s.fans.recs.map FanRecord.lost

theorem LostMarksKept.refl (s : State) : LostMarksKept s s := rfl

theorem LostMarksKept.trans {s t u : State} (a : LostMarksKept s t) (b : LostMarksKept t u) : LostMarksKept s u :=
  Eq.trans b a

theorem Untouched.lostMarks {s t : State} (h : Untouched s t) : LostMarksKept s t := by
  rw [LostMarksKept, h.fans]

/-- The mark of a fan once marks have been kept. -/
theorem LostMarksKept.lost {f : Nat} {r u : FanRecord} {s t : State} (kept : LostMarksKept s t)
    (before : s.fans.recs[f]? = some r) (after : t.fans.recs[f]? = some u) : u.lost = r.lost := by
  have same := congrArg (·[f]?) kept
  simpa [before, after] using same

theorem lostMarks_setFan (s : State) (f : Nat) {u : FanRecord} (same : u.lost = (fanRec s f).lost) :
    LostMarksKept s (s.setFan f u) := by
  show (s.fans.recs.set f u).map FanRecord.lost = s.fans.recs.map FanRecord.lost
  rw [List.map_set]
  rcases held : s.fans.recs[f]? with _ | r
  · exact List.set_eq_of_length_le (by simpa using held)
  · obtain ⟨within, here⟩ := List.getElem?_eq_some_iff.1 held
    rw [same, fanRec_of_some held, ← here, ← List.getElem_map FanRecord.lost (h := by simpa using within)]
    exact List.set_getElem_self _

theorem lostMarks_modFan (f : Nat) {g : FanRecord → FanRecord} (s : State)
    (same : ∀ r, (g r).lost = r.lost := by exact fun _ => rfl) : LostMarksKept s (modFan f g s) :=
  lostMarks_setFan s f (same _)

theorem lostMarks_sendCommand (f : Nat) (a : Action) (d : Drive) (st : SpeedStep) (s : State) :
    LostMarksKept s (sendCommand f a d st s) := by
  refine Eq.trans (congrArg (fun x : Sequencer => x.recs.map FanRecord.lost) (offerFanCommand_fans f _ _)) ?_
  exact lostMarks_setFan s f rfl

theorem lostMarks_stopFan (f : Nat) (s : State) : LostMarksKept s (stopFan f s) :=
  (lostMarks_sendCommand f _ _ _ s).trans (lostMarks_modFan f _)

theorem lostMarks_joinQueue (f : Nat) (s : State) : LostMarksKept s (joinQueue f s) :=
  rel_ite (R := LostMarksKept) (lostMarks_modFan f (setQueue (s.fans.queue ++ [f]) s)) (.refl s)

theorem lostMarks_deriveFan (f : Nat) (s : State) : LostMarksKept s (deriveFan f s) := by
  have state : ∀ x t, LostMarksKept t (setFanState f x t) := fun x t => lostMarks_modFan f t
  have stops : ∀ t, LostMarksKept t (stopFan f t) := lostMarks_stopFan f
  have set : ∀ t (u : FanRecord), u.lost = (fanRec t f).lost → LostMarksKept t (t.setFan f u) := fun t u =>
    lostMarks_setFan t f
  unfold deriveFan
  refine LostMarksKept.trans (t := stopTimers f s) (lostMarks_modFan f s) ?_
  generalize stopTimers f s = t
  dsimp only
  split
  · refine (state .failed t).trans ?_
    split
    case h_5 => exact .refl _
    all_goals exact lostMarks_sendCommand f _ _ _ _
  · split
    · exact state _ t
    · split
      · exact state _ t
      · exact state _ t
      · exact rel_ite (state _ t) (stops t)
      · exact rel_ite (set t _ rfl) (stops t)
      · exact stops t
      · exact stops t
      · exact rel_ite (set t _ rfl) (state _ t)

theorem lostMarks_deriveOne (f : Nat) (s : State) : LostMarksKept s (deriveOne f s) :=
  (lostMarks_deriveFan f s).trans (lostMarks_joinQueue f _)

theorem lostMarks_notifyChange (f : Nat) (x : FanState) (s : State) : LostMarksKept s (notifyChange f x s) :=
  (untouched_notifyChange f x s).lostMarks

theorem lostMarks_startFan (f : Nat) (s : State) : LostMarksKept s (startFan f s) := by
  rcases wanted : (fanRec s f).wanted with _ | ⟨d, st⟩
  · rw [startFan_stop wanted]
    exact .refl s
  · rw [LostMarksKept, startFan_fans (fanRec_of_wanted (wanted ▸ Wanted.noConfusion)) wanted]
    exact lostMarks_setFan s f rfl

theorem lostMarks_startLoop (n : Nat) (s : State) : LostMarksKept s (startLoop n s) := by
  induction n generalizing s with
  | zero => exact .refl s
  | succ n ih =>
    unfold startLoop
    split
    · exact .refl s
    · exact rel_ite ((lostMarks_startFan _ s).trans (ih _)) (.refl s)

theorem lostMarks_applyWanted (f : Nat) (s : State) : LostMarksKept s (applyWanted f s) := by
  have stays := LostMarksKept.refl s
  have stops := lostMarks_stopFan f s
  unfold applyWanted
  simp only []
  split
  · exact lostMarks_joinQueue f s
  · exact rel_ite stays (lostMarks_modFan f (leaveQueue f s))
  · split
    · exact rel_ite stays stops
    · exact stops
  · exact rel_ite stays stops
  · exact rel_ite stays stops
  · exact stays

theorem lostMarks_takeWanteds (fs : List Nat) (s : State) : LostMarksKept s (takeWanteds fs s) := by
  unfold takeWanteds
  induction fs generalizing s with
  | nil => exact .refl s
  | cons f fs ih =>
    have first : LostMarksKept s (takeWanted s f) :=
      ((lostMarks_applyWanted f s).trans (lostMarks_notifyChange f _ _)).trans (lostMarks_startLoop _ _)
    exact first.trans (ih _)

theorem lostMarks_recordWanted (s : State) : LostMarksKept s (recordWanted s) := by
  refine List.ext_getElem? fun f => ?_
  simp only [recordWanted, State.setFans_fans, List.getElem?_map, List.getElem?_mapIdx, Option.map_map]
  refine congrFun (congrArg Option.map (funext fun r => ?_)) _
  simp only [Function.comp_apply]
  split <;> rfl

theorem lostMarks_recompute (s : State) : LostMarksKept s (recompute s).1 := by
  unfold recompute
  split
  · have walked : LostMarksKept s (hysteresisWalk s) := (untouched_takeSelection _ s).lostMarks
    exact (walked.trans (lostMarks_recordWanted _)).trans (untouched_phaseTest _).lostMarks
  · exact .refl s

/-- R168: an event of a fan leaves the marks that its own effect leaves. -/
theorem lostMarks_fanEvent (f : Nat) (body : State → State × Bool) (s : State) :
    LostMarksKept (body s).1 (fanEvent f body s) := by
  have asked : LostMarksKept (body s).1
      (if (body s).2 = true then recompute (body s).1 else ((body s).1, [])).1 := by
    split
    · exact lostMarks_recompute _
    · exact .refl _
  exact ((asked.trans (lostMarks_notifyChange f _ _)).trans (lostMarks_startLoop _ _)).trans (lostMarks_takeWanteds _ _)

end Sys2Proof.Machine
end

section
/-!
A status of a fan (R144, R150, R152, R156 to R163): what it comes to in each sequencer state, drive state by drive
state.
-/

namespace Sys2Proof.Machine

open Sys2Proof

/-! ## Notices about the head -/

/-- R94: a notice about the head reads the head's number and where notices go. -/
theorem headNotice_tells {s u : State} (c : Nat) (fields : List Byte) (head : HeadKept s u)
    (tables : u.tables = s.tables) : headNotice c fields u =
      offerReport (report (noticeDest s) 0x49 (byte c :: byte (headNumber s) :: fields)) u := by
  have numbers : ∀ t : State,
      headNumber t = ((t.incidents.list.map Incident.key).head?.map Prod.fst).getD 0 := fun t => by
    unfold headNumber
    cases t.incidents.list <;> rfl
  have number : headNumber u = headNumber s := by rw [numbers, numbers, head.keys]
  have dest : noticeDest u = noticeDest s := by rw [noticeDest, noticeDest, State.params, State.params, tables]
  rw [headNotice, notice, noticeFrame, number, dest]
  rfl

section
variable {w : State} {f : Nat} {b : FanRecord} (held : w.fans.recs[f]? = some b)
include held

/-! ## Which rule handles a status (R144 step 3) -/

theorem statusBody_lost (known : Bool) (lost : b.lost = true) : statusBody f known w = recoverFan f w := by
  simp [statusBody, fanRec_of_some held, lost]

theorem statusBody_handsOff (known : Bool) (lost : b.lost = false) (state : b.state = .handsOff) :
    statusBody f known w = (w, false) := by
  simp [statusBody, fanRec_of_some held, lost, state]

/-- R161: a lockout. -/
theorem statusBody_lockout (known : Bool) (lost : b.lost = false) (drive : b.reported.drive = .lockout)
    (state : b.state ≠ .handsOff) :
    statusBody f known w = if b.state = .unavailable then (w, false) else becomeUnavailable f w := by
  simp [statusBody, fanRec_of_some held, lost, drive, state]

/-- R144 step 3: the rule by the sequencer state, out of loss and lockout. -/
theorem statusBody_rule (known : Bool) (lost : b.lost = false) (drive : b.reported.drive ≠ .lockout) :
    (b.state = .starting ∨ b.state = .settling → statusBody f known w = statusStarting f w) ∧
    (b.state = .running → statusBody f known w = statusRunning f w) ∧
    (b.state = .stopping → statusBody f known w = statusStopping f w) ∧
    (b.state = .dwell ∨ b.state = .stopped ∨ b.state = .queued → statusBody f known w = statusStanding f known w) ∧
    (b.state = .failed → statusBody f known w = statusFailed f w) ∧
    (b.state = .unavailable → statusBody f known w = (deriveOne f w, true)) := by
  have rule : ∀ x, b.state = x → statusBody f known w = _ := fun x state => by
    simp only [statusBody, fanRec_of_some held, lost, state, drive, decide_false, Bool.false_and, Bool.false_eq_true,
      if_false]
    rfl
  refine ⟨?_, rule .running, rule .stopping, ?_, rule .failed, rule .unavailable⟩
  · exact fun h => h.elim (rule .starting) (rule .settling)
  · exact fun h => h.elim (rule .dwell) fun h => h.elim (rule .stopped) (rule .queued)

/-! ## STARTING and SETTLING (R156) -/

/-- R156: a fan whose RUN is not acknowledged heeds a trip alone. -/
theorem statusStarting_unacknowledged (state : b.state = .starting) (opened : b.exchange ≠ .closed) :
    (b.reported.drive = .tripped → statusStarting f w = failedAttempt f w) ∧
    (b.reported.drive ≠ .tripped → statusStarting f w = (w, false)) := by
  have rule : statusStarting f w = if b.reported.drive = .tripped then failedAttempt f w else (w, false) := by
    simp only [statusStarting, fanRec_of_some held, state, exchangeClosed, opened]
    cases b.reported.drive <;> rfl
  rw [rule]
  exact ⟨fun tripped => if_pos tripped, fun other => if_neg other⟩

/-- R156: a fan whose RUN is acknowledged, or that is SETTLING. -/
theorem statusStarting_heeds (heeds : b.state = .settling ∨ (b.state = .starting ∧ b.exchange = .closed)) :
    (b.reported.drive = .running → b.wanted = .run b.reported.dir b.reported.step →
      statusStarting f w = (w.setFan f { b with state := .running, start := none }, false)) ∧
    (b.reported.drive = .accel → b.wanted = .run b.reported.dir b.reported.step → statusStarting f w = (w, false)) ∧
    (reportedMoving b ∨ b.reported.drive = .stopped →
      ¬ (b.reported.drive ∈ [.running, .accel] ∧ b.wanted = .run b.reported.dir b.reported.step) →
      statusStarting f w = failedAttempt f w) := by
  have heeded : (decide (b.state = .settling) || exchangeClosed b) = true := by
    rcases heeds with settling | ⟨_, closed⟩
    · simp [settling]
    · simp [exchangeClosed, closed]
  have wanted_iff : reportedAsWanted b = true ↔ b.wanted = .run b.reported.dir b.reported.step := decide_eq_true_iff
  have ran : modFan f (fun r => { r with state := .running, start := none }) w = w.setFan f { b with
      state := .running
      start := none } := modFan_eq _ held
  simp only [statusStarting, fanRec_of_some held, heeded, if_true, ran]
  refine ⟨fun drive wanted => ?_, fun drive wanted => ?_, fun moves other => ?_⟩
  · simp [drive, wanted_iff.2 wanted]
  · simp [drive, wanted_iff.2 wanted]
  · have unwanted : b.reported.drive ∈ [.running, .accel] → ¬ reportedAsWanted b = true := fun drive wanted =>
      other ⟨drive, wanted_iff.1 wanted⟩
    rcases moves.imp_left reportedMoving_cases with (drive | drive | drive | drive) | drive
    · simp [drive, unwanted (by simp [drive])]
    · simp [drive, unwanted (by simp [drive])]
    · simp [drive]
    · simp [drive]
    · simp [drive]

/-! ## RUNNING (R157) -/

theorem statusRunning_rule :
    (b.reported.drive = .running → b.wanted = .run b.reported.dir b.reported.step → statusRunning f w = (w, false)) ∧
    (b.reported.drive = .tripped → statusRunning f w = failedAttempt f w) ∧
    (b.reported.drive ≠ .tripped → ¬ (b.reported.drive = .running ∧ b.wanted = .run b.reported.dir b.reported.step) →
      statusRunning f w = (deriveOne f w, false)) := by
  have wanted_iff : reportedAsWanted b = true ↔ b.wanted = .run b.reported.dir b.reported.step := decide_eq_true_iff
  simp only [statusRunning, fanRec_of_some held]
  refine ⟨fun drive wanted => ?_, fun drive => ?_, fun safe other => ?_⟩
  · simp [drive, wanted_iff.2 wanted]
  · simp [drive]
  · cases drive : b.reported.drive with
    | running => exact if_neg fun wanted => other ⟨drive, wanted_iff.1 wanted⟩
    | tripped => exact absurd drive safe
    | stopped | accel | decel | lockout | unknown => rfl

/-! ## STOPPING (R158, R159) -/

theorem statusStopping_rule :
    (b.exchange = .closed → b.reported.drive = .stopped →
      statusStopping f w = (enterDwell f (w.params.dwell * 1000) w, false)) ∧
    (b.exchange = .closed → b.reported.drive ∈ [.tripped, .accel, .running] →
      statusStopping f w = (sendStop f w, false)) ∧
    (b.exchange ≠ .closed ∨ b.reported.drive = .decel → statusStopping f w = (w, false)) := by
  simp only [statusStopping, fanRec_of_some held, exchangeClosed]
  refine ⟨fun closed drive => ?_, fun closed drive => ?_, fun waits => ?_⟩
  · simp [closed, drive]
  · simp only [List.mem_cons, List.not_mem_nil, or_false] at drive
    rcases drive with drive | drive | drive <;> simp [closed, drive]
  · rcases waits with opened | drive
    · simp [opened]
    · simp [drive]

/-- R158, R159: the dwell that a stopped drive enters, or that ends at once. -/
theorem enterDwell_rule :
    (0 < w.params.dwell → enterDwell f (w.params.dwell * 1000) w =
      w.setFan f { b with state := .dwell, dwell := some (w.params.dwell * 1000) }) ∧
    (w.params.dwell = 0 → b.wanted = .stop ∨ b.reported.drive ≠ .stopped ∨ w.fans.inCommand = false →
      enterDwell f (w.params.dwell * 1000) w = w.setFan f (dwellEnded b)) ∧
    (w.params.dwell = 0 → b.wanted ≠ .stop → b.reported.drive = .stopped → w.fans.inCommand = true →
      enterDwell f (w.params.dwell * 1000) w = queuedAs f (dwellQueued b) w) := by
  have ends : w.params.dwell = 0 → enterDwell f (w.params.dwell * 1000) w = dwellEnd f w := fun none =>
    if_pos (by omega)
  refine ⟨fun runs => (if_neg (by omega)).trans (modFan_eq _ held), fun none stays => ?_,
    fun none wanted drive commanded => ?_⟩
  · exact (ends none).trans (dwellEnd_stands held stays)
  · exact (ends none).trans (dwellEnd_joins held wanted drive commanded)

/-! ## DWELL, STOPPED and QUEUED (R159); FAILED (R162); lockouts (R161) -/

theorem statusStanding_rule (known : Bool) :
    (b.reported.drive = .stopped → b.state = .stopped → known = true →
      statusStanding f known w = (deriveOne f w, false)) ∧
    (b.reported.drive = .stopped → b.state ≠ .stopped ∨ known = false → statusStanding f known w = (w, false)) ∧
    (reportedMoving b → statusStanding f known w = (deriveOne f (leaveQueue f w), false)) := by
  simp only [statusStanding, fanRec_of_some held]
  refine ⟨fun drive state was => ?_, fun drive stays => ?_, fun moves => ?_⟩
  · simp [drive, state, was]
  · rcases stays with other | fresh
    · simp [drive, other]
    · simp [drive, fresh]
  · rcases reportedMoving_cases moves with drive | drive | drive | drive <;> simp [drive]

theorem statusFailed_rule :
    (b.reported.drive = .tripped → b.exchange = .closed → statusFailed f w = (sendStop f w, false)) ∧
    (b.reported.drive ≠ .tripped ∨ b.exchange ≠ .closed → statusFailed f w = (w, false)) := by
  simp only [statusFailed, fanRec_of_some held, exchangeClosed]
  refine ⟨fun drive closed => ?_, fun stays => ?_⟩
  · simp [drive, closed]
  · rcases stays with other | opened
    · simp [other]
    · simp [opened]

theorem becomeUnavailable_eq : becomeUnavailable f w = ((leaveQueue f w).setFan f { b with
    state := .unavailable
    exchange := .closed
    dwell := none
    start := none }, true) := congrArg (·, true) (modFan_eq (s := leaveQueue f w) _ held)

/-! ## Recovery (R152) and derivation (R153) -/

theorem recoverFan_eq : recoverFan f w = (headNotice 0x14 [byte f, byte (driveStateCode b.reported.drive)]
    (if w.fans.inCommand = true then deriveOne f (w.setFan f { b with lost := false })
      else w.setFan f { b with lost := false }), w.fans.inCommand) := by
  have unmarked : modFan f (fun r => { r with lost := false }) w = w.setFan f { b with lost := false } :=
    modFan_eq _ held
  simp only [recoverFan, unmarked, fanRec_of_some held]
  rfl

end

/-- R153: a fan derived joins the start queue, or stands. -/
theorem deriveOne_rule {w : State} {f : Nat} {z : FanRecord} (held : (deriveFan f w).fans.recs[f]? = some z) :
    (mayJoin (deriveFan f w) z → deriveOne f w = queuedAs f { z with state := .queued } (deriveFan f w)) ∧
    (¬ mayJoin (deriveFan f w) z → deriveOne f w = deriveFan f w) :=
  ⟨joinQueue_joins held, joinQueue_stands held⟩

end Sys2Proof.Machine
end

section
/-!
The statement on a fan status (R144): its reported part, its acknowledgement, and what each sequencer state makes of it.
-/

namespace Sys2Proof.Machine

open Sys2Proof

/-! ## The report and the acknowledgement (R144, R150, R166) -/

section
variable {f : Nat} {st : FanStatus} {r : FanRecord} {s : State}

/-- R150: a status acknowledges an open exchange whose number it carries with origin CHIP. -/
theorem acknowledges_iff : acknowledges r st = true ↔
    ∃ x n w, r.exchange = .opened x n w ∧ st.number = x.number ∧ st.origin = .chip := by
  unfold acknowledges
  split
  · rename_i closed
    simp [closed]
  · rename_i x n w opened
    simp [opened]

/-- R150: the exchange behind a status. -/
def exchangeAfter (st : FanStatus) (r : FanRecord) : Exchange := if acknowledges r st then .closed else r.exchange

theorem exchangeAfter_closed (acked : r.exchange = .closed ∨
    ∃ x n w, r.exchange = .opened x n w ∧ st.number = x.number ∧ st.origin = .chip) :
    exchangeAfter st r = .closed := by
  unfold exchangeAfter
  rcases acked with closed | acked
  · rw [closed, ite_self]
  · exact if_pos (acknowledges_iff.2 acked)

theorem exchangeAfter_stands (unacked : ¬ (r.exchange = .closed ∨
    ∃ x n w, r.exchange = .opened x n w ∧ st.number = x.number ∧ st.origin = .chip)) :
    exchangeAfter st r = r.exchange :=
  if_neg fun acked => unacked (.inr (acknowledges_iff.1 acked))

theorem exec_fanStatus (serves : serving s = true) (below : f < s.tables.fans.count) : exec (.fanStatus f st) s =
    finish (if s.auth.dryRun = true then dryReport f st (taken (.fanStatus f st) s)
      else takeStatus f st false (taken (.fanStatus f st) s)) := by
  obtain ⟨⟨running, service, started⟩, _⟩ := (serving_iff s).1 serves
  have inServ : (inService s && decide (f < s.tables.fans.count)) = true := by
    simp [inService, running, service, started, below]
  exact congrArg finish (if_pos inServ)

/-- R166: a status in dry run, unless an injection marks the fan. -/
theorem dryReport_eq (held : s.fans.recs[f]? = some r) : dryReport f st s =
    if r.reported.injected = true then s else s.setFan f { r with reported := reportedOf st s.clock false } := by
  unfold dryReport modFan
  rw [fanRec_of_some held]

/-- R144: a status in service is an event of the fan, behind its report. -/
theorem takeStatus_eq (held : s.fans.recs[f]? = some r) : takeStatus f st false s =
    fanEvent f (statusBody f (decide (r.reported.drive = .unknown)))
      (s.setFan f { r with reported := reportedOf st s.clock false, exchange := exchangeAfter st r }) := by
  unfold takeStatus takeReport modFan
  rw [fanRec_of_some held]
  rfl

end

/-- R144: the record of a fan behind the report and the acknowledgement of a status. -/
def reportTaken (st : FanStatus) (now : Nat) (r : FanRecord) : FanRecord :=
  { r with reported := reportedOf st now false, exchange := exchangeAfter st r }

section
variable {f : Nat} {st : FanStatus} {r : FanRecord} {s : State}

/-- R144: a status in service. -/
theorem fanStatus_serves (serves : serving s = true) (below : f < s.tables.fans.count)
    (held : s.fans.recs[f]? = some r) (service : s.auth.dryRun = false) :
    let c := Instr.fanStatus f st
    let t := fanEvent f (statusBody f (decide (r.reported.drive = .unknown)))
      ((taken c s).setFan f (reportTaken st s.clock r))
    exec c s = .next (ended t) ∧ planningOnly (taken c s) (ended t) := by
  intro c t
  have still : quiet (taken c s) = true := serving_quiet serves
  have taken_eq : takeStatus f st false (taken c s) = t := takeStatus_eq (s := taken c s) held
  have kept : Kept (taken c s) t := taken_eq ▸ kept_takeStatus f st false (taken c s)
  refine ⟨?_, (kept.ended_planning still).2⟩
  rw [exec_fanStatus serves below, if_neg (by simp [service]), taken_eq]
  exact finish_ended_of_kept kept still

section
variable {known : Bool} {w : State} {b : FanRecord} (held : w.fans.recs[f]? = some b)
include held

/-- R144, R152: the reported part stands behind the event, and a lost mark is cleared. -/
theorem statusEvent_record : ∃ u, (fanEvent f (statusBody f known) w).fans.recs[f]? = some u ∧
    u.reported = b.reported ∧ (b.lost = true → u.lost = false) := by
  obtain ⟨u, record, reported⟩ :=
    (recordsKept_steps.fanEvent f _ w (recordsKept_steps.statusBody f known w)).record held
  refine ⟨u, record, reported, fun lost => ?_⟩
  have own := (statusBody_lost held known lost).trans (recoverFan_eq held)
  have unmarked : LostMarksKept (w.setFan f { b with lost := false }) (statusBody f known w).1 := by
    rw [own]
    exact LostMarksKept.trans (rel_ite (lostMarks_deriveOne f _) (.refl _)) (untouched_headNotice _ _ _).lostMarks
  exact (unmarked.trans (lostMarks_fanEvent f _ w)).lost (recs_set_self _ held) record

/-- R161: out of command a status of a HANDS_OFF fan is a report alone. -/
theorem statusEvent_handsOff (lost : b.lost = false) (state : b.state = .handsOff) (out : w.fans.inCommand = false) :
    fanEvent f (statusBody f known) w = w := by
  have own := statusBody_handsOff held known lost state
  have stands : startTests w = w := startTests_stands fun g _ _ => Bool.eq_false_iff.2 fun may =>
    Bool.false_ne_true (out.symm.trans ((mayStart_iff g w).1 may).1)
  rw [fanEvent_of_no_recompute (by rw [own]), own, notifyChange, if_neg (by simp), stands]

/-- R158: the drive of a STOPPING fan stands still, and its dwell begins. -/
theorem statusEvent_dwells (lost : b.lost = false) (queue : f ∉ w.fans.queue) (closed : b.exchange = .closed)
    (state : b.state = .stopping) (drive : b.reported.drive = .stopped) (runs : 0 < w.params.dwell) :
    (fanEvent f (statusBody f known) w).fans.recs[f]? =
      some { b with state := .dwell, dwell := some (w.params.dwell * 1000) } := by
  obtain ⟨_, _, rule, _⟩ := statusBody_rule held known lost (by simp [drive])
  have own := (rule state).trans (((statusStopping_rule held).1 closed drive).trans
    (congrArg (·, false) ((enterDwell_rule held).1 runs)))
  exact (event_record own rfl held queue).1

/-- R156: an acknowledged RUN is carried out. -/
theorem statusEvent_runs (lost : b.lost = false) (queue : f ∉ w.fans.queue) (closed : b.exchange = .closed)
    (state : b.state = .starting) (drive : b.reported.drive = .running)
    (wanted : b.wanted = .run b.reported.dir b.reported.step) :
    (fanEvent f (statusBody f known) w).fans.recs[f]? = some { b with state := .running, start := none } := by
  obtain ⟨rule, _⟩ := statusBody_rule held known lost (by simp [drive])
  have own := (rule (.inl state)).trans ((statusStarting_heeds held (.inr ⟨state, closed⟩)).1 drive wanted)
  exact (event_record own rfl held queue).1

/-- R161: a lockout makes the fan UNAVAILABLE and takes it out of the queue. -/
theorem statusEvent_lockout (lost : b.lost = false) (drive : b.reported.drive = .lockout)
    (commanded : b.state ≠ .handsOff) (available : b.state ≠ .unavailable) :
    (∃ x, (fanEvent f (statusBody f known) w).fans.recs[f]? = some { b with
      state := .unavailable
      exchange := .closed
      dwell := none
      start := none
      wanted := x }) ∧ f ∉ (fanEvent f (statusBody f known) w).fans.queue := by
  have own := (statusBody_lockout held known lost drive commanded).trans
    ((if_neg available).trans (becomeUnavailable_eq held))
  refine fanEvent_recordsAlone
    (r := { b with state := .unavailable, exchange := .closed, dwell := none, start := none }) rfl ?_ ?_
  · rw [own]
    exact recs_set_self _ held
  · rw [own]
    exact fun stays => by simpa using (List.mem_filter.1 stays).2

end

end

/-- Settles O39: dry run, what stands behind the event in service, and the effect of the status by the state of the
fan. -/
theorem fanStatusIsTaken : Obligations.FanStatusIsTaken := by
  intro f st r s serves below held c reported acked hold
  have still : quiet (taken c s) = true := serving_quiet serves
  have run : exec c s = _ := exec_fanStatus serves below
  have dry : dryReport f st (taken c s) = _ := dryReport_eq (s := taken c s) held
  refine ⟨fun inDry injected => ?blocked, fun inDry free => ?dryTaken, fun service => ?service,
    fun x closes opens => ?rules⟩
  case blocked =>
    rw [run, if_pos inDry, dry, if_pos injected]
    exact finish_ended (quiet_due still)
  case dryTaken =>
    rw [run, if_pos inDry, dry, if_neg (by simp [free])]
    exact finish_ended_of_kept (kept_setFan (taken c s) _ _) still
  case service =>
    obtain ⟨next, planning⟩ := fanStatus_serves (st := st) serves below held service
    have held' : (hold (reportTaken st s.clock r)).fans.recs[f]? = some (reportTaken st s.clock r) :=
      recs_set_self _ held
    obtain ⟨u, record, same, unmarked⟩ :=
      statusEvent_record (known := decide (r.reported.drive = .unknown)) held'
    have becomes : ∀ {v}, _ = some v → u = v := fun h => Option.some.inj (record.symm.trans h)
    refine ⟨_, u, next, record, same, unmarked, fun lost state out => ⟨fun ack => ?_, fun unacked => ?_⟩,
      fun lost queue ack state drive runs => ?_, fun lost queue ack state drive wanted => ?_,
      fun lost commanded known drive => ?_, planning⟩
    · rw [← exchangeAfter_closed ack]
      exact congrArg ended (statusEvent_handsOff held' lost state out)
    · rw [show (r.exchange = exchangeAfter st r) from (exchangeAfter_stands unacked).symm]
      exact congrArg ended (statusEvent_handsOff held' lost state out)
    · rw [becomes (statusEvent_dwells held' lost queue (exchangeAfter_closed ack) state drive runs)]
      exact congrArg (fun x => { r with
        reported := reported
        exchange := x
        state := .dwell
        dwell := some (s.params.dwell * 1000) }) (exchangeAfter_closed ack)
    · rw [becomes (statusEvent_runs held' lost queue (exchangeAfter_closed ack) state drive wanted)]
      exact congrArg (fun x => { r with reported := reported, exchange := x, state := .running, start := none })
        (exchangeAfter_closed ack)
    · obtain ⟨⟨x, locked⟩, out⟩ := statusEvent_lockout held' lost drive commanded known
      rw [becomes locked]
      exact ⟨rfl, rfl, rfl, rfl, out⟩
  case rules =>
    obtain rfl : x = exchangeAfter st r := by
      by_cases ack : acked
      · exact (closes ack).trans (exchangeAfter_closed ack).symm
      · exact (opens ack).trans (exchangeAfter_stands ack).symm
    intro b s' body v stays unqueued number sends tell asWanted gone fails moves
    have held' : s'.fans.recs[f]? = some b := recs_set_self b held
    have holds : ∀ u, s'.setFan f u = hold u := setFan_setFan (taken c s) f b
    have recs : ∀ u, s'.fans.recs.set f u = s.fans.recs.set f u := fun u => List.set_set ..
    have sent : ∀ u, stopDerived f b u s' = sends u := fun u =>
      congrArg (fun l => (sendCommand f .stop .fwd .full s').setFans { s.fans with recs := l }) (recs _)
    have stopAgain : sendStop f s' = sends b := (sendStop_stopDerived held').trans (sent b)
    have told : ∀ n fields u, headNotice n fields (stopDerived f b u s') =
        tell (byte n :: byte (headNumber s) :: fields) (sends u) := fun n fields u => by
      have head : HeadKept s' (sendCommand f .stop .fwd .full s') := headKept_steps.sendCommand f _ _ _ s'
      rw [← sent u]
      exact headNotice_tells n fields ⟨head.keys, head.live⟩ (kept_sendCommand f _ _ _ s').tables
    have failing : v = failedAttempt f s' → fails := fun own =>
      ⟨fun step few => own.trans <| (failedAttempt_full held' step).trans <|
          (if_neg (Nat.not_le.2 few)).trans (congrArg (·, false) (sent _)),
        fun step reached => own.trans <| (failedAttempt_full held' step).trans <|
          (if_pos reached).trans (congrArg (·, true) (told _ _ _)),
        fun step few => own.trans <| (failedAttempt_half held' step).trans <|
          (if_neg (Nat.not_le.2 few)).trans (congrArg (·, false) (sent _)),
        fun step reached => own.trans <| (failedAttempt_half held' step).trans <|
          (if_pos reached).trans (congrArg (·, true) (told _ _ _))⟩
    refine ⟨fun service => ?event, fun w z derived => deriveOne_rule derived, fun lost => ?lost, fun found =>
      ⟨fun state => statusBody_handsOff held' _ found state, fun lockout => ⟨fun state => ?_, fun other known => ?_⟩,
        fun drive => ?states⟩⟩
    case event => exact (fanStatus_serves (st := st) serves below held service).1
    case lost =>
      have own : v = _ := (statusBody_lost held' _ lost).trans (recoverFan_eq held')
      rw [holds] at own
      refine own.trans (congrArg (·, s.fans.inCommand) (headNotice_tells 0x14 _ ?_ ?_))
      · have unmarked : HeadKept s (hold { b with lost := false }) := ⟨rfl, rfl⟩
        exact rel_ite (unmarked.trans (headKept_steps.deriveOne f _)) unmarked
      · split
        · exact (kept_deriveOne f _).tables
        · rfl
    case states =>
      obtain ⟨starts, runs, stops, stands, failed, locked⟩ :=
        statusBody_rule held' (decide (r.reported.drive = .unknown)) found drive
      have standing := statusStanding_rule held' (decide (r.reported.drive = .unknown))
      refine ⟨fun state opened => ?starting, fun heeds => ?heeding, fun state => ?running, fun state => ?stopping,
        fun state => ?standing, fun state => ?failed, locked⟩
      case starting =>
        obtain ⟨trips, waits⟩ := statusStarting_unacknowledged held' state opened
        exact ⟨fun tripped => failing ((starts (.inl state)).trans (trips tripped)),
          fun safe => (starts (.inl state)).trans (waits safe)⟩
      case heeding =>
        have rule := starts (heeds.symm.imp_left And.left)
        obtain ⟨ran, goes, falls⟩ := statusStarting_heeds held' heeds
        exact ⟨fun drive wanted => (rule.trans (ran drive wanted)).trans (congrArg (·, false) (holds _)),
          fun drive wanted => rule.trans (goes drive wanted),
          fun moving other => failing (rule.trans (falls moving other))⟩
      case running =>
        obtain ⟨goes, trips, derived⟩ := statusRunning_rule held'
        exact ⟨fun drive wanted => (runs state).trans (goes drive wanted),
          fun tripped => failing ((runs state).trans (trips tripped)),
          fun safe other => (runs state).trans (derived safe other)⟩
      case stopping =>
        obtain ⟨dwells, again, waits⟩ := statusStopping_rule held'
        obtain ⟨enters, ends, joins⟩ := enterDwell_rule held'
        have entered : ∀ {u}, exchangeAfter st r = .closed → st.drive = .stopped →
            enterDwell f (s.params.dwell * 1000) s' = u → v = (u, false) := fun closed drive h =>
          ((stops state).trans (dwells closed drive)).trans (congrArg (·, false) h)
        refine ⟨fun closed drive => ⟨fun runs => ?_, fun none stays => ?_, fun none wanted commanded => ?_⟩,
          fun closed drive => ?_, fun other => (stops state).trans (waits other)⟩
        · exact entered closed drive ((enters runs).trans (holds _))
        · exact entered closed drive ((ends none (stays.imp_right .inr)).trans (holds _))
        · refine entered closed drive ((joins none wanted drive commanded).trans ?_)
          exact congrArg
            (fun l => { s' with fans := { s'.fans with recs := l, queue := s.fans.queue ++ [f] } }) (recs _)
        · exact ((stops state).trans (again closed drive)).trans (congrArg (·, false) stopAgain)
      case standing =>
        have rule := stands (by simpa using state)
        obtain ⟨woken, waits, moved⟩ := standing
        refine ⟨fun drive state unknown => rule.trans (woken drive state (decide_eq_true unknown)),
          fun drive other => rule.trans (waits drive (other.imp_right decide_eq_false)),
          fun moving => rule.trans (moved moving)⟩
      case failed =>
        obtain ⟨again, waits⟩ := statusFailed_rule held'
        exact ⟨fun tripped closed =>
            ((failed state).trans (again tripped closed)).trans (congrArg (·, false) stopAgain),
          fun other => (failed state).trans (waits other)⟩
    · have other : b.state ≠ .handsOff := fun same => FanState.noConfusion (state.symm.trans same)
      exact (statusBody_lockout held' _ found lockout other).trans (if_pos state)
    · refine (statusBody_lockout held' _ found lockout other).trans ((if_neg known).trans ?_)
      refine (becomeUnavailable_eq held').trans ?_
      exact congrArg (fun l => ({ unqueued with fans := { unqueued.fans with recs := l } }, true)) (recs _)

end Sys2Proof.Machine
end
